-- ==== Sys2Proof/Word.lean ====
section
/-! DEFINITION. The words of the WS-24: what the manual treats as bits. -/

namespace Sys2Proof

/-- A byte on a wire. -/
abbrev Byte := BitVec 8

/-- The 48-bit number a display carries (R147), most significant bit first on the bus. -/
abbrev Identity := BitVec 48

/-- One unit of a string: a 2-byte code point (R200). -/
abbrev Unit16 := BitVec 16

/-- A string of the spec. All limits count its units (R200). -/
abbrev Text := List Unit16

/-- A panel-bus segment, 0..3. -/
abbrev Seg := Fin 4

end Sys2Proof
end

