-- ==== Sys2Proof/Syntax.lean ====
section
/-! DEFINITION. The commands of the WS-24: one constructor per row of spec/opcode_table.json. -/

namespace Sys2Proof

/-- The two master links (Connections table of the scope chapter). -/
inductive LinkId where
  | safety | hotel
  deriving DecidableEq, Repr

/-- The other link. -/
def LinkId.peer : LinkId → LinkId
  | .safety => .hotel
  | .hotel => .safety

/-- The commands. A request kind carries the link, the tag and the body bytes of its frame as they
stand on the wire (R201). The command is the completion of that frame on that link: start byte,
length, tag, kind, body and a correct CRC-16 have been received (log 1). -/
inductive Instr where
  -- Requests of the safety link's area, kinds 10h..25h
  | planOpen (l : LinkId) (tag : Byte) (body : List Byte)
  | planWrite (l : LinkId) (tag : Byte) (body : List Byte)
  | planAbandon (l : LinkId) (tag : Byte) (body : List Byte)
  | planCommit (l : LinkId) (tag : Byte) (body : List Byte)
  | bind (l : LinkId) (tag : Byte) (body : List Byte)
  | setCondition (l : LinkId) (tag : Byte) (body : List Byte)
  | softDetourSet (l : LinkId) (tag : Byte) (body : List Byte)
  | softDetourClear (l : LinkId) (tag : Byte) (body : List Byte)
  | confirm (l : LinkId) (tag : Byte) (body : List Byte)
  | fixedDetour (l : LinkId) (tag : Byte) (body : List Byte)
  | alert (l : LinkId) (tag : Byte) (body : List Byte)
  | cancelAlert (l : LinkId) (tag : Byte) (body : List Byte)
  | muster (l : LinkId) (tag : Byte) (body : List Byte)
  | standdown (l : LinkId) (tag : Byte) (body : List Byte)
  | assignCabinStation (l : LinkId) (tag : Byte) (body : List Byte)
  | assignZoneStation (l : LinkId) (tag : Byte) (body : List Byte)
  | markCabin (l : LinkId) (tag : Byte) (body : List Byte)
  | setMusterTimers (l : LinkId) (tag : Byte) (body : List Byte)
  | setInstruction (l : LinkId) (tag : Byte) (body : List Byte)
  | sweep (l : LinkId) (tag : Byte) (body : List Byte)
  | segmentReset (l : LinkId) (tag : Byte) (body : List Byte)
  | revive (l : LinkId) (tag : Byte) (body : List Byte)
  -- Requests of the hotel link's area, kinds 30h..3Ch
  | setClock (l : LinkId) (tag : Byte) (body : List Byte)
  | setOffset (l : LinkId) (tag : Byte) (body : List Byte)
  | setLanguages (l : LinkId) (tag : Byte) (body : List Byte)
  | setLookahead (l : LinkId) (tag : Byte) (body : List Byte)
  | eventAdd (l : LinkId) (tag : Byte) (body : List Byte)
  | eventModify (l : LinkId) (tag : Byte) (body : List Byte)
  | eventCancel (l : LinkId) (tag : Byte) (body : List Byte)
  | eventDelete (l : LinkId) (tag : Byte) (body : List Byte)
  | textPut (l : LinkId) (tag : Byte) (body : List Byte)
  | textDelete (l : LinkId) (tag : Byte) (body : List Byte)
  | cabinGuests (l : LinkId) (tag : Byte) (body : List Byte)
  | setParkedText (l : LinkId) (tag : Byte) (body : List Byte)
  | readGuestRequests (l : LinkId) (tag : Byte) (body : List Byte)
  -- Requests divided by content, kinds 40h..44h
  | remainderSet (l : LinkId) (tag : Byte) (body : List Byte)
  | remainderClear (l : LinkId) (tag : Byte) (body : List Byte)
  | postNotice (l : LinkId) (tag : Byte) (body : List Byte)
  | withdrawNotice (l : LinkId) (tag : Byte) (body : List Byte)
  | planRead (l : LinkId) (tag : Byte) (body : List Byte)
  -- Requests on the own link, kinds 48h..4Ch
  | readAttention (l : LinkId) (tag : Byte) (body : List Byte)
  | setAttentionMask (l : LinkId) (tag : Byte) (body : List Byte)
  | setLinkTimeout (l : LinkId) (tag : Byte) (body : List Byte)
  | lastOperation (l : LinkId) (tag : Byte) (body : List Byte)
  | linkStatus (l : LinkId) (tag : Byte) (body : List Byte)
  -- Reads, kinds 50h..62h
  | planStatus (l : LinkId) (tag : Byte) (body : List Byte)
  | conditionRead (l : LinkId) (tag : Byte) (body : List Byte)
  | detourRead (l : LinkId) (tag : Byte) (body : List Byte)
  | remainderRead (l : LinkId) (tag : Byte) (body : List Byte)
  | routeStatus (l : LinkId) (tag : Byte) (body : List Byte)
  | routeRead (l : LinkId) (tag : Byte) (body : List Byte)
  | programmeStatus (l : LinkId) (tag : Byte) (body : List Byte)
  | eventRead (l : LinkId) (tag : Byte) (body : List Byte)
  | eventList (l : LinkId) (tag : Byte) (body : List Byte)
  | textRead (l : LinkId) (tag : Byte) (body : List Byte)
  | cabinRead (l : LinkId) (tag : Byte) (body : List Byte)
  | readOutstanding (l : LinkId) (tag : Byte) (body : List Byte)
  | readStranded (l : LinkId) (tag : Byte) (body : List Byte)
  | musterStatus (l : LinkId) (tag : Byte) (body : List Byte)
  | cardRead (l : LinkId) (tag : Byte) (body : List Byte)
  | noticeRead (l : LinkId) (tag : Byte) (body : List Byte)
  | displayRead (l : LinkId) (tag : Byte) (body : List Byte)
  | segmentStatus (l : LinkId) (tag : Byte) (body : List Byte)
  | queueRead (l : LinkId) (tag : Byte) (body : List Byte)
  -- Events of the link ports
  | unknownKind (l : LinkId) (tag kind : Byte) (body : List Byte)
  | badCrcFrame (l : LinkId) (tag kind : Byte) (body : List Byte) (crc : BitVec 16)
  | frameWhileBusy (l : LinkId) (tag kind : Byte) (body : List Byte)
  | receiveGap (l : LinkId)
  | answerSent (l : LinkId)
  | silenceTimerExpiry (l : LinkId)
  -- Reset, alarm line, muster timers
  | reset
  | generalAlarmAsserted
  | generalAlarmDeasserted
  | generalAlarmEvent
  | overdueTimerExpiry
  | standDownHoldExpiry
  -- Completions
  | commitCompletion
  | bindCompletion
  | fixedDetourCompletion
  | latchSetCompletion
  | latchClearCompletion
  | settingsWriteCompletion
  | computationCompletion
  | minuteEvent
  -- Sweep
  | sweepStart (g : Seg)
  | automaticSweepTimerExpiry (g : Seg)
  | presence (g : Seg) (driven : Bool)
  | bit (g : Seg) (driven : Bool)
  | capabilityReply (g : Seg) (addr : Nat) (identity : Identity) (panel capacity lines firmware : Byte)
  | assignReplyTimeout (g : Seg)
  -- Delivery
  | cardExchange (g : Seg)
  | pollExchange (g : Seg)
  | ack (g : Seg) (addr : Nat)
  | nak (g : Seg) (addr : Nat)
  | pollNone (g : Seg) (addr : Nat)
  | pollNak (g : Seg) (addr : Nat)
  | report (g : Seg) (addr : Nat) (kind code overrun : Byte)
  | panelReplyTimeout (g : Seg)
  | refreshLimitExpiry (g : Seg) (addr : Nat)
  | creditRefill
  | dispatch
  -- Receiver and clock
  | startByte (l : LinkId)
  | lengthOutOfRange (l : LinkId) (n : Byte)
  | missingStopBit (l : LinkId)
  | clockRunStateHeld
  deriving DecidableEq, Repr

end Sys2Proof
end

