-- ==== Sys2Proof/Decode.lean ====
section
/-! DEFINITION. Reading a command. The table gives no row any bits, so no table word spells a command.
The request kind values of R201 say which command a request frame of a master link is. -/

namespace Sys2Proof

/-- The kinds of R201 and the command of each. Every other kind value is UNKNOWN_KIND (R187 step 1). -/
def Instr.ofFrame (l : LinkId) (tag kind : Byte) (body : List Byte) : Instr :=
  match kind.toNat with
  | 0x10 => .planOpen l tag body
  | 0x11 => .planWrite l tag body
  | 0x12 => .planAbandon l tag body
  | 0x13 => .planCommit l tag body
  | 0x14 => .bind l tag body
  | 0x15 => .setCondition l tag body
  | 0x16 => .softDetourSet l tag body
  | 0x17 => .softDetourClear l tag body
  | 0x18 => .confirm l tag body
  | 0x19 => .fixedDetour l tag body
  | 0x1A => .alert l tag body
  | 0x1B => .cancelAlert l tag body
  | 0x1C => .muster l tag body
  | 0x1D => .standdown l tag body
  | 0x1E => .assignCabinStation l tag body
  | 0x1F => .assignZoneStation l tag body
  | 0x20 => .markCabin l tag body
  | 0x21 => .setMusterTimers l tag body
  | 0x22 => .setInstruction l tag body
  | 0x23 => .sweep l tag body
  | 0x24 => .segmentReset l tag body
  | 0x25 => .revive l tag body
  | 0x30 => .setClock l tag body
  | 0x31 => .setOffset l tag body
  | 0x32 => .setLanguages l tag body
  | 0x33 => .setLookahead l tag body
  | 0x34 => .eventAdd l tag body
  | 0x35 => .eventModify l tag body
  | 0x36 => .eventCancel l tag body
  | 0x37 => .eventDelete l tag body
  | 0x38 => .textPut l tag body
  | 0x39 => .textDelete l tag body
  | 0x3A => .cabinGuests l tag body
  | 0x3B => .setParkedText l tag body
  | 0x3C => .readGuestRequests l tag body
  | 0x40 => .remainderSet l tag body
  | 0x41 => .remainderClear l tag body
  | 0x42 => .postNotice l tag body
  | 0x43 => .withdrawNotice l tag body
  | 0x44 => .planRead l tag body
  | 0x48 => .readAttention l tag body
  | 0x49 => .setAttentionMask l tag body
  | 0x4A => .setLinkTimeout l tag body
  | 0x4B => .lastOperation l tag body
  | 0x4C => .linkStatus l tag body
  | 0x50 => .planStatus l tag body
  | 0x51 => .conditionRead l tag body
  | 0x52 => .detourRead l tag body
  | 0x53 => .remainderRead l tag body
  | 0x54 => .routeStatus l tag body
  | 0x55 => .routeRead l tag body
  | 0x56 => .programmeStatus l tag body
  | 0x57 => .eventRead l tag body
  | 0x58 => .eventList l tag body
  | 0x59 => .textRead l tag body
  | 0x5A => .cabinRead l tag body
  | 0x5B => .readOutstanding l tag body
  | 0x5C => .readStranded l tag body
  | 0x5D => .musterStatus l tag body
  | 0x5E => .cardRead l tag body
  | 0x5F => .noticeRead l tag body
  | 0x60 => .displayRead l tag body
  | 0x61 => .segmentStatus l tag body
  | 0x62 => .queueRead l tag body
  | _ => .unknownKind l tag kind body

/-- Is the kind value one of R201's table? -/
def knownKind (kind : Byte) : Bool :=
  let k := kind.toNat
  (0x10 ≤ k && k ≤ 0x25) || (0x30 ≤ k && k ≤ 0x3C) || (0x40 ≤ k && k ≤ 0x44) || (0x48 ≤ k && k ≤ 0x4C) || (0x50 ≤ k && k ≤ 0x62)

/-- spec/opcode_table.json gives none of its rows bits, so a table word spells no command (log 7). -/
def decodeTableWord (_nbits _w : Nat) : Option Instr := none

end Sys2Proof
end

