-- ==== Sys2Proof/Machine/Bytes.lean ====
section
/-! DEFINITION. Byte order, bit order and the two cyclic redundancy checks of the wires. -/

namespace Sys2Proof.Machine

/-- Numbers on the wire, high byte first (R200). -/
def byte (n : Nat) : Byte := BitVec.ofNat 8 n
def be2 (n : Nat) : List Byte := [byte (n / 256), byte n]
def be3 (n : Nat) : List Byte := [byte (n / 65536), byte (n / 256), byte n]
def be6 (n : Nat) : List Byte :=
  [byte (n / 1099511627776), byte (n / 4294967296), byte (n / 16777216), byte (n / 65536), byte (n / 256), byte n]

def read2 (a b : Byte) : Nat := a.toNat * 256 + b.toNat
def read3 (a b c : Byte) : Nat := a.toNat * 65536 + b.toNat * 256 + c.toNat

/-- Two's complement of 16 bits, for the local offset (R200). -/
def readSigned2 (a b : Byte) : Int :=
  let n := read2 a b
  if n < 32768 then Int.ofNat n else Int.ofNat n - 65536

def beSigned2 (v : Int) : List Byte := be2 (v % 65536).toNat

/-- The bits of a byte, most significant first. -/
def bitsOfByte (b : Byte) : List Bool := (List.range 8).map b.getMsbD

/-- The 48 bits of an identity, bit 47 first (R150). -/
def bitsOfIdentity (i : Identity) : List Bool := (List.range 48).map i.getMsbD

/-- One bit of the CRC-8 with polynomial x^8 + x^2 + x + 1 (R151). -/
def crc8Step (c : BitVec 8) (b : Bool) : BitVec 8 :=
  if c.msb != b then (c <<< 1) ^^^ 0x07#8 else c <<< 1

/-- CRC-8 over bits in the order they are taken, initial value 0, no reflection, no final inversion. -/
def crc8Bits (bs : List Bool) : BitVec 8 := bs.foldl crc8Step 0#8

/-- The check value of an identity (R151). -/
def identityCheck (i : Identity) : BitVec 8 := crc8Bits (bitsOfIdentity i)

/-- CRC-8 over bytes, most significant bit first (R203). -/
def crc8 (bs : List Byte) : Byte := crc8Bits (bs.flatMap bitsOfByte)

/-- One bit of the CRC-16 with polynomial 1021h (R185). -/
def crc16Step (c : BitVec 16) (b : Bool) : BitVec 16 :=
  if c.msb != b then (c <<< 1) ^^^ 0x1021#16 else c <<< 1

/-- CRC-16 over bytes, initial value FFFFh, most significant bit of each byte first (R185). -/
def crc16 (bs : List Byte) : BitVec 16 := (bs.flatMap bitsOfByte).foldl crc16Step 0xFFFF#16

/-- The check of a request frame: over length byte, tag, kind and body (R185). -/
def frameCheck (tag kind : Byte) (body : List Byte) : BitVec 16 :=
  crc16 (byte (body.length + 2) :: tag :: kind :: body)

/-- A string of the wire: a count of units, then 2 bytes each (R200). -/
def encodeText (t : Text) : List Byte := byte t.length :: t.flatMap (fun u => be2 u.toNat)

end Sys2Proof.Machine
end

