-- ==== Sys2Proof/Config.lean ====
section
/-! DEFINITION. What an implementation fixes: sizes of the tables (Key figures of the scope chapter)
and the values the spec leaves open. -/

namespace Sys2Proof.Config

/-- FREE VALUE (log 4). R26 says that a reset during a BIND, FIXED DETOUR, LATCH or SETTINGS write
leaves either the old or the new content and not which. The `n`-th such question is answered by
`writeKept n`: `true` keeps what was being written. Nothing constrains it. -/
opaque writeKept : Nat → Bool

def nodeCount : Nat := 96
def edgeCount : Nat := 160
def zoneCount : Nat := 8
def stationCount : Nat := 8
def venueCount : Nat := 32
def portalCount : Nat := 8
def cabinCount : Nat := 160
def placementCount : Nat := 192
def signVenueLimit : Nat := 12
def destinationLimit : Nat := 24
def eventLimit : Nat := 128
def textLimit : Nat := 1024
def noticeSlots : Nat := 32
def inboundLimit : Nat := 48
def guestLimit : Nat := 16
def creditLimit : Nat := 6
def addressCount : Nat := 48
/-- The cost that means "no route" (R45). -/
def noRoute : Nat := 65535
/-- The bound at which costs and walked lengths saturate (R56). -/
def routeCap : Nat := 65534
/-- Seconds: general-alarm debounce (R101), e-paper refresh limit (R169), automatic sweep interval
(R148), credit refill (R175). -/
def debounceSeconds : Nat := 2
def refreshSeconds : Nat := 15
def sweepSeconds : Nat := 60
def refillSeconds : Nat := 600

end Sys2Proof.Config
end

