-- ==== Sys2Proof/Machine/Table.lean ====
section
/-! DEFINITION. Records by key: a list of key and value pairs with strictly rising keys. The spec's
indexed tables (plan records, conditions, events, texts, notices, display records) are held so. -/

namespace Sys2Proof.Machine

/-- A table of records by key. Canonical form: keys strictly rising (`Table.wf`). -/
abbrev Table (α : Type) := List (Nat × α)

/-- The record at key `k`, if one is defined. -/
def Table.get {α : Type} : Table α → Nat → Option α
  | [], _ => none
  | (k', v) :: t, k => if k = k' then some v else Table.get t k

/-- Is a record defined at `k`? -/
def Table.has {α : Type} (t : Table α) (k : Nat) : Bool := (Table.get t k).isSome

/-- Write the record at `k`, replacing an earlier one. -/
def Table.put {α : Type} : Table α → Nat → α → Table α
  | [], k, v => [(k, v)]
  | (k', v') :: t, k, v =>
    if k < k' then (k, v) :: (k', v') :: t
    else if k = k' then (k, v) :: t
    else (k', v') :: Table.put t k v

/-- Remove the record at `k`. -/
def Table.del {α : Type} : Table α → Nat → Table α
  | [], _ => []
  | (k', v') :: t, k => if k = k' then Table.del t k else (k', v') :: Table.del t k

/-- Write or remove. -/
def Table.set {α : Type} (t : Table α) (k : Nat) : Option α → Table α
  | some v => Table.put t k v
  | none => Table.del t k

/-- Apply `f` to every record, keys unchanged. -/
def Table.mapVals {α β : Type} (f : Nat → α → β) : Table α → Table β
  | [] => []
  | (k, v) :: t => (k, f k v) :: Table.mapVals f t

/-- Keep the records that `p` accepts. -/
def Table.keep {α : Type} (p : Nat → α → Bool) : Table α → Table α
  | [] => []
  | (k, v) :: t => if p k v then (k, v) :: Table.keep p t else Table.keep p t

/-- The keys, in rising order. -/
def Table.keys {α : Type} (t : Table α) : List Nat := t.map (·.1)

/-- Every key of the tail is above `k`. -/
def Table.above {α : Type} (k : Nat) (t : Table α) : Bool := t.all (fun p => decide (k < p.1))

/-- The canonical form: keys strictly rising. -/
def Table.wf {α : Type} : Table α → Bool
  | [] => true
  | (k, _) :: t => Table.above k t && Table.wf t

/-- The first `some` of `f` over a list, in list order. -/
def firstSome {α β : Type} (f : α → Option β) : List α → Option β
  | [] => none
  | a :: as => match f a with
    | some b => some b
    | none => firstSome f as

/-- The first `some` of a table's records, in rising key order. -/
def Table.first {α β : Type} (f : Nat → α → Option β) : Table α → Option β
  | [] => none
  | (k, v) :: t => match f k v with
    | some b => some b
    | none => Table.first f t

end Sys2Proof.Machine
end

