-- ==== Sys2Proof/Machine/PlanTypes.lean ====
section
/-! DEFINITION. The records of the deck plan (R1 to R7) and of the condition table and route engine. -/

namespace Sys2Proof.Machine

/-- Edge classes (R2). -/
inductive EdgeClass where
  | corridor | stair | lift | crew
  deriving DecidableEq, Repr

/-- Portal classes (R5). -/
inductive PortalClass where
  | stair | lift
  deriving DecidableEq, Repr

/-- Location of a station or venue (R3, R4): a local node, or REMOTE. -/
inductive Location where
  | node (n : Nat) | remote
  deriving DecidableEq, Repr

/-- R1. -/
structure Node where
  zone : Nat
  venue : Option Nat
  deriving DecidableEq, Repr

/-- R2. -/
structure Edge where
  a : Nat
  b : Nat
  cls : EdgeClass
  length : Nat
  bearing : Nat
  zone : Nat
  deriving DecidableEq, Repr

/-- R3: a zone's default station. -/
structure Zone where
  station : Nat
  deriving DecidableEq, Repr

/-- R3. -/
structure Station where
  label : Text
  loc : Location
  deriving DecidableEq, Repr

/-- R4. -/
structure Venue where
  label : Text
  loc : Location
  deriving DecidableEq, Repr

/-- R5. -/
structure Portal where
  node : Nat
  cls : PortalClass
  bearing : Nat
  deriving DecidableEq, Repr

/-- R6, the plan part. -/
structure Cabin where
  number : Nat
  door : Nat
  station : Nat
  deriving DecidableEq, Repr

/-- R7: the role of a placement with the fields that belong to it. -/
inductive Role where
  | door (cabin : Nat)
  | corridor (signs : List Nat)
  | venue (v : Nat)
  deriving DecidableEq, Repr

/-- R7. -/
structure Placement where
  role : Role
  node : Nat
  facing : Nat
  expected : Option Identity
  deriving DecidableEq, Repr

/-- A plan: eight tables of records (01 The Deck Plan). -/
structure Plan where
  nodes : Table Node
  edges : Table Edge
  zones : Table Zone
  stations : Table Station
  venues : Table Venue
  portals : Table Portal
  cabins : Table Cabin
  placements : Table Placement
  deriving DecidableEq, Repr

/-- The plan with no records. -/
def Plan.empty : Plan := ⟨[], [], [], [], [], [], [], []⟩

/-- The eight record kinds in the order of R13. -/
inductive RecordKind where
  | node | edge | zone | station | venue | portal | cabin | placement
  deriving DecidableEq, Repr

/-- One record of a plan, of any kind. -/
inductive Record where
  | node (r : Node)
  | edge (r : Edge)
  | zone (r : Zone)
  | station (r : Station)
  | venue (r : Venue)
  | portal (r : Portal)
  | cabin (r : Cabin)
  | placement (r : Placement)
  deriving DecidableEq, Repr

/-- A committed plan with its serial (R8). -/
structure ActivePlan where
  plan : Plan
  serial : Nat
  deriving DecidableEq, Repr

/-- Edge conditions (R28): OPEN, CROWDED, SMOKE, CLOSED. -/
inductive Condition where
  | openEdge | crowded | smoke | closed
  deriving DecidableEq, Repr

/-- A detour in a zone's slot (R30). -/
structure Detour where
  blocked : Nat
  opened : Nat
  fixed : Bool
  deriving DecidableEq, Repr

/-- A zone and two edges, as SOFT DETOUR SET, CONFIRM and FIXED DETOUR carry them (R31). -/
structure DetourFields where
  zone : Nat
  blocked : Nat
  opened : Nat
  deriving DecidableEq, Repr

/-- A portal remainder entry (R40). -/
structure Remainder where
  cost : Nat
  walked : Nat
  deriving DecidableEq, Repr

/-- Route profile (R46). -/
inductive Profile where
  | safety | normal
  deriving DecidableEq, Repr

inductive DestKind where
  | station | venue
  deriving DecidableEq, Repr

/-- Origin of a destination entry (R50). -/
inductive Origin where
  | station | sign | programme
  deriving DecidableEq, Repr

/-- A destination entry (R50). Its position is its place in the list. -/
structure Dest where
  kind : DestKind
  index : Nat
  loc : Location
  origin : Origin
  deriving DecidableEq, Repr

/-- The next-hop of a result record (R45). -/
inductive Hop where
  | none | here | portal (i : Nat) | edge (i : Nat)
  deriving DecidableEq, Repr

/-- A result record (R45). -/
structure RouteResult where
  dist : Nat
  walked : Nat
  hop : Hop
  deriving DecidableEq, Repr

/-- The snapshot of a computation (R54). -/
structure Snapshot where
  serial : Nat
  nodes : Table Node
  edges : Table Edge
  portals : Table Portal
  stations : Table Location
  venues : Table Location
  conditions : Table Condition
  detours : Table Detour
  remainders : Table Remainder
  profile : Profile
  dests : List Dest
  deriving DecidableEq, Repr

/-- A published generation (R45). `results` holds, for each entry of `dests` in order, one record
per node index 0..95. -/
structure Generation where
  number : Nat
  profile : Profile
  serial : Nat
  dests : List Dest
  results : List (List RouteResult)
  deriving DecidableEq, Repr

/-- Activity of the route engine with the snapshot of the computation in flight (R45). -/
inductive RouteActivity where
  | idle
  | computing (snap : Snapshot)
  deriving DecidableEq, Repr

end Sys2Proof.Machine
end

