-- ==== Sys2Proof/Machine/CardTypes.lean ====
section
/-! DEFINITION. Events, cabins, notices and cards: the records of chapters 4 to 6. -/

namespace Sys2Proof.Machine

/-- Run state of a set clock (R69). -/
inductive RunState where
  | running | held
  deriving DecidableEq, Repr

/-- The ship's clock when it is set (R69). -/
structure Clock where
  minute : Nat
  seconds : Nat
  run : RunState
  deriving DecidableEq, Repr

/-- Event categories (R74): SHOW, DINING, ACTIVITY, TALK, PORT, FAMILY. -/
inductive Category where
  | showing | dining | activity | talk | port | family
  deriving DecidableEq, Repr

inductive EventState where
  | scheduled | running | ended | cancelled
  deriving DecidableEq, Repr

/-- One optional title text id per language 0..3 (R74). -/
structure Titles where
  t0 : Option Nat
  t1 : Option Nat
  t2 : Option Nat
  t3 : Option Nat
  deriving DecidableEq, Repr

def Titles.get (t : Titles) : Nat → Option Nat
  | 0 => t.t0
  | 1 => t.t1
  | 2 => t.t2
  | 3 => t.t3
  | _ => none

/-- An event record (R74), keyed by its id. -/
structure Event where
  venue : Nat
  start : Nat
  stop : Nat
  category : Category
  titles : Titles
  state : EventState
  moved : Bool
  deriving DecidableEq, Repr

/-- Now and next event of a venue (R87, R88). -/
structure VenueChoice where
  now : Option Nat
  next : Option Nat
  deriving DecidableEq, Repr

/-- Aboard field of a cabin (R94). -/
inductive Aboard where
  | unknown | count (n : Nat)
  deriving DecidableEq, Repr

inductive Vacated where
  | no | guest | crew
  deriving DecidableEq, Repr

/-- Volatile fields of a cabin (R94). -/
structure CabinState where
  aboard : Aboard
  language : Nat
  name : Option Nat
  dnd : Bool
  service : Bool
  stationOverride : Option Nat
  vacated : Vacated
  deriving DecidableEq, Repr

/-- The reset values of R94. -/
def CabinState.initial : CabinState := ⟨.unknown, 0, none, false, false, none, .no⟩

/-- R94: occupied when aboard is UNKNOWN or at least 1. -/
def CabinState.occupied (c : CabinState) : Bool :=
  match c.aboard with
  | .unknown => true
  | .count n => decide (1 ≤ n)

/-- Muster instruction codes (R126). -/
inductive InstructionCode where
  | useStairs | avoidLifts | keepRight | keepLeft | waitForCrew | bringLifejacket
  deriving DecidableEq, Repr

/-- Target of a notice (R133). -/
inductive Target where
  | wholeSection
  | placement (p : Nat)
  | cabin (number : Nat)
  | zone (z : Nat)
  deriving DecidableEq, Repr

/-- A notice record (R133), keyed by its slot. -/
structure Notice where
  origin : LinkId
  target : Target
  text : Nat
  urgent : Bool
  expiry : Option Nat
  posted : Option Nat
  deriving DecidableEq, Repr

/-- Content classes (R122). -/
inductive ContentClass where
  | safety | notice | duty | parked
  deriving DecidableEq, Repr

/-- Cause of a card in a back buffer (R121). -/
inductive Cause where
  | press | other
  deriving DecidableEq, Repr

/-- Card kinds (R123). -/
inductive CardKind where
  | alert | muster | musterGeneric | standdown | notice | cabin | wayfind | venue | parked
  deriving DecidableEq, Repr

/-- The phase of a MUSTER-GENERIC card (R123). -/
inductive CardPhase where
  | alert | muster | standdown
  deriving DecidableEq, Repr

/-- Badge of a card (R123). -/
inductive Badge where
  | none | station (label : Text) | cabin (number : Nat) | venue (label : Text)
  deriving DecidableEq, Repr

/-- Marks of a card (R123). -/
structure Marks where
  drill : Bool
  dnd : Bool
  service : Bool
  urgent : Bool
  vacatedGuest : Bool
  vacatedCrew : Bool
  deriving DecidableEq, Repr

def Marks.clear : Marks := ⟨false, false, false, false, false, false⟩

/-- A route part (R124): the outcome of a route lookup (R64). `none` is UNAVAILABLE. -/
inductive RoutePart where
  | route (arrow metres minutes : Nat)
  | here
  | noRoute
  | none
  deriving DecidableEq, Repr

/-- Message codes (R124), the instruction codes of R126 among them. -/
inductive MessageCode where
  | standBy | followCrew | allClear | welcome | unassigned
  | instruction (c : InstructionCode)
  deriving DecidableEq, Repr

/-- A line of a card (R124). `text` is the text part and `second` the secondary rendering, empty when
omitted (R132). Times are local times of day. -/
inductive Line where
  | route (r : RoutePart)
  | sign (r : RoutePart) (text : Text)
  | onBoard (cat : Category) (moved : Bool) (start : Nat) (r : RoutePart) (text second : Text)
  | now (cat : Category) (start stop : Nat) (text second : Text)
  | next (cat : Category) (moved : Bool) (start : Nat) (text second : Text)
  | name (text second : Text)
  | notice (text second : Text)
  | parked (text second : Text)
  | message (code : MessageCode)
  deriving DecidableEq, Repr

/-- A card (R123). -/
structure Card where
  kind : CardKind
  primary : Nat
  secondary : Option Nat
  badge : Badge
  lines : List Line
  marks : Marks
  phase : Option CardPhase
  deriving DecidableEq, Repr

/-- A card in a buffer with the class and cause that go with it and are not sent (R121). -/
structure StoredCard where
  card : Card
  cls : ContentClass
  cause : Cause
  deriving DecidableEq, Repr

end Sys2Proof.Machine
end

