-- ==== Sys2Proof/Machine/PanelTypes.lean ====
section
/-! DEFINITION. The directory, the segments and the panel-bus frames: the records of chapters 7 and 8. -/

namespace Sys2Proof.Machine

inductive PanelKind where
  | epaper | lcd
  deriving DecidableEq, Repr

/-- Capability record of a display (R143). -/
structure Capability where
  panel : PanelKind
  capacity : Nat
  lines : Nat
  firmware : Nat
  deriving DecidableEq, Repr

inductive HeldCause where
  | noReply | refreshTimeout | displayFault
  deriving DecidableEq, Repr

/-- State of a display record with the fields present in it alone (R143): the placement in PLACED; in
HELD the prior state (`some p` PLACED on `p`, `none` ORPHAN) and the held cause. -/
inductive RecState where
  | free
  | placed (p : Nat)
  | orphan
  | held (prior : Option Nat) (cause : HeldCause)
  deriving DecidableEq, Repr

inductive BufferId where
  | x | y
  deriving DecidableEq, Repr

/-- Card buffers X and Y with the front marker (R143). -/
structure Buffers where
  x : Option StoredCard
  y : Option StoredCard
  front : BufferId
  deriving DecidableEq, Repr

/-- The recompose mark with its press note (R121), and the model's own note of a mark that stood at an entry into ALERT or
MUSTER (R167, log 36). -/
inductive Recompose where
  | clear
  | set (press entry : Bool)
  deriving DecidableEq, Repr

/-- A display record (R143), with the per-record state of the resolver (R121) and of delivery (R162). -/
structure Display where
  state : RecState
  identity : Option Identity
  capability : Option Capability
  buffers : Buffers
  toggle : Bool
  busy : Bool
  credits : Option Nat
  attempts : Nat
  refreshLimit : Option Nat
  recompose : Recompose
  looked : List Nat
  deriving DecidableEq, Repr

/-- A FREE record that remembers `i` (R143). The front marker of empty buffers is X (log 5). Toggle expected, busy flag and attempt
count are those of a record after reset, where R152 and R157 do not name them (the model's choice: log 38). -/
def Display.freed (i : Option Identity) : Display :=
  { state := .free, identity := i, capability := none, buffers := ⟨none, none, .x⟩, toggle := false, busy := false,
    credits := none, attempts := 0, refreshLimit := none, recompose := .clear, looked := [] }

inductive SweepCause where
  | startUp | automatic | request | segmentReset
  deriving DecidableEq, Repr

/-- Phase of a sweep (R146). ISOLATION and CHECK hold the bits received so far; ASSIGN holds the
chosen address and the attempts that failed. CLOSE is passed through inside one step (R155). -/
inductive SweepPhase where
  | opening
  | presence
  | isolation (rounds : Nat) (bits : Identity)
  | check (rounds : Nat) (isolated : Identity) (bits : BitVec 8)
  | assign (isolated : Identity) (addr : Nat) (failed : Nat)
  deriving DecidableEq, Repr

/-- Sweep activity (R146). -/
inductive SweepActivity where
  | idle
  | waiting (cause : SweepCause)
  | sweeping (cause : SweepCause) (phase : SweepPhase)
  deriving DecidableEq, Repr

/-- The SWEEP request outstanding on a segment, with the sweep that completes it (R156): the one that
waits or runs, or the one the sweep-again mark starts. -/
inductive RequestedSweep where
  | absent | present | next
  deriving DecidableEq, Repr

/-- Step codes 0..4 of R155. -/
inductive StepCode where
  | noneLeft | checkFailed | noAssignReply | full | complete
  deriving DecidableEq, Repr

structure LastSweep where
  cause : SweepCause
  code : StepCode
  enrolled : Nat
  muted : Nat
  deriving DecidableEq, Repr

inductive Turn where
  | card | poll
  deriving DecidableEq, Repr

/-- The exchange in flight on a segment (R162). -/
inductive Exchange where
  | card (addr : Nat)
  | poll (addr : Nat)
  deriving DecidableEq, Repr

/-- State of one segment (R146, R162). `queue` lists the records of the refresh queue in joining
order; their queue order is computed from it and the classes of the back cards (R164, log 19). -/
structure Segment where
  activity : SweepActivity
  again : Bool
  requested : RequestedSweep
  autoTimer : Option Nat
  mismatch : Nat
  enrolled : Nat
  muted : Nat
  lastSweep : Option LastSweep
  queue : List Nat
  turn : Turn
  exchange : Option Exchange
  rotation : Nat
  deriving DecidableEq, Repr

/-- The four segments. -/
structure PerSeg (α : Type) where
  s0 : α
  s1 : α
  s2 : α
  s3 : α
  deriving DecidableEq, Repr

def PerSeg.get {α : Type} (p : PerSeg α) (g : Seg) : α :=
  match g with
  | 0 => p.s0
  | 1 => p.s1
  | 2 => p.s2
  | 3 => p.s3

def PerSeg.set {α : Type} (p : PerSeg α) (g : Seg) (v : α) : PerSeg α :=
  match g with
  | 0 => { p with s0 := v }
  | 1 => { p with s1 := v }
  | 2 => { p with s2 := v }
  | 3 => { p with s3 := v }

/-- Press codes of a door display (R176). -/
inductive PressCode where
  | vacated | dnd | service
  deriving DecidableEq, Repr

/-- A display's report (R176). -/
inductive ReportKind where
  | press (c : PressCode)
  | refreshDone
  | fault (code : Nat)
  deriving DecidableEq, Repr

/-- An entry of the inbound queue (R177). -/
structure InboundEntry where
  seg : Seg
  addr : Nat
  kind : ReportKind
  overrun : Bool
  deriving DecidableEq, Repr

inductive GuestKind where
  | dndOn | dndOff | service
  deriving DecidableEq, Repr

/-- An entry of the guest request queue (R180). -/
structure GuestEntry where
  cabin : Nat
  kind : GuestKind
  minute : Option Nat
  lostEarlier : Bool
  deriving DecidableEq, Repr

/-- Frames the part sends on a segment (R203). -/
inductive BusFrame where
  | sweepOpen
  | presence
  | bit (k : Nat)
  | assign (i : Identity) (addr : Nat)
  | mute (i : Identity)
  | drop (i : Identity)
  | sweepClose
  | busReset
  | card (addr : Nat) (toggle : Bool) (c : Card)
  | poll (addr : Nat)
  deriving DecidableEq, Repr

/-- A frame sent on a segment. -/
structure Sent where
  seg : Seg
  frame : BusFrame
  deriving DecidableEq, Repr

/-- State of the panel bus controller as a whole (R162). Reservations are the poll exchanges in flight. -/
structure BusState where
  inbound : List InboundEntry
  guests : List GuestEntry
  overflow : Bool
  lossNote : Bool
  refill : Nat
  deriving DecidableEq, Repr

end Sys2Proof.Machine
end

