-- ==== Sys2Proof/Machine/LinkTypes.lean ====
section
/-! DEFINITION. The retained store's writes, and the statuses, answers and state of the link ports
(chapters 1, 5, 9 and 10). -/

namespace Sys2Proof.Machine

inductive EditState where
  | closed | editing | committing
  deriving DecidableEq, Repr

/-- The muster latch with its drill flag (R109). -/
structure Latch where
  set : Bool
  drill : Bool
  deriving DecidableEq, Repr

/-- The two kinds of latch write (R109). -/
inductive LatchWrite where
  | set (drill : Bool)
  | clear
  deriving DecidableEq, Repr

/-- What a settings write carries (R117, R195). -/
inductive SettingsWrite where
  | timers (overdue hold : Nat)
  | silence (l : LinkId) (seconds : Nat)
  deriving DecidableEq, Repr

/-- A write of the retained store (R25). A commit writes the shadow plan, which cannot change
meanwhile (R18), with the new serial. -/
inductive Write where
  | commit (serial : Nat)
  | bind (placement : Nat) (identity : Identity) (loser : Option Nat)
  | fixedDetour (f : DetourFields)
  | latch (w : LatchWrite)
  | settings (w : SettingsWrite)
  deriving DecidableEq, Repr

/-- Activity of the retained store as PLAN STATUS reports it (R20). -/
inductive WriteKind where
  | commit | bind | fixedDetour | latchSet | latchClear | settings
  deriving DecidableEq, Repr

/-- Muster states with the stand-down phase, which STANDDOWN alone has (R93). -/
inductive StandPhase where
  | holding | clearing
  deriving DecidableEq, Repr

inductive MusterState where
  | quiet | alert | muster
  | standdown (p : StandPhase)
  deriving DecidableEq, Repr

inductive OverdueTimer where
  | stopped | running (left : Nat) | expired
  deriving DecidableEq, Repr

/-- General-alarm debounce watch (R101). -/
inductive AlarmWatch where
  | idle | timing (left : Nat) | given
  deriving DecidableEq, Repr

/-- Tally of one station (R113). -/
structure StationTally where
  occupied : Nat
  vacated : Nat
  outstanding : Nat
  list : List Nat
  deriving DecidableEq, Repr

/-- An entry of the stranded list (R118). -/
inductive Stranded where
  | placement (index station : Nat)
  | cabin (index station : Nat)
  deriving DecidableEq, Repr

/-- Statuses in the order of R202. -/
inductive Status where
  | ok | accepted | busy | denied | state | badField | notFound | exists | full | unknownKind | taken | incomplete
  deriving DecidableEq, Repr

/-- Reasons in the order of R202. -/
inductive Reason where
  | length | reference | zoneStation | selfLoop | venueNode | doorNode | cabinNumber | duplicateIdentity
  | signVenues | sameEdge | notCrew | zoneMismatch | times | expiry | range
  deriving DecidableEq, Repr

/-- The subject of a refusal (R202). -/
inductive Subject where
  | none | position (n : Nat) | record (k : RecordKind) (index : Nat)
  deriving DecidableEq, Repr

/-- Attention sources of both links (R196). -/
inductive Source where
  | musterByLine | stranded | overdue | stationClear | displayHeld | duplicateIdentity | orphanSeen
  | operationDone | planAbandoned | peerLost | reload | guestRequest | musterState
  deriving DecidableEq, Repr

inductive LinkState where
  | live | lost
  deriving DecidableEq, Repr

inductive SilenceTimer where
  | running (left : Nat) | held | stopped
  deriving DecidableEq, Repr

/-- Kinds of operations that take time (R189). -/
inductive OpKind where
  | planCommit | bind | fixedDetour | sweep | settings
  deriving DecidableEq, Repr

/-- An entry of the in-flight list (R189). -/
structure OpEntry where
  kind : OpKind
  tag : Byte
  seg : Option Seg
  deriving DecidableEq, Repr

/-- Outcomes entered at completion (R189). -/
inductive OpOutcome where
  | commit (serial : Nat)
  | bind (placement : Nat) (identity : Identity) (placed : Option (Seg × Nat))
  | fixedDetour (f : DetourFields)
  | sweep (g : Seg) (code : StepCode) (enrolled muted : Nat)
  | settings (w : SettingsWrite)
  deriving DecidableEq, Repr

structure OpDone where
  kind : OpKind
  tag : Byte
  outcome : OpOutcome
  deriving DecidableEq, Repr

/-! Results of the reads. Each lists what its rule says the answer returns, in that order. -/

structure PlanStatusResult where
  edit : EditState
  hasPlan : Bool
  serial : Nat
  activeCounts : List Nat
  shadowCounts : Option (List Nat)
  writing : Option WriteKind
  latchWaiting : Bool
  deriving DecidableEq, Repr

structure LinkStatusResult where
  safety : LinkState
  hotel : LinkState
  safetyTimeout : Nat
  hotelTimeout : Nat
  silence : SilenceTimer
  enables : List (Source × Bool)
  pending : List Source
  deriving DecidableEq, Repr

structure RouteStatusResult where
  profile : Profile
  computing : Bool
  pending : Bool
  number : Nat
  published : Option (Profile × Nat)
  dests : List (Dest × Bool)
  deriving DecidableEq, Repr

structure ProgrammeStatusResult where
  clock : Option (Clock × Nat)
  offset : Int
  lookahead : Nat
  primary : Nat
  secondary : Nat
  scheduled : Nat
  running : Nat
  ended : Nat
  cancelled : Nat
  texts : Nat
  programme : List Nat
  onBoard : Option Nat
  venues : List VenueChoice
  deriving DecidableEq, Repr

structure CabinReadResult where
  index : Nat
  door : Nat
  defaultStation : Nat
  cabin : CabinState
  station : Nat
  counted : Bool
  deriving DecidableEq, Repr

structure OutstandingResult where
  occupied : Nat
  vacated : Nat
  outstanding : Nat
  serial : Nat
  cabins : List Nat
  deriving DecidableEq, Repr

structure StrandedResult where
  length : Nat
  generation : Nat
  entries : List Stranded
  deriving DecidableEq, Repr

structure MusterStatusResult where
  state : MusterState
  drill : Bool
  latchCopy : Latch
  latchInFlight : Option LatchWrite
  latchWaiting : Option LatchWrite
  overdue : OverdueTimer
  hold : Option Nat
  overdueTime : Nat
  holdTime : Nat
  line : Bool
  watch : AlarmWatch
  counts : List (Nat × Nat × Nat)
  serial : Nat
  strandedLength : Nat
  strandedGen : Nat
  deriving DecidableEq, Repr

structure CardReadResult where
  state : RecState
  cls : Option (ContentClass × CardKind)
  front : Option Card
  back : Option StoredCard
  inQueue : Bool
  inTransit : Bool
  recompose : Recompose
  deriving DecidableEq, Repr

structure NoticeReadResult where
  slots : List (Option (Notice × Nat))
  instructions : List (Option InstructionCode)
  parked : List (Option Nat)
  deriving DecidableEq, Repr

structure DisplayReadResult where
  state : RecState
  identity : Option Identity
  capability : Option Capability
  placement : Option Nat
  cabin : Option Nat
  credits : Option Nat
  attempts : Nat
  busy : Bool
  toggle : Bool
  inQueue : Bool
  deriving DecidableEq, Repr

structure SegmentStatusResult where
  activity : SweepActivity
  again : Bool
  outstanding : Bool
  autoTimer : Option Nat
  lastSweep : Option LastSweep
  free : Nat
  placed : Nat
  orphan : Nat
  held : Nat
  queueLength : Nat
  deriving DecidableEq, Repr

/-- Standing of a record in its refresh queue (R182). -/
inductive QueueStanding where
  | ready | busy | noCredit
  deriving DecidableEq, Repr

structure QueueItem where
  addr : Nat
  cls : ContentClass
  cause : Cause
  standing : QueueStanding
  deriving DecidableEq, Repr

structure QueueReadResult where
  items : List QueueItem
  turn : Turn
  exchange : Option Exchange
  rotation : Nat
  inbound : Nat
  reservations : Nat
  guests : Nat
  overflow : Bool
  lossNote : Bool
  refill : Nat
  deriving DecidableEq, Repr

/-- The detail of an answer (R202), before its encoding. -/
inductive Detail where
  | empty
  | steps (n : Nat)
  | refusal (r : Option Reason) (s : Subject)
  | slot (n : Nat)
  | guestRequests (entries : List GuestEntry) (overflow : Bool) (left : Nat)
  | planRecord (r : Record)
  | attention (code : Nat) (set : List Source)
  | timers (overdue hold : Nat)
  | timeout (seconds : Nat)
  | lastOperation (inFlight : List OpEntry) (last : Option OpDone)
  | linkStatus (r : LinkStatusResult)
  | planStatus (r : PlanStatusResult)
  | conditions (cs : List (Option Condition))
  | detours (slots : List (Option Detour)) (writing : Option DetourFields)
  | remainders (rs : List (Option Remainder))
  | routeStatus (r : RouteStatusResult)
  | routeNodes (number : Nat) (p : Profile) (rs : List RouteResult)
  | routePlacement (number : Nat) (p : Profile) (r : RoutePart)
  | programmeStatus (r : ProgrammeStatusResult)
  | event (id : Nat) (e : Event)
  | events (es : List (Nat × Event)) (more : Bool)
  | text (t : Text)
  | cabin (r : CabinReadResult)
  | outstanding (r : OutstandingResult)
  | stranded (r : StrandedResult)
  | musterStatus (r : MusterStatusResult)
  | card (r : CardReadResult)
  | notices (r : NoticeReadResult)
  | display (r : DisplayReadResult)
  | segment (r : SegmentStatusResult)
  | queue (r : QueueReadResult)
  deriving DecidableEq, Repr

/-- A block's outcome for a request (R187): one status and its detail. -/
structure Reply where
  status : Status
  detail : Detail
  deriving DecidableEq, Repr

/-- An answer frame's content (R202): tag and kind echoed. -/
structure Answer where
  tag : Byte
  kind : Byte
  reply : Reply
  deriving DecidableEq, Repr

/-- Receiver of a port (R184). The bytes are those after the start byte. -/
inductive Receiver where
  | hunting
  | receiving (bytes : List Byte)
  deriving DecidableEq, Repr

/-- Port state (R183). -/
inductive PortState where
  | ready
  | handling (tag kind : Byte)
  | answering (a : Answer)
  deriving DecidableEq, Repr

/-- A link port (R183). `pendingSet` is the attention set and `mask` the enabled sources, both in the
priority order of R196. -/
structure Port where
  receiver : Receiver
  state : PortState
  live : LinkState
  silence : SilenceTimer
  timeout : Nat
  pendingSet : List Source
  mask : List Source
  inFlight : List OpEntry
  lastDone : Option OpDone
  deriving DecidableEq, Repr

/-- The two ports. -/
structure PerLink (α : Type) where
  safety : α
  hotel : α
  deriving DecidableEq, Repr

def PerLink.get {α : Type} (p : PerLink α) : LinkId → α
  | .safety => p.safety
  | .hotel => p.hotel

def PerLink.set {α : Type} (p : PerLink α) (l : LinkId) (v : α) : PerLink α :=
  match l with
  | .safety => { p with safety := v }
  | .hotel => { p with hotel := v }

end Sys2Proof.Machine
end

