-- ==== Sys2Proof/Machine/State.lean ====
section
/-! DEFINITION. The state of the WS-24 as plain data, and the state right after reset. Each block owns its
part (Block overview of the scope chapter). -/

namespace Sys2Proof.Machine

/-- Retained store (R24, R25): the areas, the write in flight and the latch write waiting. -/
structure RetainedStore where
  plan : Option ActivePlan
  fixed : Table Detour
  latch : Latch
  silenceSafety : Nat
  silenceHotel : Nat
  overdueTime : Nat
  holdTime : Nat
  inFlight : Option Write
  waiting : Option LatchWrite
  deriving DecidableEq, Repr

/-- Plan store (R8). `none` in `active` is PLANLESS operation (R19). -/
structure PlanStore where
  active : Option ActivePlan
  shadow : Plan
  edit : EditState
  deriving DecidableEq, Repr

/-- Condition table (R27). An edge not listed in `edges` is OPEN. `remainders` is keyed by
portal * 40 + column, station columns first (R40). -/
structure ConditionTable where
  edges : Table Condition
  slots : Table Detour
  writing : Option DetourFields
  progress : Nat
  fields : Option DetourFields
  remainders : Table Remainder
  deriving DecidableEq, Repr

/-- Route engine (R45). -/
structure RouteEngine where
  profile : Profile
  dests : List Dest
  activity : RouteActivity
  pending : Bool
  number : Nat
  published : Option Generation
  deriving DecidableEq, Repr

/-- Programme timeline (R69). `texts` is keyed by text id * 4 + language. `venues` lists the venues
with a now or next event. -/
structure Timeline where
  clock : Option Clock
  offset : Int
  lookahead : Nat
  primary : Nat
  secondary : Nat
  events : Table Event
  texts : Table Text
  venues : Table VenueChoice
  onBoard : Option Nat
  programme : List Nat
  deriving DecidableEq, Repr

/-- Muster controller (R93). The latch write state is read from the retained store. -/
structure MusterController where
  state : MusterState
  drill : Bool
  latchCopy : Latch
  cabins : Table CabinState
  zoneOverrides : Table Nat
  tally : List StationTally
  tallySerial : Nat
  stranded : List Stranded
  strandedGen : Nat
  overdue : OverdueTimer
  hold : Option Nat
  overdueTime : Nat
  holdTime : Nat
  watch : AlarmWatch
  deriving DecidableEq, Repr

/-- Content resolver (R121). Recompose marks and text ids looked up are kept in the display records. -/
structure Resolver where
  notices : Table Notice
  parked : Table Nat
  instructions : Table InstructionCode
  deriving DecidableEq, Repr

/-- The whole part. `dir` is the directory, keyed by `recKey`; a record not listed is FREE and remembers
nothing. `sent`, `freeCount` and `pending` are the model's own: frames sent in the last step, free
values drawn (log 4), and the commands that wait. -/
structure State where
  store : RetainedStore
  plan : PlanStore
  cond : ConditionTable
  route : RouteEngine
  prog : Timeline
  muster : MusterController
  resolver : Resolver
  dir : Table Display
  segs : PerSeg Segment
  bus : BusState
  ports : PerLink Port
  alarmLine : Bool
  sent : List Sent
  freeCount : Nat
  pending : List Instr
  deriving DecidableEq, Repr

/-- Why a step can stop with a fault: never. The spec answers a request it cannot carry out with a
status (R188) and takes a failing display out of service (R158), and stops the part nowhere. -/
inductive Fault where
  deriving DecidableEq, Repr

/-- Why a step can be refused. -/
inductive Refusal where
  /-- Raised by exec's arm of a command that has no meaning yet. Safe: nothing is claimed of it. -/
  | notModelled (mnemonic : String)
  deriving DecidableEq, Repr

/-- The key of the record at a segment and address; rising keys are directory order (R138). -/
def recKey (g : Seg) (addr : Nat) : Nat := g.val * 64 + addr

/-- A store that has never been written (R24). -/
def RetainedStore.blank : RetainedStore :=
  { plan := none, fixed := [], latch := ⟨false, false⟩, silenceSafety := 10, silenceHotel := 10, overdueTime := 15,
    holdTime := 5, inFlight := none, waiting := none }

/-- A segment after reset (R146, R162). -/
def Segment.initial : Segment :=
  { activity := .waiting .startUp, again := false, requested := .absent, autoTimer := none, mismatch := 0, enrolled := 0,
    muted := 0, lastSweep := none, queue := [], turn := .card, exchange := none, rotation := 0 }

/-- The sources of each link in descending priority (R196). -/
def sourceList : LinkId → List Source
  | .safety => [.musterByLine, .stranded, .overdue, .stationClear, .displayHeld, .duplicateIdentity, .orphanSeen,
      .operationDone, .planAbandoned, .peerLost, .reload]
  | .hotel => [.guestRequest, .musterState, .displayHeld, .peerLost, .reload]

/-- A port at the end of start-up (R183). -/
def Port.initial (l : LinkId) (timeout : Nat) : Port :=
  { receiver := .hunting, state := .ready, live := .live, silence := .running timeout, timeout := timeout,
    pendingSet := [.reload], mask := sourceList l, inFlight := [], lastDone := none }

/-- The tally with no cabin to count (R93). -/
def emptyTally : List StationTally := List.replicate 8 ⟨0, 0, 0, []⟩

/-- The part right after power-on with a retained store that has never been written, at the end of
start-up (R183): PLANLESS and QUIET, the alarm line deasserted (log 5), each segment's BUS RESET sent
and its start-up sweep requested (R160, log 15). -/
def State.reset : State :=
  { store := .blank
    plan := { active := none, shadow := .empty, edit := .closed }
    cond := { edges := [], slots := [], writing := none, progress := 0, fields := none, remainders := [] }
    route := { profile := .normal, dests := [], activity := .idle, pending := false, number := 0, published := none }
    prog := { clock := none, offset := 0, lookahead := 120, primary := 0, secondary := 1, events := [], texts := [],
              venues := [], onBoard := none, programme := [] }
    muster := { state := .quiet, drill := false, latchCopy := ⟨false, false⟩, cabins := [], zoneOverrides := [],
                tally := emptyTally, tallySerial := 0, stranded := [], strandedGen := 0, overdue := .stopped, hold := none,
                overdueTime := 15, holdTime := 5, watch := .idle }
    resolver := { notices := [], parked := [], instructions := [] }
    dir := []
    segs := ⟨.initial, .initial, .initial, .initial⟩
    bus := { inbound := [], guests := [], overflow := false, lossNote := false, refill := Config.refillSeconds }
    ports := ⟨.initial .safety 10, .initial .hotel 10⟩
    alarmLine := false
    sent := [⟨0, .busReset⟩, ⟨1, .busReset⟩, ⟨2, .busReset⟩, ⟨3, .busReset⟩]
    freeCount := 0
    pending := [] }

end Sys2Proof.Machine
end

