-- ==== Sys2Proof/Machine/Flags.lean ====
section
/-! DEFINITION. The attention sets, masks and lines of the two links (R196 to R198), and access to the ports. -/

namespace Sys2Proof.Machine

def State.port (s : State) (l : LinkId) : Port := s.ports.get l

def State.setPort (s : State) (l : LinkId) (p : Port) : State := { s with ports := s.ports.set l p }

def State.modPort (s : State) (l : LinkId) (f : Port → Port) : State := s.setPort l (f (s.port l))

/-- Code of a source (R196). -/
def Source.code : Source → Nat
  | .musterByLine => 1
  | .stranded => 2
  | .overdue => 3
  | .stationClear => 4
  | .displayHeld => 5
  | .duplicateIdentity => 6
  | .orphanSeen => 7
  | .operationDone => 8
  | .planAbandoned => 9
  | .peerLost => 10
  | .reload => 11
  | .guestRequest => 12
  | .musterState => 13

/-- The source of a link's list with the given code (R196). -/
def sourceOf (l : LinkId) (code : Nat) : Option Source := (sourceList l).find? (fun x => x.code == code)

/-- The sources of a link's list that satisfy `p`, in the priority order of R196. Attention sets are kept so, and answers list their
codes in this order, which R198 and R202 leave open (the model's choice, DESIGN CHOICE, unsafe: log 18). -/
def sourcesWhere (l : LinkId) (p : Source → Bool) : List Source := (sourceList l).filter p

/-- A source becomes pending, once (R196). -/
def State.raise (s : State) (l : LinkId) (x : Source) : State :=
  s.modPort l fun p => { p with pendingSet := sourcesWhere l fun y => y == x || p.pendingSet.contains y }

/-- Raise when a condition holds. -/
def State.raiseIf (s : State) (c : Bool) (l : LinkId) (x : Source) : State := if c then s.raise l x else s

/-- A source is cleared (R198). -/
def State.clearSource (s : State) (l : LinkId) (x : Source) : State :=
  s.modPort l fun p => { p with pendingSet := sourcesWhere l fun y => y != x && p.pendingSet.contains y }

/-- The highest-priority source both pending and enabled (R198). -/
def Port.topSource (p : Port) (l : LinkId) : Option Source :=
  (sourceList l).find? fun x => p.pendingSet.contains x && p.mask.contains x

/-- The attention line: asserted while a source is pending and enabled (R197). -/
def Port.line (p : Port) : Bool := p.pendingSet.any fun x => p.mask.contains x

end Sys2Proof.Machine
end

