-- ==== Sys2Proof/Machine/Ops.lean ====
section
/-! DEFINITION. The operations every family shares: access to segments and display records, taking a
request on a link (R186, R187), the retained store's writes (R25), the confirm sequence's end (R36)
and the last-operation record (R189). -/

namespace Sys2Proof.Machine

/-! ## Access -/

def State.seg (s : State) (g : Seg) : Segment := s.segs.get g

def State.setSeg (s : State) (g : Seg) (x : Segment) : State := { s with segs := s.segs.set g x }

def State.modSeg (s : State) (g : Seg) (f : Segment → Segment) : State := s.setSeg g (f (s.seg g))

/-- The display record with key `k`. -/
def State.display (s : State) (k : Nat) : Display := (Table.get s.dir k).getD (Display.freed none)

/-- Writes a display record. A FREE record that remembers nothing is not listed. -/
def State.setDisplay (s : State) (k : Nat) (d : Display) : State :=
  { s with dir := if d = Display.freed none then Table.del s.dir k else Table.put s.dir k d }

def keySeg (k : Nat) : Seg := Fin.ofNat 4 (k / 64)
def keyAddr (k : Nat) : Nat := k % 64

/-- The active plan, or the empty plan in PLANLESS operation (R19). -/
def State.activePlan (s : State) : Plan :=
  match s.plan.active with
  | some a => a.plan
  | none => Plan.empty

/-- R19. -/
def State.planless (s : State) : Bool := s.plan.active.isNone

def State.serial (s : State) : Nat :=
  match s.plan.active with
  | some a => a.serial
  | none => 0

/-- Frames sent by a step are listed in the order in which they go out. -/
def State.send (s : State) (g : Seg) (f : BusFrame) : State := { s with sent := s.sent ++ [⟨g, f⟩] }

/-- A step's output starts empty (log 6). -/
def State.begin (s : State) : State := { s with sent := [] }

/-- Cabin record with index `i`. -/
def State.cabin (s : State) (i : Nat) : CabinState := (Table.get s.muster.cabins i).getD CabinState.initial

/-- The index of the active plan's cabin with a number (05, Cabins). -/
def cabinIndex (p : Plan) (number : Nat) : Option Nat :=
  Table.first (fun i c => if c.number = number then some i else none) p.cabins

/-! ## Muster state -/

/-- Class SAFETY applies in ALERT, MUSTER and STANDDOWN (R122). -/
def MusterState.isSafety : MusterState → Bool
  | .quiet => false
  | _ => true

/-- The profile of a muster state (R46). -/
def MusterState.profile : MusterState → Profile
  | .alert | .muster => .safety
  | .quiet | .standdown _ => .normal

/-! ## Taking a request -/

/-- How a block settles a request: an answer at once, or an answer held back for a settings write (R190). -/
inductive Handled where
  | answer (s : State) (r : Reply)
  | hold (s : State)

/-- The areas of R192 as the port checks them. -/
inductive Area where
  | safety | hotel | shared
  deriving DecidableEq, Repr

/-- R187 step 2. -/
def Area.denies : Area → LinkId → Bool
  | .safety, .hotel => true
  | .hotel, .safety => true
  | _, _ => false

def Reply.ok : Reply := ⟨.ok, .empty⟩
def Reply.results (d : Detail) : Reply := ⟨.ok, d⟩
def Reply.accepted : Reply := ⟨.accepted, .empty⟩
def Reply.refuse (st : Status) : Reply := ⟨st, .refusal none .none⟩
def Reply.refuseAt (st : Status) (x : Subject) : Reply := ⟨st, .refusal none x⟩
/-- A refusal names a record or a position where its rule says so, and else has subject none (the model's choice: log 37). -/
def Reply.bad (r : Reason) : Reply := ⟨.badField, .refusal (some r) .none⟩
def Reply.badAt (r : Reason) (x : Subject) : Reply := ⟨.badField, .refusal (some r) x⟩

/-- Progress of the confirm sequence returns to 0 and its fields are cleared (R36). -/
def State.abandonConfirm (s : State) : State := { s with cond := { s.cond with progress := 0, fields := none } }

/-- What every valid frame does on its port (R184, R185): the receiver is HUNTING again, the silence
timer restarts unless it is HELD, and a LOST link is LIVE. -/
def Port.frameArrived (p : Port) : Port :=
  { p with
    receiver := .hunting
    live := .live
    silence := match p.silence with
      | .held => .held
      | _ => .running p.timeout }

/-- The answer goes out: the port is ANSWERING until its last byte is sent (R186). -/
def State.answer (s : State) (l : LinkId) (tag kind : Byte) (r : Reply) : State :=
  s.modPort l fun p => { p with state := .answering ⟨tag, kind, r⟩ }

/-- The block's outcome reaches the port. A held answer leaves the port HANDLING with its silence
timer HELD (R190). -/
def settle (l : LinkId) (tag kind : Byte) : Handled → State
  | .answer s r => s.answer l tag kind r
  | .hold s => s.modPort l fun p => { p with state := .handling tag kind, silence := .held }

/-- A valid frame completes on link `l` (R186). A busy port discards it. Otherwise it is taken: it
abandons a confirm sequence on the safety link (R36) unless `ownsConfirm`, is refused with DENIED when
its kind belongs to the other link's area (R187), and else goes to the block `h`. -/
def takeRequest (area : Area) (ownsConfirm : Bool) (kind : Byte) (l : LinkId) (tag : Byte) (h : State → Handled)
    (s : State) : State :=
  let arrived := s.begin.modPort l Port.frameArrived
  match (s.port l).state with
  | .ready =>
    let taken := if l = .safety && !ownsConfirm then arrived.abandonConfirm else arrived
    if area.denies l then taken.answer l tag kind (.refuse .denied)
    else settle l tag kind (h taken)
  | _ => arrived

/-- A body that does not decode is refused with BAD_FIELD and its reason (R187 step 3, R200). -/
def parsed {α : Type} (p : Except Reason α) (s : State) (f : α → Handled) : Handled :=
  match p with
  | .ok a => f a
  | .error r => .answer s (.bad r)

/-! ## The retained store -/

/-- R25: a request that needs the store is refused with BUSY. -/
def State.storeBusy (s : State) : Bool := s.store.inFlight.isSome || s.store.waiting.isSome

def State.startWrite (s : State) (w : Write) : State := { s with store := { s.store with inFlight := some w } }

/-- A latch write of the muster controller is never refused: it starts at once in an idle store, and
otherwise waits in place of one that waited (R25). -/
def State.requestLatch (s : State) (w : LatchWrite) : State :=
  match s.store.inFlight with
  | none => { s with store := { s.store with inFlight := some (.latch w), waiting := none } }
  | some _ => { s with store := { s.store with waiting := some w } }

/-- The write in flight completes and a latch write that waited starts (R25). -/
def State.finishWrite (s : State) : State :=
  { s with store := { s.store with inFlight := s.store.waiting.map Write.latch, waiting := none } }

/-! ## The last-operation record -/

/-- A long operation joins the in-flight list of its link (R189). -/
def State.beginOp (s : State) (l : LinkId) (e : OpEntry) : State :=
  s.modPort l fun p => { p with inFlight := p.inFlight ++ [e] }

/-- Its completion: the entry leaves the list and becomes the last completed one (R189). An operation
with no entry (its link was reset) leaves the record alone. -/
def Port.endOp (p : Port) (k : OpKind) (g : Option Seg) (o : OpOutcome) : Port :=
  match p.inFlight.find? fun e => e.kind == k && e.seg == g with
  | some e => { p with inFlight := p.inFlight.erase e, lastDone := some ⟨k, e.tag, o⟩ }
  | none => p

/-- Completion of a long operation of the safety link: the record is updated and OPERATION_DONE is
raised (R189). -/
def State.completeOp (s : State) (k : OpKind) (g : Option Seg) (o : OpOutcome) : State :=
  (s.modPort .safety fun p => p.endOp k g o).raise .safety .operationDone

end Sys2Proof.Machine
end

