-- ==== Sys2Proof/Machine/Routing.lean ====
section
/-! DEFINITION. Route computation (chapter 3): edge costs, one pass per destination, and the lookup that
turns a result record into an arrow and a distance. Functions of a snapshot or a generation alone. -/

namespace Sys2Proof.Machine

/-! ## Costs (R47 to R49) -/

/-- Base weight in quarters; `none` is impassable. `opened` says whether an active detour of the snapshot
opens the edge (R47). -/
def baseWeight (p : Profile) (opened : Bool) : EdgeClass → Option Nat
  | .corridor => some 4
  | .stair => some 6
  | .lift => match p with
    | .normal => some 8
    | .safety => none
  | .crew => if opened then some 4 else none

/-- What a condition adds to the weight; `none` is impassable (R28, R48). -/
def conditionWeight : Condition → Option Nat
  | .openEdge => some 0
  | .crowded => some 4
  | .smoke => some 24
  | .closed => none

def isBlocked (detours : Table Detour) (e : Nat) : Bool := detours.any fun d => d.2.blocked == e
def isOpened (detours : Table Detour) (e : Nat) : Bool := detours.any fun d => d.2.opened == e

/-- Weight of edge `i` in a snapshot, `none` when it is impassable (R48). -/
def edgeWeight (sn : Snapshot) (i : Nat) (e : Edge) : Option Nat :=
  if isBlocked sn.detours i then none
  else
    match baseWeight sn.profile (isOpened sn.detours i) e.cls,
        conditionWeight ((Table.get sn.conditions i).getD .openEdge) with
    | some w, some c => some (w + c)
    | _, _ => none

/-- ceiling(length × weight ÷ 4) (R49). -/
def walkCost (length weight : Nat) : Nat := (length * weight + 3) / 4

/-- Cost of edge `i`, `none` when it is impassable. -/
def edgeCost (sn : Snapshot) (i : Nat) (e : Edge) : Option Nat :=
  (edgeWeight sn i e).map (walkCost e.length)

/-! ## One pass (R55 to R57) -/

def RouteResult.unreached : RouteResult := ⟨Config.noRoute, 0, .none⟩

def cap (n : Nat) : Nat := min n Config.routeCap

/-- Column of a destination in a remainder row (R40). -/
def remainderColumn : DestKind → Nat → Nat
  | .station, i => i
  | .venue, i => 8 + i

def remainderKey (portal : Nat) (k : DestKind) (i : Nat) : Nat := portal * 40 + remainderColumn k i

/-- A portal of the snapshot offers its node (R55). Portals are offered in rising index, so an equal
later offer is not taken and the lower index is kept. -/
def offerPortal (sn : Snapshot) (d : Dest) (rs : List RouteResult) (p : Nat × Portal) : List RouteResult :=
  if sn.profile = .safety ∧ p.2.cls = .lift then rs
  else
    match Table.get sn.remainders (remainderKey p.1 d.kind d.index) with
    | none => rs
    | some r =>
      if r.cost < (rs.getD p.2.node .unreached).dist then rs.set p.2.node ⟨r.cost, r.walked, .portal p.1⟩ else rs

/-- The records before any node is settled: unreached, the local destination, the portal offers (R55). -/
def seeds (sn : Snapshot) (d : Dest) : List RouteResult :=
  let start := List.replicate Config.nodeCount RouteResult.unreached
  let withLocal := match d.loc with
    | .node n => start.set n ⟨0, 0, .here⟩
    | .remote => start
  sn.portals.foldl (offerPortal sn d) withLocal

/-- The unsettled node to settle next: smallest dist below 65535, lower index first (R56). The list pairs
each node's record with whether it is settled. -/
def nextNode (rs : List RouteResult) (settled : List Nat) : Option Nat :=
  (List.range rs.length).foldl
    (fun best n =>
      let r := rs.getD n .unreached
      if settled.contains n || Config.noRoute ≤ r.dist then best
      else match best with
        | none => some n
        | some m => if r.dist < (rs.getD m .unreached).dist then some n else best)
    none

/-- The other end of an edge seen from node `u`, if the edge joins `u` to another node. -/
def otherEnd (e : Edge) (u : Nat) : Option Nat :=
  if e.a = e.b then none else if e.a = u then some e.b else if e.b = u then some e.a else none

/-- The record of `m` after edge `i` is relaxed from a node with record `ru` (the table of R56). -/
def relaxRecord (ru rm : RouteResult) (i cost length : Nat) : RouteResult :=
  let c := cap (ru.dist + cost)
  if c < rm.dist then ⟨c, cap (ru.walked + length), .edge i⟩
  else if c = rm.dist then
    match rm.hop with
    | .edge j => if i < j then ⟨rm.dist, cap (ru.walked + length), .edge i⟩ else rm
    | _ => rm
  else rm

/-- Relax edge `i` from `u`, a settled node. -/
def relaxEdge (sn : Snapshot) (settled : List Nat) (u : Nat) (rs : List RouteResult) (x : Nat × Edge) : List RouteResult :=
  match otherEnd x.2 u, edgeCost sn x.1 x.2 with
  | some m, some cost =>
    if settled.contains m then rs
    else rs.set m (relaxRecord (rs.getD u .unreached) (rs.getD m .unreached) x.1 cost x.2.length)
  | _, _ => rs

/-- Settle nodes until none below 65535 is left (R56, R57). Each round settles one node, so `fuel` of one
round per node is enough. -/
def settleAll (sn : Snapshot) : Nat → List RouteResult → List Nat → List RouteResult
  | 0, rs, _ => rs
  | fuel + 1, rs, settled =>
    match nextNode rs settled with
    | none => rs
    | some u => settleAll sn fuel (sn.edges.foldl (relaxEdge sn (u :: settled) u) rs) (u :: settled)

/-- One pass (R55 to R57). -/
def routePass (sn : Snapshot) (d : Dest) : List RouteResult :=
  settleAll sn Config.nodeCount (seeds sn d) []

/-- All passes, in list order (R57). -/
def computeRoutes (sn : Snapshot) : List (List RouteResult) := sn.dests.map (routePass sn)

/-! ## Lookup (R64 to R66) -/

def sameDest (k : DestKind) (i : Nat) (d : Dest) : Bool := d.kind == k && d.index == i

/-- The results of a generation for a destination. -/
def Generation.resultsFor (g : Generation) (k : DestKind) (i : Nat) : Option (List RouteResult) :=
  ((g.dests.zip g.results).find? fun x => sameDest k i x.1).map (·.2)

/-- R66: metres shown. -/
def metresOf (walked : Nat) : Nat := min ((walked + 5) / 10) 999

/-- R66: minutes shown, at 60 m per minute. -/
def minutesOf (metres : Nat) : Nat := (metres + 59) / 60

/-- R65: the arrow index of a bearing seen by a reader who faces `facing`. -/
def arrowOf (bearing facing : Nat) : Nat := (((bearing + 16 - facing % 16) % 16 + 1) / 2) % 8

/-- R65: the bearing of a next-hop leaving node `n`. -/
def hopBearing (plan : Plan) (n : Nat) : Hop → Option Nat
  | .edge i => (Table.get plan.edges i).map fun e => if e.a = n then e.bearing % 16 else (e.bearing + 8) % 16
  | .portal i => (Table.get plan.portals i).map fun p => p.bearing % 16
  | _ => none

/-- The outcome for one result record (R64). -/
def partOf (plan : Plan) (pl : Placement) (r : RouteResult) : RoutePart :=
  if Config.noRoute ≤ r.dist then .noRoute
  else
    match r.hop with
    | .here => .here
    | h =>
      match hopBearing plan pl.node h with
      | some b => .route (arrowOf b pl.facing) (metresOf r.walked) (minutesOf (metresOf r.walked))
      | none => .noRoute

/-- The route lookup of R64. -/
def routeLookup (s : State) (pl : Placement) (k : DestKind) (i : Nat) : RoutePart :=
  match s.route.published with
  | none => .none
  | some g =>
    if g.profile ≠ s.route.profile ∨ !(s.route.dests.any (sameDest k i)) then .none
    else
      match g.resultsFor k i with
      | none => .none
      | some rs => partOf s.activePlan pl (rs.getD pl.node .unreached)

/-! ## The engine (R50 to R54, R58 to R62) -/

/-- Destination list under SAFETY: every station of the plan (R51). -/
def stationDests (p : Plan) : List Dest := p.stations.map fun x => ⟨.station, x.1, x.2.loc, .station⟩

/-- The distinct sign venues of a plan, in rising id (R7, R52). -/
def signVenues (p : Plan) : List Nat :=
  (List.range Config.venueCount).filter fun v =>
    p.placements.any fun x => match x.2.role with
      | .corridor vs => vs.contains v
      | _ => false

def venueDest (p : Plan) (o : Origin) (v : Nat) : Option Dest :=
  (Table.get p.venues v).map fun x => ⟨.venue, v, x.loc, o⟩

/-- Destination list under NORMAL: sign venues, then programme venues not in the list already and defined
in the plan, cut at 24 (R52). -/
def venueDests (p : Plan) (programme : List Nat) : List Dest :=
  let signs := signVenues p
  (signs.filterMap (venueDest p .sign) ++
    (programme.filter fun v => !signs.contains v).filterMap (venueDest p .programme)).take Config.destinationLimit

/-- The destination list for the present profile (R51, R52); empty in PLANLESS operation (R19). -/
def State.destList (s : State) : List Dest :=
  match s.plan.active with
  | none => []
  | some a =>
    match s.route.profile with
    | .safety => stationDests a.plan
    | .normal => venueDests a.plan s.prog.programme

/-- The snapshot of the inputs as they stand (R54). -/
def State.snapshot (s : State) (a : ActivePlan) : Snapshot :=
  { serial := a.serial, nodes := a.plan.nodes, edges := a.plan.edges, portals := a.plan.portals,
    stations := Table.mapVals (fun _ x => x.loc) a.plan.stations, venues := Table.mapVals (fun _ x => x.loc) a.plan.venues,
    conditions := s.cond.edges, detours := s.cond.slots, remainders := s.cond.remainders, profile := s.route.profile,
    dests := s.route.dests }

/-- The generation a computation publishes (R58). -/
def State.generationOf (s : State) (sn : Snapshot) : Generation :=
  { number := if s.route.number = 65535 then 1 else s.route.number + 1
    profile := sn.profile, serial := sn.serial, dests := sn.dests, results := computeRoutes sn }

/-- The published generation is replaced and the activity is IDLE (R58). -/
def State.publish (s : State) (sn : Snapshot) : State :=
  let g := s.generationOf sn
  { s with route := { s.route with activity := .idle, number := g.number, published := some g } }

/-- A computation starts from a fresh snapshot, which clears the pending mark (R54). With an empty list it is complete
at once, and its generation is published (R57, R58). In PLANLESS operation none starts and the mark is clear (R62). -/
def State.startComputation (s : State) : State :=
  match s.plan.active with
  | none => { s with route := { s.route with activity := .idle, pending := false } }
  | some a =>
    let t := { s with route := { s.route with activity := .computing (s.snapshot a), pending := false } }
    if s.route.dests.isEmpty then t.publish (s.snapshot a) else t

/-- A computation that starts now is complete at once (R57). -/
def State.emptyRun (s : State) : Bool := s.plan.active.isSome && s.route.dests.isEmpty

/-- Two lists agree by kind and index, entry by entry (R53). -/
def sameDests (a b : List Dest) : Bool :=
  (a.map fun d => (d.kind, d.index)) == (b.map fun d => (d.kind, d.index))

/-- A profile change: the computation in flight is aborted, the list rebuilt for the new profile, and a
new computation starts at once (R61). -/
def State.changeProfile (s : State) (p : Profile) : State :=
  if s.route.profile = p then s
  else
    let s1 := { s with route := { s.route with profile := p } }
    { s1 with route := { s1.route with dests := s1.destList } }.startComputation

end Sys2Proof.Machine
end

