-- ==== Sys2Proof/Machine/Selection.lean ====
section
/-! DEFINITION. The programme timeline's choices (chapter 4): local time, text lookup, event transitions, now
and next events, programme venues. Functions of the timeline and the plan alone. -/

namespace Sys2Proof.Machine

/-- Local time of day of a voyage minute: (v + offset) mod 1440 (R72). -/
def localTime (offset : Int) (v : Nat) : Nat := ((Int.ofNat v + offset) % 1440).toNat

/-- "Now": the voyage minute of a set clock. -/
def State.now (s : State) : Option Nat := s.prog.clock.map (·.minute)

/-! ## Texts (R82 to R84) -/

def textKey (id lang : Nat) : Nat := id * 4 + lang

/-- The text lookup of R84. -/
def lookupText (texts : Table Text) (id lang : Nat) : Option Text :=
  match Table.get texts (textKey id lang) with
  | some t => some t
  | none => Table.get texts (textKey id 0)

/-- The text id and language from which an event's title lookup starts (R84). -/
def titleStart (e : Event) (lang : Nat) : Option (Nat × Nat) :=
  match e.titles.get lang with
  | some id => some (id, lang)
  | none => (e.titles.get 0).map fun id => (id, 0)

def lookupTitle (texts : Table Text) (e : Event) (lang : Nat) : Option Text :=
  match titleStart e lang with
  | some (id, l) => lookupText texts id l
  | none => none

/-! ## Event state (R75, R76) -/

/-- The table of R75. -/
def stepEvent (now : Nat) (e : Event) : Event :=
  match e.state with
  | .scheduled =>
    if e.stop ≤ now then { e with state := .ended }
    else if e.start ≤ now then { e with state := .running }
    else e
  | .running => if e.stop ≤ now then { e with state := .ended } else e
  | .ended | .cancelled => e

/-- R76: ENDED or CANCELLED, with end + 30 at or before now. -/
def removable (now : Nat) (e : Event) : Bool :=
  match e.state with
  | .ended | .cancelled => decide (e.stop + 30 ≤ now)
  | _ => false

/-- Transitions, then removal (R73 steps 1 and 2). -/
def evaluateEvents (now : Nat) (es : Table Event) : Table Event :=
  Table.keep (fun _ e => !removable now e) (Table.mapVals (fun _ e => stepEvent now e) es)

/-! ## Choice (R87 to R90) -/

/-- Among the events that `p` accepts, the earliest start, then the lowest id. The table rises in id, so an
equal later start does not displace. -/
def earliest (p : Nat → Event → Bool) (es : Table Event) : Option Nat :=
  (es.foldl
    (fun best x =>
      if p x.1 x.2 then
        match best with
        | none => some (x.1, x.2.start)
        | some b => if x.2.start < b.2 then some (x.1, x.2.start) else some b
      else best)
    none).map (·.1)

/-- R87. -/
def nowEvent (es : Table Event) (v : Nat) : Option Nat :=
  earliest (fun _ e => e.venue == v && e.state == .running) es

/-- SCHEDULED with now ≤ start < now + look-ahead (R88). -/
def upcoming (now look : Nat) (e : Event) : Bool :=
  e.state == .scheduled && decide (now ≤ e.start) && decide (e.start < now + look)

/-- R88. -/
def nextEvent (es : Table Event) (now look v : Nat) : Option Nat :=
  earliest (fun _ e => e.venue == v && upcoming now look e) es

/-- R88: over every venue the active plan defines. -/
def onBoardEvent (plan : Plan) (es : Table Event) (now look : Nat) : Option Nat :=
  earliest (fun _ e => Table.has plan.venues e.venue && upcoming now look e) es

/-- Now and next of every venue that has one. -/
def venueChoices (es : Table Event) (now look : Nat) : Table VenueChoice :=
  (List.range Config.venueCount).filterMap fun v =>
    let c : VenueChoice := ⟨nowEvent es v, nextEvent es now look v⟩
    if c.now.isNone && c.next.isNone then none else some (v, c)

/-- R90: RUNNING, or SCHEDULED with start < now + look-ahead. -/
def qualifies (now look : Nat) (e : Event) : Bool :=
  match e.state with
  | .running => true
  | .scheduled => decide (e.start < now + look)
  | _ => false

/-- The earliest start among a venue's qualifying events. -/
def earliestStart (es : Table Event) (now look v : Nat) : Option Nat :=
  es.foldl
    (fun best x =>
      if x.2.venue == v && qualifies now look x.2 then
        match best with
        | none => some x.2.start
        | some b => some (min b x.2.start)
      else best)
    none

/-- Insert a venue by its start; a venue already there with an equal start stays before it. -/
def insertByStart (x : Nat × Nat) : List (Nat × Nat) → List (Nat × Nat)
  | [] => [x]
  | y :: ys => if x.2 < y.2 then x :: y :: ys else y :: insertByStart x ys

/-- The programme venue list: by earliest start, then by lower venue id (R90). -/
def programmeVenues (es : Table Event) (now look : Nat) : List Nat :=
  ((List.range Config.venueCount).foldl
    (fun acc v => match earliestStart es now look v with
      | some t => insertByStart (v, t) acc
      | none => acc)
    []).map (·.1)

/-- The three choices for the present now; all absent with the clock UNSET (R88, R90). -/
def State.chosenVenues (s : State) : Table VenueChoice :=
  match s.now with
  | none => []
  | some n => venueChoices s.prog.events n s.prog.lookahead

def State.chosenOnBoard (s : State) : Option Nat :=
  match s.now with
  | none => none
  | some n => onBoardEvent s.activePlan s.prog.events n s.prog.lookahead

def State.chosenProgramme (s : State) : List Nat :=
  match s.now with
  | none => []
  | some n => programmeVenues s.prog.events n s.prog.lookahead

/-- Now and next of venue `v` in the programme selection. -/
def State.choice (s : State) (v : Nat) : VenueChoice := (Table.get s.prog.venues v).getD ⟨none, none⟩

end Sys2Proof.Machine
end

