-- ==== Sys2Proof/Machine/Cards.lean ====
section
/-! DEFINITION. Composition of cards (chapter 6): a record's standing, content class, card and fitting. All
are functions of the state; nothing here changes it. -/

namespace Sys2Proof.Machine

/-! ## Standing (R122) -/

/-- The placement index a record is bound to (R145): PLACED on it, or HELD with prior state PLACED on it. -/
def RecState.bound : RecState → Option Nat
  | .placed p => some p
  | .held prior _ => prior
  | _ => none

/-- The placement of the active plan a record stands on, with its index (R122). -/
def State.standing (s : State) (d : Display) : Option (Nat × Placement) :=
  match d.state.bound with
  | none => none
  | some p => (Table.get s.activePlan.placements p).map fun pl => (p, pl)

/-! ## Stations (R98) -/

def cabinStation (plan : Plan) (cabins : Table CabinState) (i : Nat) : Option Nat :=
  match ((Table.get cabins i).getD CabinState.initial).stationOverride with
  | some st => some st
  | none => (Table.get plan.cabins i).map (·.station)

def zoneStation (plan : Plan) (overrides : Table Nat) (z : Nat) : Option Nat :=
  match Table.get overrides z with
  | some st => some st
  | none => (Table.get plan.zones z).map (·.station)

/-- The zone of a placement's node. -/
def placementZone (plan : Plan) (pl : Placement) : Option Nat := (Table.get plan.nodes pl.node).map (·.zone)

/-- The station of a placement (R98). -/
def State.placementStation (s : State) (pl : Placement) : Option Nat :=
  match pl.role with
  | .door c => cabinStation s.activePlan s.muster.cabins c
  | _ =>
    match placementZone s.activePlan pl with
    | some z => zoneStation s.activePlan s.muster.zoneOverrides z
    | none => none

/-! ## Notices (R133, R137) -/

/-- Does a notice's target name this record? (R133) -/
def State.targets (s : State) (t : Target) (d : Display) : Bool :=
  match t with
  | .wholeSection => d.state != .free
  | .placement p => match s.standing d with
    | some x => x.1 == p
    | none => false
  | .cabin n => match s.standing d with
    | some (_, pl) => match pl.role with
      | .door c => (Table.get s.activePlan.cabins c).any fun x => x.number == n
      | _ => false
    | none => false
  | .zone z => match s.standing d with
    | some (_, pl) => placementZone s.activePlan pl == some z
    | none => false

/-- A value of the posting order: an absent minute is earlier than every minute (R137). -/
def postedRank (n : Notice) : Nat := match n.posted with
  | none => 0
  | some m => m + 1

/-- Is `a` shown before `b`, where `b` has the lower slot? By urgency, origin, minute posted (R137). -/
def Notice.before (a b : Notice) : Bool :=
  if a.urgent != b.urgent then a.urgent
  else if a.origin != b.origin then a.origin == .safety
  else decide (postedRank b < postedRank a)

/-- The notice a record shows (R137). Slots are taken in rising order, so a tie keeps the lower slot. -/
def State.shownNotice (s : State) (d : Display) : Option Notice :=
  s.resolver.notices.foldl
    (fun best x =>
      if s.targets x.2.target d then
        match best with
        | none => some x.2
        | some b => if x.2.before b then some x.2 else some b
      else best)
    none

/-! ## Drafts: cards before fitting, with the text ids they looked up (R121) -/

structure Draft where
  card : Card
  looked : List Nat
  deriving DecidableEq, Repr

/-- The timeline's languages on corridor and venue cards: a secondary equal to the primary is absent (R85). -/
def State.secondLanguage (s : State) : Option Nat :=
  if s.prog.secondary = s.prog.primary then none else some s.prog.secondary

/-- Languages of a card: a door's are its cabin's alone (R125, R128, R131, R137). -/
def State.cardLanguages (s : State) (role : Option Role) : Nat × Option Nat :=
  match role with
  | some (.door c) => ((s.cabin c).language, none)
  | _ => (s.prog.primary, s.secondLanguage)

/-- The secondary rendering before its cut: omitted when the lookup gives no string or the string of the
primary lookup (R132 step 2). -/
def secondText (first second : Option Text) : Text :=
  match second with
  | none => []
  | some t => if first = some t then [] else t

/-- Text and secondary rendering of one text id. -/
def State.textPair (s : State) (id lang : Nat) (second : Option Nat) : Text × Text :=
  let a := lookupText s.prog.texts id lang
  (a.getD [], match second with
    | none => []
    | some l => secondText a (lookupText s.prog.texts id l))

/-- Title and its secondary rendering: the text id the title's lookup starts from, looked up in the secondary language
(R84, R132 step 2, log 16). -/
def State.titlePair (s : State) (e : Event) (lang : Nat) (second : Option Nat) : Text × Text :=
  let a := lookupTitle s.prog.texts e lang
  (a.getD [], match titleStart e lang, second with
    | some x, some l => secondText a (lookupText s.prog.texts x.1 l)
    | _, _ => [])

/-- The text id a title and its secondary rendering are looked up by. -/
def titleIds (e : Event) (lang : Nat) : List Nat := (titleStart e lang).toList.map (·.1)

def State.localTime (s : State) (v : Nat) : Nat := Sys2Proof.Machine.localTime s.prog.offset v

def stationLabel (plan : Plan) (st : Nat) : Badge :=
  match Table.get plan.stations st with
  | some x => .station x.label
  | none => .none

def venueLabel (plan : Plan) (v : Nat) : Text :=
  match Table.get plan.venues v with
  | some x => x.label
  | none => []

def venueBadge (plan : Plan) (v : Nat) : Badge :=
  match Table.get plan.venues v with
  | some x => .venue x.label
  | none => .none

def cabinBadge (plan : Plan) (c : Nat) : Badge :=
  match Table.get plan.cabins c with
  | some x => .cabin x.number
  | none => .none

/-- The badge of the role default (R131, R137). -/
def roleBadge (plan : Plan) : Option Role → Badge
  | some (.door c) => cabinBadge plan c
  | some (.venue v) => venueBadge plan v
  | _ => .none

def State.drillMarks (s : State) : Marks := { Marks.clear with drill := s.muster.drill }

/-- Marks of a MUSTER card: DRILL and, on a door, the vacated mark (R125). -/
def State.musterMarks (s : State) (role : Role) : Marks :=
  match role with
  | .door c =>
    { s.drillMarks with
      vacatedGuest := (s.cabin c).vacated == .guest
      vacatedCrew := (s.cabin c).vacated == .crew }
  | _ => s.drillMarks

/-- The route line toward a placement's station. -/
def State.stationLine (s : State) (pl : Placement) : Line :=
  match s.placementStation pl with
  | some st => .route (routeLookup s pl .station st)
  | none => .route .none

/-- The message line with the station's muster instruction, when one is set (R126). -/
def State.instructionLines (s : State) (pl : Placement) : List Line :=
  match s.placementStation pl with
  | some st => ((Table.get s.resolver.instructions st).toList).map fun c => .message (.instruction c)
  | none => []

def State.stationBadge (s : State) (pl : Placement) : Badge :=
  match s.placementStation pl with
  | some st => stationLabel s.activePlan st
  | none => .none

/-- ALERT, MUSTER and STANDDOWN cards (R125). -/
def State.safetyCard (s : State) (pl : Placement) : Card :=
  let lang := s.cardLanguages (some pl.role)
  match s.muster.state with
  | .muster =>
    { kind := .muster, primary := lang.1, secondary := lang.2, badge := s.stationBadge pl,
      lines := s.stationLine pl :: s.instructionLines pl, marks := s.musterMarks pl.role, phase := none }
  | .standdown _ =>
    { kind := .standdown, primary := lang.1, secondary := lang.2, badge := .none, lines := [.message .allClear],
      marks := s.drillMarks, phase := none }
  | _ =>
    { kind := .alert, primary := lang.1, secondary := lang.2, badge := s.stationBadge pl,
      lines := [s.stationLine pl, .message .standBy], marks := s.drillMarks, phase := none }

/-- MUSTER-GENERIC (R127). -/
def State.genericSafetyCard (s : State) : Card :=
  let phase : CardPhase := match s.muster.state with
    | .muster => .muster
    | .standdown _ => .standdown
    | _ => .alert
  { kind := .musterGeneric, primary := s.prog.primary, secondary := s.secondLanguage, badge := .none,
    lines := [.message (if phase = .standdown then .allClear else .followCrew)], marks := s.drillMarks,
    phase := some phase }

/-- The CABIN card; empty duty content when aboard is 0 (R128). -/
def State.cabinDraft (s : State) (c : Nat) : Option Draft :=
  let r := s.cabin c
  if !r.occupied then none
  else
    some
      { card :=
          { kind := .cabin, primary := r.language, secondary := none, badge := cabinBadge s.activePlan c,
            lines := r.name.toList.map fun id => .name (s.textPair id r.language none).1 [],
            marks := { Marks.clear with dnd := r.dnd, service := r.service }, phase := none }
        looked := r.name.toList }

/-- The next-on-board line (R124, R129): venue label, one space and title joined. With no text for the title the label and
the space stay (R74, R124, the model's choice: log 16). -/
def State.onBoardDraft (s : State) (pl : Placement) : Option (Line × List Nat) :=
  match s.prog.onBoard.bind (Table.get s.prog.events) with
  | none => none
  | some e =>
    let t := s.titlePair e s.prog.primary s.secondLanguage
    some (.onBoard e.category e.moved (s.localTime e.start) (routeLookup s pl .venue e.venue)
      (venueLabel s.activePlan e.venue ++ [0x0020#16] ++ t.1) t.2, titleIds e s.prog.primary)

/-- The WAYFIND card (R129). -/
def State.wayfindDraft (s : State) (pl : Placement) (signs : List Nat) : Option Draft :=
  let signLines := signs.map fun v => Line.sign (routeLookup s pl .venue v) (venueLabel s.activePlan v)
  let board := (s.onBoardDraft pl).toList
  if signLines.isEmpty && board.isEmpty then none
  else
    some
      { card :=
          { kind := .wayfind, primary := s.prog.primary, secondary := s.secondLanguage, badge := .none,
            lines := signLines ++ board.map (·.1), marks := Marks.clear, phase := none }
        looked := board.flatMap (·.2) }

/-- The VENUE card (R130). -/
def State.venueDraft (s : State) (v : Nat) : Option Draft :=
  let c := s.choice v
  let nowE := (c.now.bind (Table.get s.prog.events)).toList
  let nextE := (c.next.bind (Table.get s.prog.events)).toList
  let second := s.secondLanguage
  if nowE.isEmpty && nextE.isEmpty then none
  else
    some
      { card :=
          { kind := .venue, primary := s.prog.primary, secondary := second, badge := venueBadge s.activePlan v,
            lines :=
              (nowE.map fun e =>
                let t := s.titlePair e s.prog.primary second
                Line.now e.category (s.localTime e.start) (s.localTime e.stop) t.1 t.2) ++
              (nextE.map fun e =>
                let t := s.titlePair e s.prog.primary second
                Line.next e.category e.moved (s.localTime e.start) t.1 t.2)
            marks := Marks.clear, phase := none }
        looked := (nowE ++ nextE).flatMap fun e => titleIds e s.prog.primary }

/-- Duty content of a placement (R128 to R130); `none` when it is empty. -/
def State.dutyDraft (s : State) (pl : Placement) : Option Draft :=
  match pl.role with
  | .door c => s.cabinDraft c
  | .corridor signs => s.wayfindDraft pl signs
  | .venue v => s.venueDraft v

/-- The NOTICE card (R137). -/
def State.noticeDraft (s : State) (role : Option Role) (n : Notice) : Draft :=
  let lang := s.cardLanguages role
  let t := s.textPair n.text lang.1 lang.2
  { card :=
      { kind := .notice, primary := lang.1, secondary := lang.2, badge := roleBadge s.activePlan role,
        lines := [.notice t.1 t.2], marks := { Marks.clear with urgent := n.urgent }, phase := none }
    looked := [n.text] }

/-- The PARKED card: role default with a parked line, or the generic form (R131). -/
def State.parkedDraft (s : State) (x : Option (Nat × Placement)) : Draft :=
  match x with
  | none =>
    { card :=
        { kind := .parked, primary := s.prog.primary, secondary := s.secondLanguage, badge := .none,
          lines := [.message .unassigned], marks := Marks.clear, phase := none }
      looked := [] }
  | some (p, pl) =>
    let lang := s.cardLanguages (some pl.role)
    let text := (Table.get s.resolver.parked p).toList
    let welcome : List Line := match pl.role with
      | .door _ => []
      | _ => [.message .welcome]
    { card :=
        { kind := .parked, primary := lang.1, secondary := lang.2, badge := roleBadge s.activePlan (some pl.role),
          lines := welcome ++ text.map fun id =>
            let t := s.textPair id lang.1 lang.2
            Line.parked t.1 t.2
          marks := Marks.clear, phase := none }
      looked := text }

/-- The content class of a record (R122) with its unfitted card. A FREE record has none; callers drop it. -/
def State.draft (s : State) (d : Display) : ContentClass × Draft :=
  let x := s.standing d
  if s.muster.state.isSafety then
    (.safety, ⟨match x with
      | some (_, pl) => s.safetyCard pl
      | none => s.genericSafetyCard, []⟩)
  else
    match s.shownNotice d with
    | some n => (.notice, s.noticeDraft (x.map fun y => y.2.role) n)
    | none =>
      match x.bind fun y => s.dutyDraft y.2 with
      | some c => (.duty, c)
      | none => (.parked, s.parkedDraft x)

/-- The resolved content class (R122). -/
def State.classOf (s : State) (d : Display) : ContentClass := (s.draft d).1

/-! ## Fitting (R132) -/

/-- Step 1 and the cut of step 2: the text part to (capacity − reserve), the secondary to the capacity. -/
def cutLine (capacity : Nat) : Line → Line
  | .route r => .route r
  | .sign r t => .sign r (t.take (capacity - 10))
  | .onBoard c m st r t u => .onBoard c m st r (t.take (capacity - 18)) (u.take capacity)
  | .now c st en t u => .now c st en (t.take (capacity - 13)) (u.take capacity)
  | .next c m st t u => .next c m st (t.take (capacity - 8)) (u.take capacity)
  | .name t u => .name (t.take capacity) (u.take capacity)
  | .notice t u => .notice (t.take capacity) (u.take capacity)
  | .parked t u => .parked (t.take capacity) (u.take capacity)
  | .message c => .message c

/-- The secondary rendering of a line, empty when it has none. -/
def Line.second : Line → Text
  | .onBoard _ _ _ _ _ u => u
  | .now _ _ _ _ u => u
  | .next _ _ _ _ u => u
  | .name _ u => u
  | .notice _ u => u
  | .parked _ u => u
  | _ => []

def Line.dropSecond : Line → Line
  | .onBoard c m st r t _ => .onBoard c m st r t []
  | .now c st en t _ => .now c st en t []
  | .next c m st t _ => .next c m st t []
  | .name t _ => .name t []
  | .notice t _ => .notice t []
  | .parked t _ => .parked t []
  | l => l

/-- Primary lines and secondary renderings together. -/
def lineTotal (ls : List Line) : Nat := ls.length + (ls.filter fun l => !l.second.isEmpty).length

/-- Step 3 on the lines in reverse order: remove `n` secondary renderings, last line first. -/
def dropSeconds : Nat → List Line → List Line
  | 0, ls => ls
  | _, [] => []
  | n + 1, l :: ls =>
    if l.second.isEmpty then l :: dropSeconds (n + 1) ls else l.dropSecond :: dropSeconds n ls

def fitLines (cap : Capability) (ls : List Line) : List Line :=
  let cut := ls.map (cutLine cap.capacity)
  (dropSeconds (lineTotal cut - cap.lines) cut.reverse).reverse

/-- The capability of a record. An enrolled record always has one (R154); LCD 24 by 4 stands for none. -/
def Display.cap (d : Display) : Capability := d.capability.getD ⟨.lcd, 24, 4, 0⟩

/-- The fitted card of a record with its class and the text ids looked up (R132, R140). -/
def State.compose (s : State) (d : Display) : ContentClass × Card × List Nat :=
  let x := s.draft d
  (x.1, { x.2.card with lines := fitLines d.cap x.2.card.lines }, x.2.looked)

/-- The text ids the record's present composition would look up (R138). -/
def State.wouldLook (s : State) (d : Display) : List Nat := (s.draft d).2.looked

end Sys2Proof.Machine
end

