-- ==== Sys2Proof/Machine/Resolve.lean ====
section
/-! DEFINITION. Buffering a composed card (R138 to R141), the refresh queue (R164, R167) and the hand-offs
to the content resolver. A composition changes display records and refresh queues and nothing else. -/

namespace Sys2Proof.Machine

/-! ## Buffers (R143) -/

def BufferId.other : BufferId → BufferId
  | .x => .y
  | .y => .x

def Buffers.read (b : Buffers) : BufferId → Option StoredCard
  | .x => b.x
  | .y => b.y

def Buffers.write (b : Buffers) (i : BufferId) (c : Option StoredCard) : Buffers :=
  match i with
  | .x => { b with x := c }
  | .y => { b with y := c }

def Buffers.frontCard (b : Buffers) : Option StoredCard := b.read b.front
def Buffers.backCard (b : Buffers) : Option StoredCard := b.read b.front.other
def Buffers.setBack (b : Buffers) (c : StoredCard) : Buffers := b.write b.front.other (some c)

/-- ACK: the marker moves to the buffer of the back card and the other buffer is emptied (R169). -/
def Buffers.promote (b : Buffers) : Buffers := { b.write b.front none with front := b.front.other }

/-- Both card buffers emptied, at enrolment (R154). The rule does not say which buffer is front then: the marker stays as it stood
(the model's choice, DESIGN CHOICE, unsafe: log 5). -/
def Buffers.emptied (b : Buffers) : Buffers := { b with x := none, y := none }

/-- The card the record will show: its back card, or else its front card (R140). -/
def Display.shown (d : Display) : Option Card :=
  match d.buffers.backCard with
  | some c => some c.card
  | none => d.buffers.frontCard.map (·.card)

/-- PLACED and ORPHAN records take part in queues and polls (R144). -/
def RecState.inService : RecState → Bool
  | .placed _ | .orphan => true
  | _ => false

/-! ## The refresh queue (R164) -/

/-- A record joins its segment's refresh queue if it is not in it. -/
def State.joinQueue (s : State) (k : Nat) : State :=
  s.modSeg (keySeg k) fun g =>
    if g.queue.contains (keyAddr k) then g else { g with queue := g.queue ++ [keyAddr k] }

def State.leaveQueue (s : State) (k : Nat) : State :=
  s.modSeg (keySeg k) fun g => { g with queue := g.queue.filter (· != keyAddr k) }

/-- The record takes a joining order after every one then held (R167). -/
def State.moveLast (s : State) (k : Nat) : State := (s.leaveQueue k).joinQueue k

def State.inQueue (s : State) (k : Nat) : Bool := (s.seg (keySeg k)).queue.contains (keyAddr k)

/-- The class of a record's back card. -/
def State.backClass (s : State) (g : Seg) (a : Nat) : Option ContentClass :=
  (s.display (recKey g a)).buffers.backCard.map (·.cls)

/-- Queue order: by class of the back card, and within a class by joining order (R164). -/
def State.queueOrder (s : State) (g : Seg) : List Nat :=
  [ContentClass.safety, .notice, .duty, .parked].flatMap fun c =>
    (s.seg g).queue.filter fun a => s.backClass g a == some c

/-! ## Composition requests (R140, R141) -/

/-- A card of the record is in transit (R141). -/
def State.inTransit (s : State) (k : Nat) : Bool := (s.seg (keySeg k)).exchange == some (.card (keyAddr k))

/-- The mark is set; a press note once set stays set (R141). -/
def Recompose.mark (r : Recompose) (c : Cause) : Recompose :=
  match r with
  | .clear => .set (c == .press) false
  | .set p e => .set (p || c == .press) e

/-- A mark that stands at an entry into ALERT or MUSTER is noted (R167, log 36). -/
def Recompose.noteEntry : Recompose → Recompose
  | .clear => .clear
  | .set p _ => .set p true

/-- One composition request. The flag says whether the back buffer was filled or replaced. -/
def State.composeRecord (s : State) (k : Nat) (cause : Cause) : State × Bool :=
  let d := s.display k
  if d.state = .free then (s, false)
  else if s.inTransit k then (s.setDisplay k { d with recompose := d.recompose.mark cause }, false)
  else
    let c := s.compose d
    if d.shown = some c.2.1 then (s.setDisplay k { d with looked := c.2.2 }, false)
    else
      let s1 := s.setDisplay k { d with looked := c.2.2, buffers := d.buffers.setBack ⟨c.2.1, c.1, cause⟩ }
      (if d.state.inService then s1.joinQueue k else s1, true)

/-- Compose records in the given order; the list says which back buffers were filled or replaced. -/
def State.composeKeys (s : State) (cause : Nat → Cause) : List Nat → State × List Nat
  | [] => (s, [])
  | k :: ks =>
    let r := s.composeRecord k (cause k)
    let t := State.composeKeys r.1 cause ks
    (t.1, if r.2 then k :: t.2 else t.2)

/-- The keys of the records not FREE that satisfy `p`, in directory order. -/
def State.keysWhere (s : State) (p : Nat → Display → Bool) : List Nat :=
  Table.keys (Table.keep (fun k d => d.state != .free && p k d) s.dir)

/-- One hand-off: the records that satisfy `p` are composed in directory order (R138). -/
def State.composeWhere (s : State) (p : Nat → Display → Bool) : State :=
  (s.composeKeys (fun _ => .other) (s.keysWhere p)).1

def State.composeAll (s : State) : State := s.composeWhere fun _ _ => true

/-- The records that stand on a placement that satisfies `p`. -/
def State.composePlacements (s : State) (p : Nat → Placement → Bool) : State :=
  s.composeWhere fun _ d => match s.standing d with
    | some (i, pl) => p i pl
    | none => false

/-- A change of a cabin: the records on every DOOR placement of it (R138). `pressed` is the record whose key
press made the change; its card has cause PRESS (R139). -/
def State.composeCabin (s : State) (c : Nat) (pressed : Option Nat) : State :=
  (s.composeKeys (fun k => if pressed = some k then .press else .other)
    (s.keysWhere fun _ d => match s.standing d with
      | some (_, pl) => pl.role == .door c
      | none => false)).1

/-- A text put or deleted: the records whose last or present composition looked the id up (R138). -/
def State.composeText (s : State) (id : Nat) : State :=
  s.composeWhere fun _ d => d.looked.contains id || (s.wouldLook d).contains id

/-- The records a notice targets (R138). -/
def State.composeTargets (s : State) (ts : List Target) : State :=
  s.composeWhere fun _ d => ts.any fun t => s.targets t d

/-- Publication: the records on a placement whose card kind is ALERT, MUSTER or WAYFIND (R138). -/
def State.composeRoutes (s : State) : State :=
  s.composeWhere fun _ d => match s.standing d with
    | some _ => match (s.draft d).2.card.kind with
      | .alert | .muster | .wayfind => true
      | _ => false
    | none => false

/-- The role of the placement a record stands on. -/
def State.roleOf (s : State) (d : Display) : Option Role := (s.standing d).map fun x => x.2.role

/-- Group of a record at ALERT or MUSTER entry: corridor and venue, door, no placement (R167). -/
def entryGroup : Option Role → Nat
  | some (.door _) => 1
  | some _ => 0
  | none => 2

/-- Place the records `ks` (in rising key order) afresh at the end of their segment's joining order, group
by group (R167). -/
def State.placeEntry (s : State) (g : Seg) (ks : List Nat) : State :=
  let mine := ks.filter fun k => keySeg k == g && (s.display k).state.inService
  let grouped := [0, 1, 2].flatMap fun n => (mine.filter fun k => entryGroup (s.roleOf (s.display k)) == n).map keyAddr
  s.modSeg g fun x => { x with queue := x.queue.filter (fun a => !grouped.contains a) ++ grouped }

/-- The record whose card is in transit on segment `g` is composed at the end of its transit, and moves then (R167). -/
def State.noteTransit (s : State) (g : Seg) : State :=
  match (s.seg g).exchange with
  | some (.card a) =>
    let d := s.display (recKey g a)
    if d.state = .free then s else s.setDisplay (recKey g a) { d with recompose := d.recompose.noteEntry }
  | _ => s

/-- Entry into ALERT or MUSTER: every record is composed, those filled or replaced are placed in group order, and those
in transit are noted (R138, R167). -/
def State.composeEntry (s : State) : State :=
  let r := s.composeKeys (fun _ => .other) (s.keysWhere fun _ _ => true)
  [0, 1, 2, 3].foldl (fun t g => (t.placeEntry g r.2).noteTransit g) r.1

end Sys2Proof.Machine
end

