-- ==== Sys2Proof/Machine/MusterOps.lean ====
section
/-! DEFINITION. Shared operations of the muster controller (chapter 5): tally, stranded list, muster entry,
resume, return to QUIET, and the hand-off of a changed state. -/

namespace Sys2Proof.Machine

/-! ## Tally (R113, R114) -/

def insertNumber (n : Nat) : List Nat → List Nat
  | [] => [n]
  | m :: ms => if n < m then n :: m :: ms else m :: insertNumber n ms

/-- The occupied cabins whose station is `st`: their numbers and vacated fields. -/
def occupiedAt (plan : Plan) (cabins : Table CabinState) (st : Nat) : List (Nat × Vacated) :=
  plan.cabins.filterMap fun x =>
    let c := (Table.get cabins x.1).getD CabinState.initial
    if c.occupied && cabinStation plan cabins x.1 == some st then some (x.2.number, c.vacated) else none

/-- The tally of a station (R113). -/
def tallyAt (plan : Plan) (cabins : Table CabinState) (st : Nat) : StationTally :=
  let cs := occupiedAt plan cabins st
  let out := (cs.filter fun c => c.2 == .no).map (·.1)
  { occupied := cs.length, vacated := (cs.filter fun c => c.2 != .no).length, outstanding := out.length,
    list := out.foldl (fun acc n => insertNumber n acc) [] }

def computeTally (plan : Plan) (cabins : Table CabinState) : List StationTally :=
  (List.range Config.stationCount).map (tallyAt plan cabins)

def State.tallyNow (s : State) : List StationTally := computeTally s.activePlan s.muster.cabins

/-- A station whose outstanding count goes from 1 or more to 0 (R114). -/
def stationCleared (old new : List StationTally) : Bool :=
  (old.zip new).any fun x => decide (1 ≤ x.1.outstanding) && x.2.outstanding == 0

/-- The tally follows a change: a different tally advances the serial, and in MUSTER a station that reaches 0
raises STATION_CLEAR (R113, R114). -/
def State.retally (s : State) : State :=
  let new := s.tallyNow
  if new = s.muster.tally then s
  else
    let next := { s with muster := { s.muster with tally := new, tallySerial := (s.muster.tallySerial + 1) % 65536 } }
    next.raiseIf (decide (s.muster.state = .muster) && stationCleared s.muster.tally new) .safety .stationClear

def State.outstandingTotal (s : State) : Nat := (s.muster.tally.map (·.outstanding)).sum

/-! ## Stranded list (R118) -/

/-- Does a node have no route to a station in a generation? -/
def noRouteTo (g : Generation) (node st : Nat) : Bool :=
  match g.resultsFor .station st with
  | some rs => (rs.getD node .unreached).dist == Config.noRoute
  | none => false

def State.strandedList (s : State) (g : Generation) : List Stranded :=
  (s.activePlan.placements.filterMap fun x =>
    match s.placementStation x.2 with
    | some st => if noRouteTo g x.2.node st then some (.placement x.1 st) else none
    | none => none) ++
  (s.activePlan.cabins.filterMap fun x =>
    match cabinStation s.activePlan s.muster.cabins x.1 with
    | some st => if noRouteTo g x.2.door st then some (.cabin x.1 st) else none
    | none => none)

/-- Rebuild while the published generation's profile is SAFETY; a longer list raises STRANDED (R118). -/
def State.rebuildStranded (s : State) : State :=
  match s.route.published with
  | none => s
  | some g =>
    if g.profile = .safety then
      let new := s.strandedList g
      let next := { s with muster := { s.muster with stranded := new, strandedGen := g.number } }
      next.raiseIf (decide (s.muster.stranded.length < new.length)) .safety .stranded
    else s

/-- The stranded list follows a computation that was started and complete at once, in a command that composes every
record itself (R58, log 12). -/
def State.strandedAtStart (s : State) : State := if s.emptyRun then s.rebuildStranded else s

/-! ## Muster state (R102 to R108) -/

/-- Every vacated field becomes NO. -/
def clearVacated (cs : Table CabinState) : Table CabinState := Table.mapVals (fun _ c => { c with vacated := .no }) cs

/-- Entry into ALERT or MUSTER closes an open edit (R12). -/
def State.closeEdit (s : State) : State :=
  if s.plan.edit = .editing then
    { s with plan := { s.plan with edit := .closed, shadow := .empty } }.raise .safety .planAbandoned
  else s

/-- ALERT or MUSTER is entered from another state. -/
def isEntry (old new : MusterState) : Bool := decide (old ≠ new) && (decide (new = .alert) || decide (new = .muster))

/-- The hand-off of a changed muster state or drill flag, the state being `old` before: plan store, route
engine, content resolver with the panel bus controller, hotel link, in the order of R108 (log 12). Every record is
composed here, so a generation published at once at the profile change reaches the cards with the same compositions. -/
def State.handMuster (s : State) (old : MusterState) : State :=
  let s1 := if isEntry old s.muster.state then s.closeEdit else s
  let s2 := s1.changeProfile s1.muster.state.profile
  let s3 := if isEntry old s.muster.state then s2.composeEntry else s2.composeAll
  let s4 := if s1.route.profile = s1.muster.state.profile then s3 else s3.strandedAtStart
  s4.raise .hotel .musterState

/-- Entry into MUSTER from QUIET or ALERT (R104). -/
def State.enterMuster (s : State) (drill : Bool) : State :=
  let s1 := { s with
    muster := { s.muster with
      state := .muster, drill := drill, cabins := clearVacated s.muster.cabins
      overdue := .running (s.muster.overdueTime * 60) } }
  (s1.retally.requestLatch (.set drill)).handMuster s.muster.state

/-- Return from STANDDOWN to MUSTER (R105). -/
def State.resume (s : State) (drill : Bool) : State :=
  let s1 := { s with
    muster := { s.muster with
      state := .muster, drill := drill, hold := none, overdue := .running (s.muster.overdueTime * 60) } }
  let s2 := if s.muster.state = .standdown .clearing ∨ s.muster.drill ≠ drill then s1.requestLatch (.set drill) else s1
  s2.handMuster s.muster.state

/-- Is a latch-set write waiting or in flight, or the latch copy set? (R103) -/
def State.latchHeld (s : State) : Bool :=
  s.muster.latchCopy.set ||
  (match s.store.inFlight with
    | some (.latch (.set _)) => true
    | _ => false) ||
  (match s.store.waiting with
    | some (.set _) => true
    | _ => false)

/-- The drill flag is cleared without a change of state (R103). -/
def State.clearDrill (s : State) : State :=
  let s1 := { s with muster := { s.muster with drill := false } }
  (if s.latchHeld then s1.requestLatch (.set false) else s1).handMuster s.muster.state

/-- STANDDOWN, from MUSTER (R106). -/
def State.standDown (s : State) : State :=
  let s1 := { s with
    muster := { s.muster with
      state := .standdown .holding, overdue := .stopped, hold := some (s.muster.holdTime * 60) } }
  s1.handMuster s.muster.state

/-- The return to QUIET (R107, R116). -/
def State.returnToQuiet (s : State) : State :=
  let s1 := { s with
    muster := { s.muster with
      state := .quiet, drill := false, cabins := clearVacated s.muster.cabins, overdue := .stopped, hold := none } }
  s1.retally.handMuster s.muster.state

/-! ## Cabins (R94 to R99) -/

/-- Write a cabin record. -/
def State.setCabin (s : State) (i : Nat) (c : CabinState) : State :=
  { s with muster := { s.muster with cabins := Table.put s.muster.cabins i c } }

/-- A changed cabin record is applied to the tally and, when its station changed, to the stranded list, and
handed to the resolver (R94, R98). A record that did not change hands nothing on. -/
def State.changeCabin (s : State) (i : Nat) (c : CabinState) (pressed : Option Nat) : State :=
  if c = s.cabin i then s
  else
    let s1 := (s.setCabin i c).retally
    let s2 := if c.stationOverride = (s.cabin i).stationOverride ∨
        cabinStation s1.activePlan s1.muster.cabins i = cabinStation s.activePlan s.muster.cabins i
      then s1 else s1.rebuildStranded
    s2.composeCabin i pressed

end Sys2Proof.Machine
end

