-- ==== Sys2Proof/Machine/Engine.lean ====
section
/-! DEFINITION. The route engine at work (R53, R58, R59): triggers, publication and what follows it. -/

namespace Sys2Proof.Machine

/-- A publication is handed to the resolver and then to the muster controller (R58). -/
def State.handPublication (s : State) : State := s.composeRoutes.rebuildStranded

/-- A computation starts (R54); one that is complete at once is handed on at once (R57, R58). -/
def State.runComputation (s : State) : State :=
  if s.emptyRun then s.startComputation.handPublication else s.startComputation

/-- A trigger of R59: it starts a computation when the engine is IDLE and sets the mark otherwise. -/
def State.trigger (s : State) : State :=
  match s.plan.active with
  | none => s
  | some _ =>
    match s.route.activity with
    | .idle => s.runComputation
    | .computing _ => { s with route := { s.route with pending := true } }

def State.triggerIf (s : State) (c : Bool) : State := if c then s.trigger else s

/-- Rebuild the destination list; a changed list replaces the old one and sets the mark (R53). -/
def State.rebuildDests (s : State) : State :=
  if sameDests s.destList s.route.dests then s
  else { s with route := { s.route with dests := s.destList } }.trigger

/-- After the publication a new computation starts if the mark is set (R58). -/
def State.resumeComputation (s : State) : State := if s.route.pending then s.runComputation else s

end Sys2Proof.Machine
end

