-- ==== Sys2Proof/Machine/Operands.lean ====
section
/-! DEFINITION. Operand forms: reading the fields of a request body (R187 step 3, R200, R201). A body that
is too short, or whose length disagrees with the counts of its own lists and strings, is a LENGTH
error. Bytes beyond a body without lists and strings are ignored (log 8). -/

namespace Sys2Proof.Machine

/-- A reader takes fields from the front of a body and gives the rest. -/
abbrev Reader (α : Type) := List Byte → Except Reason (α × List Byte)

/-- 1-byte number. -/
def one : Reader Nat
  | b :: r => .ok (b.toNat, r)
  | [] => .error .length

/-- 2-byte number, high byte first. -/
def two : Reader Nat
  | a :: b :: r => .ok (read2 a b, r)
  | _ => .error .length

/-- 3-byte number: a cabin number or a notice target. -/
def three : Reader Nat
  | a :: b :: c :: r => .ok (read3 a b c, r)
  | _ => .error .length

/-- 6-byte identity; 0 is the absent value (R200). -/
def sixIdentity : Reader (Option Identity)
  | a :: b :: c :: d :: e :: f :: r =>
    let i : Identity := a ++ b ++ c ++ d ++ e ++ f
    .ok (if i = 0#48 then none else some i, r)
  | _ => .error .length

/-- `n` units of a string. -/
def units : Nat → Reader Text
  | 0, r => .ok ([], r)
  | n + 1, a :: b :: r =>
    match units n r with
    | .ok (t, rest) => .ok ((a ++ b : Unit16) :: t, rest)
    | .error e => .error e
  | _ + 1, _ => .error .length

/-- A string: a count of units, then the units. -/
def textField : Reader Text
  | n :: r => units n.toNat r
  | [] => .error .length

/-- `n` items of a list. -/
def items {α : Type} (item : Reader α) : Nat → Reader (List α)
  | 0, r => .ok ([], r)
  | n + 1, r =>
    match item r with
    | .error e => .error e
    | .ok (a, r1) =>
      match items item n r1 with
      | .ok (as, rest) => .ok (a :: as, rest)
      | .error e => .error e

/-- A list: a count of items, then the items. -/
def listField {α : Type} (item : Reader α) : Reader (List α)
  | n :: r => items item n.toNat r
  | [] => .error .length

/-- What a presence byte says of its field (R200): 00h left out, 01h the value follows, 02h the field's
named value (ABSENT or UNKNOWN). `bad` is a presence byte of another value: no value bytes are read after it, so that the
length of the body is still checked first (R187 step 3), and the field is refused with RANGE (log 11). -/
inductive Given (α : Type) where
  | left
  | value (a : α)
  | named
  | bad
  deriving DecidableEq, Repr

/-- A field behind a presence byte. -/
def given {α : Type} (item : Reader α) : Reader (Given α)
  | [] => .error .length
  | b :: r =>
    if b = 0x00#8 then .ok (.left, r)
    else if b = 0x01#8 then
      match item r with
      | .ok (a, rest) => .ok (.value a, rest)
      | .error e => .error e
    else if b = 0x02#8 then .ok (.named, r)
    else .ok (.bad, r)

/-- A field the request may not leave out and that has no named value. -/
def Given.required {α : Type} : Given α → Except Reason α
  | .value a => .ok a
  | _ => .error .range

/-- An optional field that has no named value. -/
def Given.optional {α : Type} : Given α → Except Reason (Option α)
  | .left => .ok none
  | .value a => .ok (some a)
  | .named | .bad => .error .range

/-- A field that is a value or ABSENT and may not be left out. -/
def Given.orAbsent {α : Type} : Given α → Except Reason (Option α)
  | .left | .bad => .error .range
  | .value a => .ok (some a)
  | .named => .ok none

/-- A set-or-clear value: 00h or 01h (R200). -/
def flagOf : Nat → Except Reason Bool
  | 0 => .ok false
  | 1 => .ok true
  | _ => .error .range

/-- A plain index whose FFh stands for the absent value (R200). -/
def indexOrAbsent (n : Nat) : Option Nat := if n = 255 then none else some n

/-- A body with lists or strings must end where they do. -/
def exact (rest : List Byte) : Except Reason Unit := if rest.isEmpty then .ok () else .error .length

/-! ## Bodies -/

def bodyOne (b : List Byte) : Except Reason Nat := do
  let (x, _) ← one b
  return x

def bodyTwoBytes (b : List Byte) : Except Reason (Nat × Nat) := do
  let (x, r) ← one b
  let (y, _) ← one r
  return (x, y)

def bodyThreeBytes (b : List Byte) : Except Reason (Nat × Nat × Nat) := do
  let (x, r) ← one b
  let (y, r) ← one r
  let (z, _) ← one r
  return (x, y, z)

def bodyCabin (b : List Byte) : Except Reason Nat := do
  let (n, _) ← three b
  return n

def bodyCabinByte (b : List Byte) : Except Reason (Nat × Nat) := do
  let (n, r) ← three b
  let (x, _) ← one r
  return (n, x)

def bodyWord (b : List Byte) : Except Reason Nat := do
  let (n, _) ← two b
  return n

def bodyDetour (b : List Byte) : Except Reason DetourFields := do
  let (z, x, y) ← bodyThreeBytes b
  return ⟨z, x, y⟩

def bodyConfirm (b : List Byte) : Except Reason (Nat × DetourFields) := do
  let (k, r) ← one b
  let f ← bodyDetour r
  return (k, f)

/-- Drill flag of ALERT and MUSTER. -/
def bodyFlag (b : List Byte) : Except Reason Bool := do
  let (x, _) ← one b
  flagOf x

def pairItem : Reader (Nat × Nat) := fun b => do
  let (x, r) ← one b
  let (y, r) ← one r
  return ((x, y), r)

/-- SET CONDITION and SET ATTENTION MASK: a list of 2-byte items. -/
def bodyPairs (b : List Byte) : Except Reason (List (Nat × Nat)) := do
  let (ps, r) ← listField pairItem b
  exact r
  return ps

/-- The fields of a PLAN WRITE put, before the checks of R10. -/
def edgeClassOf : Nat → Except Reason EdgeClass
  | 0 => .ok .corridor
  | 1 => .ok .stair
  | 2 => .ok .lift
  | 3 => .ok .crew
  | _ => .error .range

def portalClassOf : Nat → Except Reason PortalClass
  | 0 => .ok .stair
  | 1 => .ok .lift
  | _ => .error .range

/-- An index below its bound, else RANGE. -/
def below (bound n : Nat) : Except Reason Nat := if n < bound then .ok n else .error .range

def optionalBelow (bound n : Nat) : Except Reason (Option Nat) :=
  if n = 255 then .ok none else if n < bound then .ok (some n) else .error .range

def locationOf (n : Nat) : Except Reason Location :=
  if n = 255 then .ok .remote else if n < Config.nodeCount then .ok (.node n) else .error .range

/-- Labels are truncated; an empty one is refused (R10). -/
def labelOf (limit : Nat) (t : Text) : Except Reason Text :=
  if t.isEmpty then .error .range else .ok (t.take limit)

/-- Clamp into a range of quantity (R193). -/
def clamp (lo hi n : Nat) : Nat := max lo (min hi n)

def readNode (b : List Byte) : Except Reason Record := do
  let (z, v) ← bodyTwoBytes b
  let zone ← below Config.zoneCount z
  let venue ← optionalBelow Config.venueCount v
  return .node ⟨zone, venue⟩

def readEdge (b : List Byte) : Except Reason Record := do
  let (na, r) ← one b
  let (nb, r) ← one r
  let (c, r) ← one r
  let (len, r) ← two r
  let (brg, r) ← one r
  let (z, _) ← one r
  let na ← below Config.nodeCount na
  let nb ← below Config.nodeCount nb
  let cls ← edgeClassOf c
  let zone ← below Config.zoneCount z
  return .edge ⟨na, nb, cls, clamp 1 4095 len, brg % 16, zone⟩

def readZone (b : List Byte) : Except Reason Record := do
  let s ← bodyOne b
  let s ← below Config.stationCount s
  return .zone ⟨s⟩

def readStation (b : List Byte) : Except Reason Record := do
  let (t, r) ← textField b
  let (n, r) ← one r
  exact r
  let label ← labelOf 3 t
  let loc ← locationOf n
  return .station ⟨label, loc⟩

def readVenue (b : List Byte) : Except Reason Record := do
  let (t, r) ← textField b
  let (n, r) ← one r
  exact r
  let label ← labelOf 16 t
  let loc ← locationOf n
  return .venue ⟨label, loc⟩

def readPortal (b : List Byte) : Except Reason Record := do
  let (n, c, brg) ← bodyThreeBytes b
  let node ← below Config.nodeCount n
  let cls ← portalClassOf c
  return .portal ⟨node, cls, brg % 16⟩

/-- R6: cabin numbers are 1..99999 and are not clamped. -/
def cabinNumberFits (n : Nat) : Bool := decide (1 ≤ n) && decide (n ≤ 99999)

def readCabin (b : List Byte) : Except Reason Record := do
  let (n, r) ← three b
  let (d, s) ← bodyTwoBytes r
  if cabinNumberFits n then
    let door ← below Config.nodeCount d
    let station ← below Config.stationCount s
    return .cabin ⟨n, door, station⟩
  else .error .range

/-- A sign list: at most 3 distinct venue ids (R7). -/
def signsOf (vs : List Nat) : Except Reason (List Nat) :=
  if vs.length ≤ 3 && vs.all (· < Config.venueCount) && decide vs.Nodup then .ok vs else .error .range

/-- Fields of a role other than the written one are ignored (R7). -/
def roleOf (role cabin venue : Nat) (signs : List Nat) : Except Reason Role :=
  match role with
  | 0 => do
    let c ← below Config.cabinCount cabin
    return .door c
  | 1 => do
    let vs ← signsOf signs
    return .corridor vs
  | 2 => do
    let v ← below Config.venueCount venue
    return .venue v
  | _ => .error .range

def readPlacement (b : List Byte) : Except Reason Record := do
  let (role, r) ← one b
  let (n, r) ← one r
  let (f, r) ← one r
  let (c, r) ← one r
  let (v, r) ← one r
  let (signs, r) ← listField one r
  let (expected, r) ← sixIdentity r
  exact r
  let role ← roleOf role c v signs
  let node ← below Config.nodeCount n
  return .placement ⟨role, node, f % 16, expected⟩

def recordKindOf : Nat → Except Reason RecordKind
  | 0 => .ok .node
  | 1 => .ok .edge
  | 2 => .ok .zone
  | 3 => .ok .station
  | 4 => .ok .venue
  | 5 => .ok .portal
  | 6 => .ok .cabin
  | 7 => .ok .placement
  | _ => .error .range

/-- Index range of a record kind (01 The Deck Plan). -/
def RecordKind.capacity : RecordKind → Nat
  | .node => Config.nodeCount
  | .edge => Config.edgeCount
  | .zone => Config.zoneCount
  | .station => Config.stationCount
  | .venue => Config.venueCount
  | .portal => Config.portalCount
  | .cabin => Config.cabinCount
  | .placement => Config.placementCount

def readRecord : RecordKind → List Byte → Except Reason Record
  | .node => readNode
  | .edge => readEdge
  | .zone => readZone
  | .station => readStation
  | .venue => readVenue
  | .portal => readPortal
  | .cabin => readCabin
  | .placement => readPlacement

/-- PLAN WRITE: form (put 0, remove 1), record kind, index, and for a put the record's fields. A remove
gives no record. -/
structure PlanWriteBody where
  kind : RecordKind
  index : Nat
  record : Option Record
  deriving DecidableEq, Repr

def bodyPlanWrite (b : List Byte) : Except Reason PlanWriteBody := do
  let (form, r) ← one b
  let (k, r) ← one r
  let (i, r) ← one r
  let kind ← recordKindOf k
  match form with
  | 0 =>
    let record ← readRecord kind r
    let index ← below kind.capacity i
    return ⟨kind, index, some record⟩
  | 1 =>
    let index ← below kind.capacity i
    return ⟨kind, index, none⟩
  | _ => .error .range

/-- SET CLOCK: voyage minute behind its presence byte, seconds. -/
def bodySetClock (b : List Byte) : Except Reason (Nat × Nat) := do
  let (m, r) ← given two b
  let (sec, _) ← one r
  let minute ← m.required
  return (minute, sec)

def bodySetOffset : List Byte → Except Reason Int
  | a :: b :: _ => .ok (readSigned2 a b)
  | _ => .error .length

/-- The four title ids, each behind a presence byte, language 0 first. -/
def titlesField : Reader (Given Nat × Given Nat × Given Nat × Given Nat) := fun b => do
  let (a, r) ← given two b
  let (c, r) ← given two r
  let (d, r) ← given two r
  let (e, r) ← given two r
  return ((a, c, d, e), r)

/-- A title id of 0 given as present is refused (R77). -/
def titleOf (g : Given Nat) : Except Reason (Option Nat) := do
  let t ← g.optional
  match t with
  | some 0 => .error .range
  | t => return t

def titlesOf (g : Given Nat × Given Nat × Given Nat × Given Nat) : Except Reason Titles := do
  let a ← titleOf g.1
  let b ← titleOf g.2.1
  let c ← titleOf g.2.2.1
  let d ← titleOf g.2.2.2
  return ⟨a, b, c, d⟩

def categoryOf : Nat → Except Reason Category
  | 0 => .ok .showing
  | 1 => .ok .dining
  | 2 => .ok .activity
  | 3 => .ok .talk
  | 4 => .ok .port
  | 5 => .ok .family
  | _ => .error .range

/-- EVENT ADD: every field of R74 but the state and the moved mark. -/
structure EventAddBody where
  id : Nat
  venue : Nat
  start : Nat
  stop : Nat
  category : Category
  titles : Titles
  deriving DecidableEq, Repr

def bodyEventAdd (b : List Byte) : Except Reason EventAddBody := do
  let (id, r) ← two b
  let (v, r) ← one r
  let (st, r) ← given two r
  let (en, r) ← given two r
  let (c, r) ← one r
  let (ts, _) ← titlesField r
  let start ← st.required
  let stop ← en.required
  let venue ← below Config.venueCount v
  let category ← categoryOf c
  let titles ← titlesOf ts
  if id = 0 then .error .range else return ⟨id, venue, start, stop, category, titles⟩

/-- EVENT MODIFY: an event id and four optional fields (R78). -/
structure EventModifyBody where
  id : Nat
  venue : Option Nat
  start : Option Nat
  stop : Option Nat
  titles : Option Titles
  deriving DecidableEq, Repr

def bodyEventModify (b : List Byte) : Except Reason EventModifyBody := do
  let (id, r) ← two b
  let (v, r) ← given one r
  let (st, r) ← given two r
  let (en, r) ← given two r
  let (ts, _) ← given titlesField r
  let v ← v.optional
  let start ← st.optional
  let stop ← en.optional
  let ts ← ts.optional
  let venue ← match v with
    | none => pure none
    | some x => do
      let y ← below Config.venueCount x
      pure (some y)
  let titles ← match ts with
    | none => pure none
    | some x => do
      let y ← titlesOf x
      pure (some y)
  if id = 0 then .error .range else return ⟨id, venue, start, stop, titles⟩

/-- An event id 1..65535. -/
def bodyEventId (b : List Byte) : Except Reason Nat := do
  let id ← bodyWord b
  if id = 0 then .error .range else return id

/-- A text id 1..65535 behind its presence byte, and a language 0..3. -/
def textKeyOf (g : Given Nat) (lang : Nat) : Except Reason (Nat × Nat) := do
  let id ← g.required
  let l ← below 4 lang
  if id = 0 then .error .range else return (id, l)

def bodyTextKey (b : List Byte) : Except Reason (Nat × Nat) := do
  let (g, r) ← given two b
  let (l, _) ← one r
  textKeyOf g l

/-- TEXT PUT: text id, language, string; an empty string is refused and a long one truncated (R82). Behind a presence byte of
no known value the count of the string has no known place, so the fixed part alone is checked for its length (log 11). -/
def bodyTextPut (b : List Byte) : Except Reason (Nat × Nat × Text) := do
  let (g, r) ← given two b
  let (l, r) ← one r
  match g with
  | .bad =>
    let _ ← one r
    .error .range
  | _ =>
    let (t, r) ← textField r
    exact r
    let (id, lang) ← textKeyOf g l
    let t ← labelOf 64 t
    return (id, lang, t)

/-- CABIN GUESTS (R95): each field left out or given. -/
structure CabinGuestsBody where
  number : Nat
  aboard : Option Aboard
  language : Option Nat
  name : Option (Option Nat)
  dnd : Option Bool
  serviceClear : Bool
  deriving DecidableEq, Repr

def aboardOf : Given Nat → Except Reason (Option Aboard)
  | .left => .ok none
  | .named => .ok (some .unknown)
  | .value n => .ok (some (.count (min n 6)))
  | .bad => .error .range

def nameOf : Given Nat → Except Reason (Option (Option Nat))
  | .left => .ok none
  | .named => .ok (some none)
  | .value 0 | .bad => .error .range
  | .value n => .ok (some (some n))

def languageOf : Option Nat → Except Reason (Option Nat)
  | none => .ok none
  | some l => if l < 4 then .ok (some l) else .error .range

def dndOf : Option Nat → Except Reason (Option Bool)
  | none => .ok none
  | some 0 => .ok (some false)
  | some 1 => .ok (some true)
  | some _ => .error .range

def serviceOf : Option Nat → Except Reason Bool
  | none => .ok false
  | some 0 => .ok true
  | some _ => .error .range

def bodyCabinGuests (b : List Byte) : Except Reason CabinGuestsBody := do
  let (n, r) ← three b
  let (ab, r) ← given one r
  let (la, r) ← given one r
  let (na, r) ← given two r
  let (dn, r) ← given one r
  let (sv, _) ← given one r
  let aboard ← aboardOf ab
  let la ← la.optional
  let dn ← dn.optional
  let sv ← sv.optional
  let language ← languageOf la
  let name ← nameOf na
  let dnd ← dndOf dn
  let serviceClear ← serviceOf sv
  if cabinNumberFits n then return ⟨n, aboard, language, name, dnd, serviceClear⟩ else .error .range

/-- A text id or ABSENT; 0 given as present is refused. -/
def textIdOrAbsent (g : Given Nat) : Except Reason (Option Nat) := do
  let t ← g.orAbsent
  match t with
  | some 0 => .error .range
  | t => return t

/-- SET PARKED TEXT: placement, then a text id or ABSENT (R131). -/
def bodyParkedText (b : List Byte) : Except Reason (Nat × Option Nat) := do
  let (p, r) ← one b
  let (g, _) ← given two r
  let t ← textIdOrAbsent g
  let p ← below Config.placementCount p
  return (p, t)

/-- One item of REMAINDER SET (R201): form, portal, kind, index, cost, walked. -/
structure RemainderItem where
  form : Nat
  portal : Nat
  kind : Nat
  index : Nat
  cost : Nat
  walked : Nat
  deriving DecidableEq, Repr

def remainderItem : Reader RemainderItem := fun b => do
  let (f, r) ← one b
  let (p, r) ← one r
  let (k, r) ← one r
  let (i, r) ← one r
  let (c, r) ← two r
  let (w, r) ← two r
  return (⟨f, p, k, i, c, w⟩, r)

def bodyRemainders (b : List Byte) : Except Reason (List RemainderItem) := do
  let (is, r) ← listField remainderItem b
  exact r
  return is

/-- POST NOTICE (R201). -/
structure PostNoticeBody where
  target : Target
  text : Nat
  urgent : Bool
  expiry : Option Nat
  deriving DecidableEq, Repr

/-- Target kind and 3-byte target (R201). SECTION carries 000000h; with another value it is refused with RANGE (the model's choice:
log 37). -/
def targetOf (kind n : Nat) : Except Reason Target :=
  match kind with
  | 0 => if n = 0 then .ok .wholeSection else .error .range
  | 1 => if n < Config.placementCount then .ok (.placement n) else .error .range
  | 2 => if cabinNumberFits n then .ok (.cabin n) else .error .range
  | 3 => if n < Config.zoneCount then .ok (.zone n) else .error .range
  | _ => .error .range

/-- Urgency NORMAL 0, URGENT 1. -/
def urgencyOf : Nat → Except Reason Bool
  | 0 => .ok false
  | 1 => .ok true
  | _ => .error .range

def bodyPostNotice (b : List Byte) : Except Reason PostNoticeBody := do
  let (k, r) ← one b
  let (n, r) ← three r
  let (t, r) ← given two r
  let (u, r) ← one r
  let (e, _) ← given two r
  let target ← targetOf k n
  let text ← t.required
  let urgent ← urgencyOf u
  let expiry ← e.optional
  if text = 0 then .error .range else return ⟨target, text, urgent, expiry⟩

/-- PLAN READ: copy (ACTIVE 0, SHADOW 1), kind, index. -/
structure PlanReadBody where
  shadow : Bool
  kind : RecordKind
  index : Nat
  deriving DecidableEq, Repr

/-- PLAN READ (R20): a kind or index out of its range is refused before the copy is asked for, so before DENIED and STATE (the
model's choice: log 11). -/
def bodyPlanRead (b : List Byte) : Except Reason PlanReadBody := do
  let (c, k, i) ← bodyThreeBytes b
  let shadow ← flagOf c
  let kind ← recordKindOf k
  let index ← below kind.capacity i
  return ⟨shadow, kind, index⟩

def destKindOf : Nat → Except Reason DestKind
  | 0 => .ok .station
  | 1 => .ok .venue
  | _ => .error .range

def DestKind.count : DestKind → Nat
  | .station => Config.stationCount
  | .venue => Config.venueCount

/-- ROUTE READ (R68, R201): either form has at least one field after the destination. -/
inductive RouteReadBody where
  | nodes (k : DestKind) (i first count : Nat)
  | placement (k : DestKind) (i p : Nat)
  deriving DecidableEq, Repr

def bodyRouteRead (b : List Byte) : Except Reason RouteReadBody := do
  let (form, r) ← one b
  let (k, r) ← one r
  let (i, r) ← one r
  let (x, r) ← one r
  match form with
  | 0 =>
    let (count, _) ← one r
    let kind ← destKindOf k
    let i ← below kind.count i
    let first ← below Config.nodeCount x
    if count = 0 then .error .range else return .nodes kind i first (min count 32)
  | 1 =>
    let kind ← destKindOf k
    let i ← below kind.count i
    let p ← below Config.placementCount x
    return .placement kind i p
  | _ => .error .range

/-- EVENT LIST: first id and count (R91). -/
def bodyEventList (b : List Byte) : Except Reason (Nat × Nat) := do
  let (first, r) ← two b
  let (count, _) ← one r
  if first = 0 || count = 0 then .error .range else return (first, min count 16)

/-- A station 0..7 or ABSENT (FFh). -/
def stationOrAbsent (n : Nat) : Except Reason (Option Nat) := optionalBelow Config.stationCount n

def instructionOf : Nat → Except Reason (Option InstructionCode)
  | 0 => .ok (some .useStairs)
  | 1 => .ok (some .avoidLifts)
  | 2 => .ok (some .keepRight)
  | 3 => .ok (some .keepLeft)
  | 4 => .ok (some .waitForCrew)
  | 5 => .ok (some .bringLifejacket)
  | 255 => .ok none
  | _ => .error .range

/-- Segment 0..3. -/
def segOf (n : Nat) : Except Reason Seg := if h : n < 4 then .ok ⟨n, h⟩ else .error .range

def bodySeg (b : List Byte) : Except Reason Seg := do
  let x ← bodyOne b
  segOf x

/-- A display: segment, then address 1..48 (R201). -/
def displayOf (g a : Nat) : Except Reason (Seg × Nat) := do
  let g ← segOf g
  if 1 ≤ a ∧ a ≤ 48 then return (g, a) else .error .range

def bodyDisplay (b : List Byte) : Except Reason (Seg × Nat) := do
  let (g, a) ← bodyTwoBytes b
  displayOf g a

/-- BIND: placement, segment, address (R21). -/
def bodyBind (b : List Byte) : Except Reason (Nat × Seg × Nat) := do
  let (p, g, a) ← bodyThreeBytes b
  let p ← below Config.placementCount p
  let (g, a) ← displayOf g a
  return (p, g, a)

end Sys2Proof.Machine
end

