-- ==== Sys2Proof/Machine/Conditions.lean ====
section
/-! DEFINITION. The condition table's commands (chapter 2). -/

namespace Sys2Proof.Machine

/-! ## Edge conditions -/

/-- Condition values in the order of R28. -/
def conditionOf : Nat → Option Condition
  | 0 => some .openEdge
  | 1 => some .crowded
  | 2 => some .smoke
  | 3 => some .closed
  | _ => none

/-- The condition stored for edge `i`; an edge that is not listed is OPEN (R27). -/
def State.condition (s : State) (i : Nat) : Condition := (Table.get s.cond.edges i).getD .openEdge

/-- Store a condition: OPEN is held by listing nothing. -/
def putCondition (t : Table Condition) (i : Nat) (c : Condition) : Table Condition :=
  if c = .openEdge then Table.del t i else Table.put t i c

/-- The checks of R29 on one pair, at its position. A passing pair gives the edge and its condition. -/
def checkPair (p : Plan) (pos : Nat) (x : Nat × Nat) : Except Reply (Nat × Condition) :=
  if Config.edgeCount ≤ x.1 then .error (.badAt .range (.position pos))
  else
    match conditionOf x.2 with
    | none => .error (.badAt .range (.position pos))
    | some c => if Table.has p.edges x.1 then .ok (x.1, c) else .error (.refuseAt .notFound (.position pos))

/-- Check the items of a list in order, position by position; the first failing check ends the checking. -/
def checkItems {α β : Type} (check : Nat → α → Except Reply β) : Nat → List α → Except Reply (List β)
  | _, [] => .ok []
  | pos, x :: xs =>
    match check pos x with
    | .error r => .error r
    | .ok y =>
      match checkItems check (pos + 1) xs with
      | .error r => .error r
      | .ok ys => .ok (y :: ys)

/-- The table with every pair applied, a later pair over an earlier one (R29). -/
def applyPairs (t : Table Condition) (ps : List (Nat × Condition)) : Table Condition :=
  ps.foldl (fun acc x => putCondition acc x.1 x.2) t

/-- Does the table give another condition for an edge of the list? (R29, R43) -/
def conditionsChanged (old new : Table Condition) (ps : List (Nat × Condition)) : Bool :=
  ps.any fun x => (Table.get old x.1).getD .openEdge != (Table.get new x.1).getD .openEdge

/-- A list of 1 to 16 items (R29, R41). -/
def listFits {α : Type} (xs : List α) : Bool := decide (1 ≤ xs.length) && decide (xs.length ≤ 16)

def setCondition (ps : List (Nat × Nat)) (s : State) : Handled :=
  if listFits ps then
    match checkItems (checkPair s.activePlan) 0 ps with
    | .error r => .answer s r
    | .ok cs =>
      let new := applyPairs s.cond.edges cs
      let next := { s with cond := { s.cond with edges := new } }
      .answer (next.triggerIf (conditionsChanged s.cond.edges new cs)) .ok
  else .answer s (.bad .range)

/-- SET_CONDITION (R29, R43). -/
def execSetCondition (l : LinkId) (tag : Byte) (body : List Byte) (s : State) : Host.Outcome State Fault Refusal :=
  .next (takeRequest .safety false 0x15#8 l tag (fun t => parsed (bodyPairs body) t fun ps => setCondition ps t) s)

/-! ## Detours -/

/-- The checks of R31, in their order; `none` when all pass. -/
def checkDetour (p : Plan) (f : DetourFields) : Option Reply :=
  if Config.zoneCount ≤ f.zone ∨ Config.edgeCount ≤ f.blocked ∨ Config.edgeCount ≤ f.opened then some (.bad .range)
  else if f.blocked = f.opened then some (.bad .sameEdge)
  else if !Table.has p.zones f.zone then some (.refuse .notFound)
  else
    match Table.get p.edges f.blocked, Table.get p.edges f.opened with
    | some b, some o =>
      if o.cls ≠ .crew then some (.bad .notCrew)
      else if b.zone ≠ f.zone ∨ o.zone ≠ f.zone then some (.bad .zoneMismatch)
      else none
    | _, _ => some (.refuse .notFound)

/-- Does the zone's slot hold a fixed detour? -/
def State.slotFixed (s : State) (zone : Nat) : Bool := (Table.get s.cond.slots zone).any (·.fixed)

def softDetourSet (f : DetourFields) (s : State) : Handled :=
  match checkDetour s.activePlan f with
  | some r => .answer s r
  | none =>
    if s.slotFixed f.zone then .answer s (.refuse .taken)
    else if Table.get s.cond.slots f.zone = some ⟨f.blocked, f.opened, false⟩ then .answer s .ok
    else
      let next := { s with cond := { s.cond with slots := Table.put s.cond.slots f.zone ⟨f.blocked, f.opened, false⟩ } }
      .answer next.trigger .ok

/-- SOFT_DETOUR_SET (R33). -/
def execSoftDetourSet (l : LinkId) (tag : Byte) (body : List Byte) (s : State) : Host.Outcome State Fault Refusal :=
  .next (takeRequest .safety false 0x16#8 l tag (fun t => parsed (bodyDetour body) t fun f => softDetourSet f t) s)

def softDetourClear (zone : Nat) (s : State) : Handled :=
  if Config.zoneCount ≤ zone then .answer s (.bad .range)
  else if !Table.has s.activePlan.zones zone then .answer s (.refuse .notFound)
  else
    match Table.get s.cond.slots zone with
    | none => .answer s (.refuse .notFound)
    | some d =>
      if d.fixed then .answer s (.refuse .taken)
      else
        let next := { s with cond := { s.cond with slots := Table.del s.cond.slots zone } }
        .answer next.trigger .ok

/-- SOFT_DETOUR_CLEAR (R34). -/
def execSoftDetourClear (l : LinkId) (tag : Byte) (body : List Byte) (s : State) : Host.Outcome State Fault Refusal :=
  .next (takeRequest .safety false 0x17#8 l tag (fun t => parsed (bodyOne body) t fun z => softDetourClear z t) s)

/-- The table of R35. -/
def confirmStep (k : Nat) (f : DetourFields) (s : State) : Handled :=
  if k = 0 ∨ 4 < k then .answer s.abandonConfirm (.bad .range)
  else if k = 1 ∧ s.cond.progress = 0 then
    match checkDetour s.activePlan f with
    | some r => .answer s.abandonConfirm r
    | none =>
      if s.slotFixed f.zone then .answer s.abandonConfirm (.refuse .taken)
      else .answer { s with cond := { s.cond with progress := 1, fields := some f } } .ok
  else if 2 ≤ k ∧ s.cond.progress = k - 1 ∧ s.cond.fields = some f then
    .answer { s with cond := { s.cond with progress := k } } .ok
  else .answer s.abandonConfirm ⟨.state, .steps s.cond.progress⟩

/-- CONFIRM (R35). A body refused by the port does not continue the sequence and so abandons it (R36). -/
def execConfirm (l : LinkId) (tag : Byte) (body : List Byte) (s : State) : Host.Outcome State Fault Refusal :=
  .next (takeRequest .safety true 0x18#8 l tag
    (fun t => match bodyConfirm body with
      | .error r => .answer t.abandonConfirm (.bad r)
      | .ok x => confirmStep x.1 x.2 t) s)

/-- The steps an INCOMPLETE answer reports (R37). -/
def stepsTaken (c : ConditionTable) (f : DetourFields) : Nat := if c.fields = some f then c.progress else 0

/-- FIXED DETOUR on a state whose sequence was as `c` and is cleared (R37). -/
def fixedDetour (tag : Byte) (f : DetourFields) (c : ConditionTable) (s : State) : Handled :=
  if c.progress < 4 ∨ c.fields ≠ some f then .answer s ⟨.incomplete, .steps (stepsTaken c f)⟩
  else
    match checkDetour s.activePlan f with
    | some r => .answer s r
    | none =>
      if s.slotFixed f.zone then .answer s (.refuse .taken)
      else if s.storeBusy then .answer s (.refuse .busy)
      else
        let next := { s with cond := { s.cond with writing := some f } }
        .answer ((next.startWrite (.fixedDetour f)).beginOp .safety ⟨.fixedDetour, tag, none⟩) .accepted

/-- FIXED_DETOUR (R37). -/
def execFixedDetour (l : LinkId) (tag : Byte) (body : List Byte) (s : State) : Host.Outcome State Fault Refusal :=
  .next (takeRequest .safety true 0x19#8 l tag
    (fun t => parsed (bodyDetour body) t.abandonConfirm fun f => fixedDetour tag f t.cond t.abandonConfirm) s)

/-- The fixed-detour write completes (R38). -/
def fixedDetourCompletion (s : State) : State :=
  match s.store.inFlight with
  | some (.fixedDetour f) =>
    let d : Detour := ⟨f.blocked, f.opened, true⟩
    let s1 := { s with
      store := { s.store with fixed := Table.put s.store.fixed f.zone d }
      cond := { s.cond with slots := Table.put s.cond.slots f.zone d, writing := none } }
    s1.finishWrite.trigger.completeOp .fixedDetour none (.fixedDetour f)
  | _ => s

/-- FIXED_DETOUR_COMPLETION (R38). With no such write in flight nothing completes (log 3). -/
def execFixedDetourCompletion (s : State) : Host.Outcome State Fault Refusal := .next (fixedDetourCompletion s.begin)

/-! ## Remainders -/

/-- A checked item: the key of its entry and what the entry becomes. -/
abbrev RemainderChange := Nat × Option Remainder

/-- What a put or remove stores: a cost of 65535 stores the entry absent, a walked length above 65534 is
65534 (R41). -/
def remainderValue (x : RemainderItem) : Option Remainder :=
  if x.form = 1 ∨ x.cost = Config.noRoute then none else some ⟨x.cost, min x.walked Config.routeCap⟩

def destDefined (p : Plan) (k : DestKind) (i : Nat) : Bool :=
  match k with
  | .station => Table.has p.stations i
  | .venue => Table.has p.venues i

/-- The columns a link may write (R40). -/
def ownColumn (l : LinkId) (k : DestKind) : Bool :=
  match l, k with
  | .safety, .station => true
  | .hotel, .venue => true
  | _, _ => false

/-- The checks of R41 on one item. A form that is neither put nor remove is an enumerated value out of its
list (R200). -/
def checkRemainder (p : Plan) (l : LinkId) (pos : Nat) (x : RemainderItem) : Except Reply RemainderChange :=
  match destKindOf x.kind with
  | .error _ => .error (.badAt .range (.position pos))
  | .ok k =>
    if 1 < x.form ∨ Config.portalCount ≤ x.portal ∨ k.count ≤ x.index then .error (.badAt .range (.position pos))
    else if !ownColumn l k then .error (.refuseAt .denied (.position pos))
    else if Table.has p.portals x.portal && destDefined p k x.index then
      .ok (remainderKey x.portal k x.index, remainderValue x)
    else .error (.refuseAt .notFound (.position pos))

def applyRemainders (t : Table Remainder) (cs : List RemainderChange) : Table Remainder :=
  cs.foldl (fun acc c => Table.set acc c.1 c.2) t

def remaindersChanged (old new : Table Remainder) (cs : List RemainderChange) : Bool :=
  cs.any fun c => Table.get old c.1 != Table.get new c.1

def remainderSet (l : LinkId) (xs : List RemainderItem) (s : State) : Handled :=
  if listFits xs then
    match checkItems (checkRemainder s.activePlan l) 0 xs with
    | .error r => .answer s r
    | .ok cs =>
      let new := applyRemainders s.cond.remainders cs
      let next := { s with cond := { s.cond with remainders := new } }
      .answer (next.triggerIf (remaindersChanged s.cond.remainders new cs)) .ok
  else .answer s (.bad .range)

/-- REMAINDER_SET (R41). -/
def execRemainderSet (l : LinkId) (tag : Byte) (body : List Byte) (s : State) : Host.Outcome State Fault Refusal :=
  .next (takeRequest .shared false 0x40#8 l tag (fun t => parsed (bodyRemainders body) t fun xs => remainderSet l xs t) s)

/-- Does the key of an entry belong to the link's columns, and to the named portal if there is one? -/
def clearsEntry (l : LinkId) (portal : Option Nat) (key : Nat) : Bool :=
  (match l with
    | .safety => decide (key % 40 < 8)
    | .hotel => decide (8 ≤ key % 40)) &&
  portal.all fun p => key / 40 == p

def clearRemainders (l : LinkId) (portal : Option Nat) (s : State) : Handled :=
  let new := Table.keep (fun k _ => !clearsEntry l portal k) s.cond.remainders
  let next := { s with cond := { s.cond with remainders := new } }
  .answer (next.triggerIf (decide (new ≠ s.cond.remainders))) .ok

/-- REMAINDER CLEAR: its byte is a portal index, or FFh for every row (R42, R200). -/
def remainderClear (l : LinkId) (n : Nat) (s : State) : Handled :=
  match optionalBelow Config.portalCount n with
  | .error r => .answer s (.bad r)
  | .ok portal =>
    if s.planless || !(portal.all fun p => Table.has s.activePlan.portals p) then .answer s (.refuse .notFound)
    else clearRemainders l portal s

/-- REMAINDER_CLEAR (R42). -/
def execRemainderClear (l : LinkId) (tag : Byte) (body : List Byte) (s : State) : Host.Outcome State Fault Refusal :=
  .next (takeRequest .shared false 0x41#8 l tag (fun t => parsed (bodyOne body) t fun n => remainderClear l n t) s)

/-! ## Reads (R44) -/

def conditionRead (first count : Nat) (s : State) : Handled :=
  if Config.edgeCount ≤ first ∨ count = 0 then .answer s (.bad .range)
  else
    let n := min (min count 32) (Config.edgeCount - first)
    .answer s (.results (.conditions ((List.range n).map fun j =>
      if Table.has s.activePlan.edges (first + j) then some (s.condition (first + j)) else none)))

/-- CONDITION_READ (R44). -/
def execConditionRead (l : LinkId) (tag : Byte) (body : List Byte) (s : State) : Host.Outcome State Fault Refusal :=
  .next (takeRequest .shared false 0x51#8 l tag (fun t => parsed (bodyTwoBytes body) t fun x => conditionRead x.1 x.2 t) s)

def detourRead (s : State) : Detail :=
  .detours ((List.range Config.zoneCount).map fun z => if s.planless then none else Table.get s.cond.slots z) s.cond.writing

/-- DETOUR_READ (R44). -/
def execDetourRead (l : LinkId) (tag : Byte) (_body : List Byte) (s : State) : Host.Outcome State Fault Refusal :=
  .next (takeRequest .shared false 0x52#8 l tag (fun t => .answer t (.results (detourRead t))) s)

def remainderRead (portal : Nat) (s : State) : Handled :=
  if Config.portalCount ≤ portal then .answer s (.bad .range)
  else
    .answer s (.results (.remainders ((List.range 40).map fun c =>
      if s.planless then none else Table.get s.cond.remainders (portal * 40 + c))))

/-- REMAINDER_READ (R44). -/
def execRemainderRead (l : LinkId) (tag : Byte) (body : List Byte) (s : State) : Host.Outcome State Fault Refusal :=
  .next (takeRequest .shared false 0x53#8 l tag (fun t => parsed (bodyOne body) t fun p => remainderRead p t) s)

end Sys2Proof.Machine
end

