-- ==== Sys2Proof/Machine/PlanOps.lean ====
section
/-! DEFINITION. Shared operations of the plan store (chapter 1): records of a plan, commit validation, the
identity match, and what a commit carries over. -/

namespace Sys2Proof.Machine

/-! ## Records -/

def Plan.read (p : Plan) (k : RecordKind) (i : Nat) : Option Record :=
  match k with
  | .node => (Table.get p.nodes i).map .node
  | .edge => (Table.get p.edges i).map .edge
  | .zone => (Table.get p.zones i).map .zone
  | .station => (Table.get p.stations i).map .station
  | .venue => (Table.get p.venues i).map .venue
  | .portal => (Table.get p.portals i).map .portal
  | .cabin => (Table.get p.cabins i).map .cabin
  | .placement => (Table.get p.placements i).map .placement

/-- Put: the record at the index is replaced whole (R10). -/
def Plan.putRecord (p : Plan) (i : Nat) : Record → Plan
  | .node r => { p with nodes := Table.put p.nodes i r }
  | .edge r => { p with edges := Table.put p.edges i r }
  | .zone r => { p with zones := Table.put p.zones i r }
  | .station r => { p with stations := Table.put p.stations i r }
  | .venue r => { p with venues := Table.put p.venues i r }
  | .portal r => { p with portals := Table.put p.portals i r }
  | .cabin r => { p with cabins := Table.put p.cabins i r }
  | .placement r => { p with placements := Table.put p.placements i r }

/-- Remove: the record at the index becomes undefined (R10). -/
def Plan.removeRecord (p : Plan) (k : RecordKind) (i : Nat) : Plan :=
  match k with
  | .node => { p with nodes := Table.del p.nodes i }
  | .edge => { p with edges := Table.del p.edges i }
  | .zone => { p with zones := Table.del p.zones i }
  | .station => { p with stations := Table.del p.stations i }
  | .venue => { p with venues := Table.del p.venues i }
  | .portal => { p with portals := Table.del p.portals i }
  | .cabin => { p with cabins := Table.del p.cabins i }
  | .placement => { p with placements := Table.del p.placements i }

/-- Defined records of each kind, in the kind order of R13 (R20). -/
def Plan.counts (p : Plan) : List Nat :=
  [p.nodes.length, p.edges.length, p.zones.length, p.stations.length, p.venues.length, p.portals.length, p.cabins.length,
    p.placements.length]

/-! ## Validation (R13) -/

/-- The record a check reports. -/
abbrev Offender := RecordKind × Nat

/-- The first record of one kind that fails `bad`. -/
def offender {α : Type} (k : RecordKind) (t : Table α) (bad : Nat → α → Bool) : Option Offender :=
  Table.first (fun i r => if bad i r then some (k, i) else none) t

def firstOffender (xs : List (Option Offender)) : Option Offender := firstSome id xs

/-- A local node that is not defined. -/
def Location.dangling (p : Plan) : Location → Bool
  | .node n => !Table.has p.nodes n
  | .remote => false

def Role.dangling (p : Plan) : Role → Bool
  | .door c => !Table.has p.cabins c
  | .corridor vs => vs.any fun v => !Table.has p.venues v
  | .venue v => !Table.has p.venues v

/-- Check 1: a field names an undefined record. -/
def checkReference (p : Plan) : Option Offender :=
  firstOffender
    [offender .node p.nodes fun _ r => !Table.has p.zones r.zone || r.venue.any fun v => !Table.has p.venues v,
     offender .edge p.edges fun _ r => !Table.has p.nodes r.a || !Table.has p.nodes r.b || !Table.has p.zones r.zone,
     offender .station p.stations fun _ r => r.loc.dangling p,
     offender .venue p.venues fun _ r => r.loc.dangling p,
     offender .portal p.portals fun _ r => !Table.has p.nodes r.node,
     offender .cabin p.cabins fun _ r => !Table.has p.nodes r.door || !Table.has p.stations r.station,
     offender .placement p.placements fun _ r => !Table.has p.nodes r.node || r.role.dangling p]

/-- Check 2: a zone's default station is undefined. -/
def checkZoneStation (p : Plan) : Option Offender := offender .zone p.zones fun _ r => !Table.has p.stations r.station

/-- Check 3. -/
def checkSelfLoop (p : Plan) : Option Offender := offender .edge p.edges fun _ r => r.a == r.b

/-- Check 4: a node and a venue disagree as R4 states. -/
def checkVenueNode (p : Plan) : Option Offender :=
  firstOffender
    [offender .node p.nodes fun i r => r.venue.any fun v => (Table.get p.venues v).any fun x => x.loc != .node i,
     offender .venue p.venues fun i r => match r.loc with
       | .node n => !((Table.get p.nodes n).any fun x => x.venue == some i)
       | .remote => false]

/-- Check 5: a DOOR placement's node is not its cabin's door node. -/
def checkDoorNode (p : Plan) : Option Offender :=
  offender .placement p.placements fun _ r => match r.role with
    | .door c => (Table.get p.cabins c).any fun x => x.door != r.node
    | _ => false

/-- Check 6: a cabin number of a lower index. -/
def checkCabinNumber (p : Plan) : Option Offender :=
  offender .cabin p.cabins fun i r => p.cabins.any fun x => decide (x.1 < i) && x.2.number == r.number

/-- Check 7: an expected identity of a lower index. -/
def checkIdentity (p : Plan) : Option Offender :=
  offender .placement p.placements fun i r =>
    r.expected.isSome && p.placements.any fun x => decide (x.1 < i) && x.2.expected == r.expected

/-- The distinct sign venues after each CORRIDOR placement in index order; the one that brings the count
above 12 (check 8). -/
def signOverflow : Table Placement → List Nat → Option Nat
  | [], _ => none
  | (i, r) :: t, seen =>
    match r.role with
    | .corridor vs =>
      let seen' := vs.foldl (fun acc v => if acc.contains v then acc else v :: acc) seen
      if Config.signVenueLimit < seen'.length then some i else signOverflow t seen'
    | _ => signOverflow t seen

def checkSignVenues (p : Plan) : Option Offender := (signOverflow p.placements []).map fun i => (.placement, i)

/-- Validation of the shadow plan: the first failing check with the record it reports (R13). -/
def validatePlan (p : Plan) : Option (Reason × Offender) :=
  firstSome (fun x : Reason × Option Offender => x.2.map fun o => (x.1, o))
    [(.reference, checkReference p), (.zoneStation, checkZoneStation p), (.selfLoop, checkSelfLoop p),
     (.venueNode, checkVenueNode p), (.doorNode, checkDoorNode p), (.cabinNumber, checkCabinNumber p),
     (.duplicateIdentity, checkIdentity p), (.signVenues, checkSignVenues p)]

/-- The serial of the next committed plan (R13). -/
def nextSerial (n : Nat) : Nat := if n = 65535 then 1 else n + 1

/-! ## Identity match (R17, R22, R154) -/

/-- The placement whose expected identity is `i`. -/
def matchIdentity (p : Plan) (i : Identity) : Option Nat :=
  Table.first (fun k pl => if pl.expected = some i then some k else none) p.placements

/-- A record not FREE takes the result of a match; a HELD record takes it as its prior state (R17). -/
def RecState.rebind (st : RecState) (m : Option Nat) : RecState :=
  match st with
  | .free => .free
  | .placed _ | .orphan => match m with
    | some p => .placed p
    | none => .orphan
  | .held _ c => .held m c

def Display.rematch (p : Plan) (d : Display) : Display :=
  { d with state := d.state.rebind (d.identity.bind (matchIdentity p)) }

/-- A record bound to a placement loses it. -/
def losesPlacement (a b : RecState) : Bool := a.bound.isSome && b.bound.isNone

/-! ## Carry-over at a commit (R16) -/

/-- The volatile fields of a cabin of the new plan: those of the old cabin with its number. -/
def carryCabin (old : Plan) (cabins : Table CabinState) (new : Plan) (c : Cabin) : CabinState :=
  match cabinIndex old c.number with
  | none => CabinState.initial
  | some i =>
    let r := (Table.get cabins i).getD CabinState.initial
    { r with stationOverride := r.stationOverride.filter fun st => Table.has new.stations st }

def carryCabins (old : Plan) (cabins : Table CabinState) (new : Plan) : Table CabinState :=
  Table.mapVals (fun _ c => carryCabin old cabins new c) new.cabins

def carryZones (overrides : Table Nat) (new : Plan) : Table Nat :=
  Table.keep (fun z st => Table.has new.zones z && Table.has new.stations st) overrides

/-- The volatile fields of every cabin at their reset values (R94). -/
def freshCabins (p : Plan) : Table CabinState := Table.mapVals (fun _ _ => CabinState.initial) p.cabins

/-! ## Bind (R21, R22) -/

/-- Another placement that holds the identity. -/
def bindLoser (p : Plan) (target : Nat) (i : Identity) : Option Nat :=
  Table.first (fun k pl => if k ≠ target ∧ pl.expected = some i then some k else none) p.placements

def setExpected (p : Plan) (k : Nat) (e : Option Identity) : Plan :=
  match Table.get p.placements k with
  | some pl => { p with placements := Table.put p.placements k { pl with expected := e } }
  | none => p

/-- The two changes of a bind write. -/
def applyBind (p : Plan) (target : Nat) (i : Identity) (loser : Option Nat) : Plan :=
  let p1 := match loser with
    | some k => setExpected p k none
    | none => p
  setExpected p1 target (some i)

/-- The new state of a record at a bind completion: the record with the bind identity is bound to the
target; another record bound to the target or to the loser is bound no more (R22). -/
def bindState (d : Display) (target : Nat) (i : Identity) (loser : Option Nat) : RecState :=
  if d.state = .free then .free
  else if d.identity = some i then d.state.rebind (some target)
  else if d.state.bound = some target ∨ (loser.isSome ∧ d.state.bound = loser) then d.state.rebind none
  else d.state

/-- The segment and address of the record PLACED on a placement (R189). A HELD record that holds the bind identity stays
HELD (the table of R22), and the outcome names none for it, although the prose of R22 calls whichever record that is not FREE
the one that becomes PLACED: the model's choice, DESIGN CHOICE, unsafe (log 40). -/
def placedOn (dir : Table Display) (p : Nat) : Option (Seg × Nat) :=
  Table.first (fun k d => if d.state = .placed p then some (keySeg k, keyAddr k) else none) dir

/-- The kind of a write, as PLAN STATUS reports it (R20). -/
def Write.kind : Write → WriteKind
  | .commit _ => .commit
  | .bind _ _ _ => .bind
  | .fixedDetour _ => .fixedDetour
  | .latch (.set _) => .latchSet
  | .latch .clear => .latchClear
  | .settings _ => .settings

end Sys2Proof.Machine
end

