-- ==== Sys2Proof/Machine/Sweep.lean ====
section
/-! DEFINITION. Enrolment: the sweep, segment reset, revive and the directory's reads (chapter 7). -/

namespace Sys2Proof.Machine

/-! ## Starting a sweep (R148) -/

/-- A sweep starts, in phase OPEN (R148). -/
def State.beginSweep (s : State) (g : Seg) (c : SweepCause) : State :=
  s.modSeg g fun x =>
    { x with activity := .sweeping c .opening, mismatch := 0, enrolled := 0, muted := 0, autoTimer := none }

/-- A sweep request is taken by the segment's activity (R148). -/
def State.requestSweep (s : State) (g : Seg) (c : SweepCause) : State :=
  match (s.seg g).activity with
  | .idle =>
    match (s.seg g).exchange with
    | none => s.beginSweep g c
    | some _ => s.modSeg g fun x => { x with activity := .waiting c, autoTimer := none }
  | .waiting w =>
    if c = .request ∧ w = .automatic then s.modSeg g fun x => { x with activity := .waiting .request } else s
  | .sweeping _ _ => s.modSeg g fun x => { x with again := true }

/-- A sweep that waits starts once the exchange's outcome has been applied (R148). -/
def State.startWaiting (s : State) (g : Seg) : State :=
  match (s.seg g).activity, (s.seg g).exchange with
  | .waiting c, none => s.beginSweep g c
  | _, _ => s

def State.setPhase (s : State) (g : Seg) (p : SweepPhase) : State :=
  s.modSeg g fun x => match x.activity with
    | .sweeping c _ => { x with activity := .sweeping c p }
    | _ => x

/-- The sweep enters PRESENCE and broadcasts PRESENCE (R149). -/
def State.toPresence (s : State) (g : Seg) : State := (s.setPhase g .presence).send g .presence

/-- SWEEP OPEN, then PRESENCE, of a sweep that has started or that waits on a free segment (R148, R149). -/
def sweepStart (g : Seg) (s : State) : State :=
  let t := s.startWaiting g
  match (t.seg g).activity with
  | .sweeping _ .opening => (t.send g .sweepOpen).toPresence g
  | _ => s

/-- SWEEP_START (R148, R149). With no sweep to start there is no effect (log 3). -/
def execSweepStart (g : Seg) (s : State) : Host.Outcome State Fault Refusal := .next (sweepStart g s.begin)

/-- Does any record of the refresh queue hold a back card of class SAFETY? (R148) -/
def State.safetyQueued (s : State) (g : Seg) : Bool := (s.seg g).queue.any fun a => s.backClass g a == some .safety

def automaticExpiry (g : Seg) (s : State) : State :=
  match (s.seg g).autoTimer with
  | none => s
  | some _ =>
    if s.safetyQueued g then s.modSeg g fun x => { x with autoTimer := some Config.sweepSeconds }
    else (s.modSeg g fun x => { x with autoTimer := none }).requestSweep g .automatic

/-- AUTOMATIC_SWEEP_TIMER_EXPIRY (R148). A stopped timer does not expire (log 3). -/
def execAutomaticSweepTimerExpiry (g : Seg) (s : State) : Host.Outcome State Fault Refusal :=
  .next (automaticExpiry g s.begin)

/-! ## Ending a sweep (R155) -/

/-- The sweep-again mark starts a new sweep at once (R155). -/
def State.sweepAgain (s : State) (g : Seg) : State :=
  if (s.seg g).again then
    let waits := (s.seg g).requested = .next
    let t := s.modSeg g fun x =>
      { x with again := false, requested := if waits then .present else x.requested }
    t.beginSweep g (if waits then .request else .automatic)
  else s

/-- The SWEEP request this sweep completes (R155, R156). -/
def State.completeSweep (s : State) (g : Seg) (code : StepCode) : State :=
  let x := s.seg g
  if x.requested = .present then
    let t := s.modSeg g fun y => { y with requested := .absent }
    t.completeOp .sweep (some g) (.sweep g code x.enrolled x.muted)
  else s

/-- Phase CLOSE and the changes at the sweep's end, in the order of R155. -/
def State.closeSweep (s : State) (g : Seg) (code : StepCode) : State :=
  match (s.seg g).activity with
  | .sweeping c _ =>
    let t := (s.send g .sweepClose).modSeg g fun x =>
      { x with
        lastSweep := some ⟨c, code, x.enrolled, x.muted⟩
        activity := .idle
        autoTimer := some Config.sweepSeconds }
    (t.completeSweep g code).sweepAgain g
  | _ => s

/-! ## The rounds (R149 to R153) -/

/-- The step code of a presence query that finds no participant (R149). -/
def emptyCode (x : Segment) : StepCode :=
  if x.enrolled = 0 ∧ x.muted = 0 ∧ x.mismatch = 0 then .noneLeft else .complete

def presenceWindow (g : Seg) (driven : Bool) (s : State) : State :=
  match (s.seg g).activity with
  | .sweeping _ .presence =>
    if driven then (s.setPhase g (.isolation 0 0#48)).send g (.bit 1)
    else s.closeSweep g (emptyCode (s.seg g))
  | _ => s

/-- PRESENCE (R149). Outside that phase no window is open (log 3). -/
def execPresence (g : Seg) (driven : Bool) (s : State) : Host.Outcome State Fault Refusal :=
  .next (presenceWindow g driven s.begin)

/-- A display that gets no address is muted (R152 cases 2 and 3). -/
def State.muteDisplay (s : State) (g : Seg) (i : Identity) : State :=
  (s.send g (.mute i)).modSeg g fun x => { x with muted := x.muted + 1 }

/-- A record becomes FREE and remembers its identity (R152 case 4, R157). -/
def State.freeRecord (s : State) (k : Nat) : State := s.setDisplay k (Display.freed (s.display k).identity)

/-- The key of the first record that holds identity `i` and satisfies `p`. -/
def State.holderOf (s : State) (i : Identity) (p : Nat → Display → Bool) : Option Nat :=
  Table.first (fun k d => if d.identity = some i ∧ p k d then some k else none) s.dir

/-- A record of segment `g` that is not FREE (R152 case 1). -/
def heldHere (g : Seg) (k : Nat) (d : Display) : Bool := keySeg k == g && d.state != .free

/-- A PLACED or ORPHAN record of another segment (R152 case 2). -/
def liveElsewhere (g : Seg) (k : Nat) (d : Display) : Bool := keySeg k != g && d.state.inService

def RecState.isHeld : RecState → Bool
  | .held _ _ => true
  | _ => false

/-- A HELD record of another segment (R152 case 4). -/
def heldElsewhere (g : Seg) (k : Nat) (d : Display) : Bool := keySeg k != g && d.state.isHeld

/-- The FREE addresses of a segment, lowest first. -/
def State.freeAddresses (s : State) (g : Seg) : List Nat :=
  ((List.range Config.addressCount).map (· + 1)).filter fun a => (s.display (recKey g a)).state == .free

/-- Cases 5 and 6 of R152. -/
def State.chooseFree (s : State) (g : Seg) (i : Identity) : Option Nat :=
  let free := s.freeAddresses g
  match free.find? fun a => (s.display (recKey g a)).identity == some i with
  | some a => some a
  | none =>
    match free.find? fun a => (s.display (recKey g a)).identity == none with
    | some a => some a
    | none => free.head?

/-- Case 4: HELD records of other segments with this identity become FREE. -/
def State.freeElsewhere (s : State) (g : Seg) (i : Identity) : State :=
  match s.holderOf i (heldElsewhere g) with
  | some k => s.freeRecord k
  | none => s

/-- ASSIGN is sent for the first time (R153). -/
def State.startAssign (s : State) (g : Seg) (i : Identity) (a : Nat) : State :=
  (s.setPhase g (.assign i a 0)).send g (.assign i a)

/-- Case 2 of R152. -/
def State.duplicate (s : State) (g : Seg) (i : Identity) : State :=
  ((s.muteDisplay g i).raise .safety .duplicateIdentity).toPresence g

/-- Phase ASSIGN: the address for the isolated identity (R152, its cases in order). -/
def State.assignAddress (s : State) (g : Seg) (i : Identity) : State :=
  match s.holderOf i (heldHere g) with
  | some k => s.startAssign g i (keyAddr k)
  | none =>
    if (s.holderOf i (liveElsewhere g)).isSome then s.duplicate g i
    else if (s.freeAddresses g).isEmpty then (s.muteDisplay g i).closeSweep g .full
    else
      let t := s.freeElsewhere g i
      match t.chooseFree g i with
      | some a => t.startAssign g i a
      | none => t

/-- The outcome of phase CHECK (R151). -/
def State.checkOutcome (s : State) (g : Seg) (i : Identity) (received : BitVec 8) : State :=
  if received = identityCheck i ∧ i ≠ 0#48 then (s.modSeg g fun x => { x with mismatch := 0 }).assignAddress g i
  else
    let t := s.modSeg g fun x => { x with mismatch := x.mismatch + 1 }
    if (s.seg g).mismatch + 1 < 3 then t.toPresence g else t.closeSweep g .checkFailed

/-- The bits received so far with one more, the earlier ones more significant. -/
def pushBit {w : Nat} (x : BitVec w) (b : Bool) : BitVec w := (x <<< 1) ||| (if b then 1 else 0)

/-- One bit round (R150, R151): isolation rounds 1 to 48, then check rounds 49 to 56. -/
def bitWindow (g : Seg) (driven : Bool) (s : State) : State :=
  match (s.seg g).activity with
  | .sweeping _ (.isolation n bits) =>
    let b := pushBit bits driven
    if n + 1 < 48 then (s.setPhase g (.isolation (n + 1) b)).send g (.bit (n + 2))
    else (s.setPhase g (.check 0 b 0#8)).send g (.bit 49)
  | .sweeping _ (.check n i bits) =>
    let b := pushBit bits driven
    if n + 1 < 8 then (s.setPhase g (.check (n + 1) i b)).send g (.bit (n + 50))
    else s.checkOutcome g i b
  | _ => s

/-- BIT (R150, R151). Outside those phases no window is open (log 3). -/
def execBit (g : Seg) (driven : Bool) (s : State) : Host.Outcome State Fault Refusal := .next (bitWindow g driven s.begin)

/-- An ASSIGN attempt fails: again, or DROP and CLOSE after three (R153). -/
def State.assignFailed (s : State) (g : Seg) (i : Identity) (a failed : Nat) : State :=
  if failed + 1 < 3 then (s.setPhase g (.assign i a (failed + 1))).send g (.assign i a)
  else (s.send g (.drop i)).closeSweep g .noAssignReply

def assignTimeout (g : Seg) (s : State) : State :=
  match (s.seg g).activity with
  | .sweeping _ (.assign i a failed) => s.assignFailed g i a failed
  | _ => s

/-- ASSIGN_REPLY_TIMEOUT (R153). Outside ASSIGN no reply is awaited (log 3). -/
def execAssignReplyTimeout (g : Seg) (s : State) : Host.Outcome State Fault Refusal := .next (assignTimeout g s.begin)

/-! ## Taking a display in (R153, R154) -/

/-- The capability record as it is taken (R153). -/
def takenCapability (panel capacity lines firmware : Byte) : Capability :=
  { panel := if panel = 0#8 then .epaper else .lcd, capacity := clamp 24 64 capacity.toNat, lines := clamp 4 12 lines.toNat,
    firmware := firmware.toNat }

def Display.isEpaper (d : Display) : Bool := d.capability.any fun c => c.panel == .epaper

/-- Credits of a record that is set up with a capability (R154). -/
def setupCredits (d : Display) (c : Capability) : Option Nat :=
  match c.panel with
  | .lcd => none
  | .epaper => if d.state = .free ∨ !d.isEpaper then some Config.creditLimit else d.credits

def matchedState (m : Option Nat) : RecState :=
  match m with
  | some p => .placed p
  | none => .orphan

/-- The record after its set-up and match (R154). -/
def enrolled (p : Plan) (i : Identity) (c : Capability) (d : Display) : Display :=
  { state := matchedState (matchIdentity p i), identity := some i, capability := some c, buffers := d.buffers.emptied,
    toggle := false, busy := false, credits := setupCredits d c, attempts := 0, refreshLimit := none, recompose := d.recompose,
    looked := d.looked }

/-- The record at the chosen address is taken in and composed, and the sweep goes on (R154). -/
def State.takeIn (s : State) (g : Seg) (i : Identity) (a : Nat) (c : Capability) : State :=
  let k := recKey g a
  let d := enrolled s.activePlan i c (s.display k)
  let s1 := ((s.leaveQueue k).setDisplay k d).raiseIf (d.state == .orphan) .safety .orphanSeen
  let s2 := s1.modSeg g fun x => { x with enrolled := x.enrolled + 1 }
  (s2.composeRecord k .other).1.toPresence g

/-- A capability reply taken in phase ASSIGN. A display that another segment took in since the ASSIGN is a
duplicate (log 14). -/
def State.takeReply (s : State) (g : Seg) (i : Identity) (a : Nat) (c : Capability) : State :=
  if (s.holderOf i (liveElsewhere g)).isSome then s.duplicate g i
  else (s.freeElsewhere g i).takeIn g i a c

def capabilityReply (g : Seg) (addr : Nat) (identity : Identity) (c : Capability) (s : State) : State :=
  match (s.seg g).activity with
  | .sweeping _ (.assign i a failed) =>
    if addr ≠ 0 then s
    else if identity = i then s.takeReply g i a c
    else s.assignFailed g i a failed
  | _ => s

/-- CAPABILITY_REPLY (R153, R154). A reply from an address other than 0 counts as none (R203, log 13). -/
def execCapabilityReply (g : Seg) (addr : Nat) (identity : Identity) (panel capacity lines firmware : Byte) (s : State) :
    Host.Outcome State Fault Refusal :=
  .next (capabilityReply g addr identity (takenCapability panel capacity lines firmware) s.begin)

/-! ## Requests (R156, R157, R159) -/

/-- The sweep that completes a SWEEP request taken now (R156). -/
def completingSweep : SweepActivity → RequestedSweep
  | .sweeping _ _ => .next
  | _ => .present

def sweepRequest (tag : Byte) (g : Seg) (s : State) : Handled :=
  if (s.seg g).requested ≠ .absent then .answer s (.refuse .busy)
  else
    let t := s.modSeg g fun x => { x with requested := completingSweep x.activity }
    .answer ((t.requestSweep g .request).beginOp .safety ⟨.sweep, tag, some g⟩) .accepted

/-- SWEEP (R156). -/
def execSweep (l : LinkId) (tag : Byte) (body : List Byte) (s : State) : Host.Outcome State Fault Refusal :=
  .next (takeRequest .safety false 0x23#8 l tag (fun t => parsed (bodySeg body) t fun g => sweepRequest tag g t) s)

/-- Step 4 of R157. -/
def freeSegment (g : Seg) (dir : Table Display) : Table Display :=
  Table.mapVals (fun k d => if keySeg k = g ∧ d.state ≠ .free then Display.freed d.identity else d) dir

/-- A segment whose exchange, sweep, queue and timer are gone; the request outstanding is passed on (R157). A dropped exchange
leaves the turn as it was (the model's choice: log 38). -/
def Segment.cleared (x : Segment) : Segment :=
  { x with
    exchange := none, activity := .idle, queue := [], autoTimer := none, again := false
    requested := match x.requested with
      | .absent => .absent
      | _ => .present }

/-- The changes of R157, in its order. -/
def State.resetSegment (s : State) (g : Seg) : State :=
  let t := (s.modSeg g Segment.cleared).send g .busReset
  let u := { t with dir := freeSegment g t.dir }
  u.requestSweep g .segmentReset

/-- SEGMENT_RESET (R157). -/
def execSegmentReset (l : LinkId) (tag : Byte) (body : List Byte) (s : State) : Host.Outcome State Fault Refusal :=
  .next (takeRequest .safety false 0x24#8 l tag
    (fun t => parsed (bodySeg body) t fun g => .answer (t.resetSegment g) .ok) s)

/-- A HELD record returns to its prior state (R159): it is composed, and it joins the queue when it has a back
card. -/
def State.reviveRecord (s : State) (k : Nat) (prior : Option Nat) : State :=
  let t := s.setDisplay k { s.display k with state := matchedState prior, attempts := 0, busy := false }
  let u := (t.composeRecord k .other).1
  if (u.display k).buffers.backCard.isSome then u.joinQueue k else u

def revive (g : Seg) (a : Nat) (s : State) : Handled :=
  match (s.display (recKey g a)).state with
  | .free => .answer s (.refuse .notFound)
  | .held prior _ => .answer (s.reviveRecord (recKey g a) prior) .ok
  | _ => .answer s (.refuse .state)

/-- REVIVE (R159). -/
def execRevive (l : LinkId) (tag : Byte) (body : List Byte) (s : State) : Host.Outcome State Fault Refusal :=
  .next (takeRequest .safety false 0x25#8 l tag (fun t => parsed (bodyDisplay body) t fun x => revive x.1 x.2 t) s)

/-! ## Reads (R161) -/

/-- The cabin number of a record bound to a DOOR placement. -/
def State.doorCabin (s : State) (d : Display) : Option Nat :=
  match s.roleOf d with
  | some (.door c) => (Table.get s.activePlan.cabins c).map (·.number)
  | _ => none

def displayRead (g : Seg) (a : Nat) (s : State) : DisplayReadResult :=
  let d := s.display (recKey g a)
  { state := d.state, identity := d.identity, capability := d.capability, placement := d.state.bound, cabin := s.doorCabin d,
    credits := d.credits, attempts := d.attempts, busy := d.busy, toggle := d.toggle, inQueue := s.inQueue (recKey g a) }

/-- DISPLAY_READ (R161). -/
def execDisplayRead (l : LinkId) (tag : Byte) (body : List Byte) (s : State) : Host.Outcome State Fault Refusal :=
  .next (takeRequest .shared false 0x60#8 l tag
    (fun t => parsed (bodyDisplay body) t fun x => .answer t (.results (.display (displayRead x.1 x.2 t)))) s)

/-- The number of records of a segment in a state. -/
def State.countStates (s : State) (g : Seg) (p : RecState → Bool) : Nat :=
  (((List.range Config.addressCount).map (· + 1)).filter fun a => p (s.display (recKey g a)).state).length

def RecState.isPlaced : RecState → Bool
  | .placed _ => true
  | _ => false

def segmentStatus (g : Seg) (s : State) : SegmentStatusResult :=
  let x := s.seg g
  { activity := x.activity, again := x.again, outstanding := x.requested != .absent, autoTimer := x.autoTimer,
    lastSweep := x.lastSweep, free := s.countStates g (· == .free), placed := s.countStates g RecState.isPlaced,
    orphan := s.countStates g (· == .orphan), held := s.countStates g RecState.isHeld, queueLength := x.queue.length }

/-- SEGMENT_STATUS (R161). -/
def execSegmentStatus (l : LinkId) (tag : Byte) (body : List Byte) (s : State) : Host.Outcome State Fault Refusal :=
  .next (takeRequest .shared false 0x61#8 l tag
    (fun t => parsed (bodySeg body) t fun g => .answer t (.results (.segment (segmentStatus g t)))) s)

end Sys2Proof.Machine
end

