-- ==== Sys2Proof/Machine/Delivery.lean ====
section
/-! DEFINITION. Card delivery, polls, the dispatcher and the guest request queue (chapter 8). -/

namespace Sys2Proof.Machine

/-! ## The scanner's choice (R163 to R166) -/

/-- Exempt from credits (R165). -/
def StoredCard.exempt (c : StoredCard) : Bool := c.cls == .safety || c.cause == .press

/-- Has an e-paper record a credit to spend? -/
def Display.hasCredit (d : Display) : Bool := d.credits.any fun c => decide (1 ≤ c)

/-- Can the back card of this record be sent? (R165) -/
def Display.sendable (d : Display) : Bool :=
  match d.buffers.backCard with
  | none => false
  | some c => !d.busy && (!d.isEpaper || d.hasCredit || c.exempt)

/-- The record of the card exchange the scanner can start (R165). -/
def State.chooseCard (s : State) (g : Seg) : Option Nat :=
  (s.queueOrder g).find? fun a => (s.display (recKey g a)).sendable

/-- The PLACED and ORPHAN records of a segment by address. -/
def State.inServiceAddresses (s : State) (g : Seg) : List Nat :=
  ((List.range Config.addressCount).map (· + 1)).filter fun a => (s.display (recKey g a)).state.inService

def Segment.polling (x : Segment) : Bool :=
  match x.exchange with
  | some (.poll _) => true
  | _ => false

/-- Inbound reservations: one for each poll exchange in flight (R162). -/
def State.reservations (s : State) : Nat := ([0, 1, 2, 3].filter fun g : Seg => (s.seg g).polling).length

/-- The record of the poll exchange the scanner can start (R166). -/
def State.choosePoll (s : State) (g : Seg) : Option Nat :=
  if s.bus.inbound.length + s.reservations < Config.inboundLimit then
    let as := s.inServiceAddresses g
    match as.find? fun a => decide ((s.seg g).rotation < a) with
    | some a => some a
    | none => as.head?
  else none

/-- The segment is free: no exchange in flight and no sweep (R163). -/
def State.segmentFree (s : State) (g : Seg) : Bool := (s.seg g).exchange.isNone && (s.seg g).activity == .idle

/-- The exchange the scanner starts next, the turn tried first (R163). -/
def State.scannerChoice (s : State) (g : Seg) : Option Exchange :=
  if s.segmentFree g then
    let card := (s.chooseCard g).map Exchange.card
    let poll := (s.choosePoll g).map Exchange.poll
    match (s.seg g).turn with
    | .card => card.orElse fun _ => poll
    | .poll => poll.orElse fun _ => card
  else none

/-- CARD is sent with the toggle expected and the back card (R169). -/
def State.sendCard (s : State) (g : Seg) (a : Nat) : State :=
  let d := s.display (recKey g a)
  match d.buffers.backCard with
  | none => s
  | some c => (s.modSeg g fun x => { x with exchange := some (.card a) }).send g (.card a d.toggle c.card)

def cardExchange (g : Seg) (s : State) : State :=
  match s.scannerChoice g with
  | some (.card a) => s.sendCard g a
  | _ => s

/-- CARD_EXCHANGE (R163, R165, R169). When the scanner would not start one there is none (log 25). -/
def execCardExchange (g : Seg) (s : State) : Host.Outcome State Fault Refusal := .next (cardExchange g s.begin)

def pollExchange (g : Seg) (s : State) : State :=
  match s.scannerChoice g with
  | some (.poll a) => (s.modSeg g fun x => { x with exchange := some (.poll a), rotation := a }).send g (.poll a)
  | _ => s

/-- POLL_EXCHANGE (R163, R166). When the scanner would not start one there is none (log 25). -/
def execPollExchange (g : Seg) (s : State) : Host.Outcome State Fault Refusal := .next (pollExchange g s.begin)

/-! ## The end of an exchange -/

/-- The exchange is over and the turn changes (R163). -/
def State.endExchange (s : State) (g : Seg) (t : Turn) : State := s.modSeg g fun x => { x with exchange := none, turn := t }

/-- A record whose recompose mark was set is composed once at the end of its transit (R141). One noted at an entry into ALERT
or MUSTER moves behind the records then in the queue when its back card is replaced (R167, log 36). -/
def State.recompose (s : State) (k : Nat) : State :=
  match (s.display k).recompose with
  | .clear => s
  | .set press entry =>
    let t := s.setDisplay k { s.display k with recompose := .clear }
    let r := t.composeRecord k (if press then .press else .other)
    if entry && r.2 && (r.1.display k).state.inService then r.1.moveLast k else r.1

/-- A card exchange ends after its outcome: transit end, then a waiting sweep (R141, R163, R148). -/
def State.endCard (s : State) (g : Seg) (a : Nat) : State :=
  ((s.endExchange g .poll).recompose (recKey g a)).startWaiting g

/-- A poll exchange ends; its reservation is freed or used up (R163, R176). -/
def State.endPoll (s : State) (g : Seg) : State := (s.endExchange g .card).startWaiting g

/-- Entry into HELD (R171). -/
def State.enterHeld (s : State) (k : Nat) (c : HeldCause) : State :=
  let d := s.display k
  let t := (s.leaveQueue k).setDisplay k { d with state := .held d.state.bound c, refreshLimit := none }
  let door := match s.roleOf d with
    | some (.door _) => true
    | _ => false
  (t.raise .safety .displayHeld).raiseIf door .hotel .displayHeld

/-! ## Outcomes of a card exchange (R169 to R173) -/

/-- Credits after an ACK (R169, R174). -/
def Display.creditsAfter (d : Display) : Option Nat :=
  match d.buffers.backCard with
  | none => d.credits
  | some c => if d.isEpaper && !c.exempt then d.credits.map (· - 1) else d.credits

/-- The record after an ACK; a HELD record's refresh limit does not start (R169, R173). -/
def Display.acknowledged (d : Display) : Display :=
  { d with
    buffers := d.buffers.promote
    toggle := !d.toggle
    attempts := 0
    credits := d.creditsAfter
    busy := d.busy || d.isEpaper
    refreshLimit := if d.isEpaper && d.state.inService then some Config.refreshSeconds else d.refreshLimit }

def State.applyAck (s : State) (k : Nat) : State :=
  if (s.display k).state = .free then s else (s.leaveQueue k).setDisplay k (s.display k).acknowledged

def ack (g : Seg) (addr : Nat) (s : State) : State :=
  match (s.seg g).exchange with
  | some (.card a) => if addr = a then (s.applyAck (recKey g a)).endCard g a else s
  | _ => s

/-- ACK (R169). An ACK that no card exchange with this address awaits counts as no answer (R203, log 13). -/
def execAck (g : Seg) (addr : Nat) (s : State) : Host.Outcome State Fault Refusal := .next (ack g addr s.begin)

/-- The record after a NAK of its card (R170); a HELD or FREE one is not changed (R173). -/
def Display.refused (d : Display) : Display :=
  if d.state.inService then
    { d with busy := true, refreshLimit := some (d.refreshLimit.getD Config.refreshSeconds), attempts := 0 }
  else d

def nak (g : Seg) (addr : Nat) (s : State) : State :=
  match (s.seg g).exchange with
  | some (.card a) =>
    if addr = a then (s.setDisplay (recKey g a) (s.display (recKey g a)).refused).endCard g a else s
  | _ => s

/-- NAK (R170). -/
def execNak (g : Seg) (addr : Nat) (s : State) : Host.Outcome State Fault Refusal := .next (nak g addr s.begin)

/-- A missed answer (R171, R173). -/
def State.missed (s : State) (k : Nat) : State :=
  let d := s.display k
  if d.state.inService then
    let t := s.setDisplay k { d with attempts := d.attempts + 1 }
    if d.attempts + 1 < 3 then t else t.enterHeld k .noReply
  else s

def replyTimeout (g : Seg) (s : State) : State :=
  match (s.seg g).exchange with
  | some (.card a) => (s.missed (recKey g a)).endCard g a
  | some (.poll a) => (s.missed (recKey g a)).endPoll g
  | none => s

/-- PANEL_REPLY_TIMEOUT (R171). With no exchange in flight no reply is awaited (log 3). -/
def execPanelReplyTimeout (g : Seg) (s : State) : Host.Outcome State Fault Refusal := .next (replyTimeout g s.begin)

/-! ## Outcomes of a poll exchange (R176) -/

/-- A valid answer sets the attempt count of a record not FREE back to 0 (R171). -/
def State.answered (s : State) (k : Nat) : State :=
  if (s.display k).state = .free then s else s.setDisplay k { s.display k with attempts := 0 }

def pollNone (g : Seg) (addr : Nat) (s : State) : State :=
  match (s.seg g).exchange with
  | some (.poll a) => if addr = a then (s.answered (recKey g a)).endPoll g else s
  | _ => s

/-- NONE (R176). -/
def execPollNone (g : Seg) (addr : Nat) (s : State) : Host.Outcome State Fault Refusal := .next (pollNone g addr s.begin)

/-- After a NAK a HELD record's attempt count stays (R173). -/
def State.pollRefused (s : State) (k : Nat) : State := if (s.display k).state.inService then s.answered k else s

def pollNak (g : Seg) (addr : Nat) (s : State) : State :=
  match (s.seg g).exchange with
  | some (.poll a) => if addr = a then (s.pollRefused (recKey g a)).endPoll g else s
  | _ => s

/-- POLL_NAK (R176). -/
def execPollNak (g : Seg) (addr : Nat) (s : State) : Host.Outcome State Fault Refusal := .next (pollNak g addr s.begin)

/-- The report of a REPORT frame; `none` for a kind or code not listed (R176, R203). -/
def reportOf (kind code : Byte) : Option ReportKind :=
  match kind.toNat, code.toNat with
  | 0, 0 => some (.press .vacated)
  | 0, 1 => some (.press .dnd)
  | 0, 2 => some (.press .service)
  | 1, 0 => some .refreshDone
  | 2, 0 => none
  | 2, c => some (.fault c)
  | _, _ => none

/-- The overrun byte: 00h or 01h (R203). -/
def overrunOf (b : Byte) : Option Bool :=
  match b.toNat with
  | 0 => some false
  | 1 => some true
  | _ => none

/-- A report joins the inbound queue in its reserved place (R176, R177). -/
def State.takeReport (s : State) (g : Seg) (a : Nat) (r : ReportKind) (o : Bool) : State :=
  let t := s.answered (recKey g a)
  let e : InboundEntry := ⟨g, a, r, o⟩
  let u := { t with bus := { t.bus with inbound := t.bus.inbound ++ [e] } }
  u.endPoll g

def report (g : Seg) (addr : Nat) (kind code overrun : Byte) (s : State) : State :=
  match (s.seg g).exchange with
  | some (.poll a) =>
    if addr = a then
      match reportOf kind code, overrunOf overrun with
      | some r, some o => s.takeReport g a r o
      | _, _ => s
    else s
  | _ => s

/-- REPORT (R176). A report of a kind or code not listed counts as no answer (log 13). -/
def execReport (g : Seg) (addr : Nat) (kind code overrun : Byte) (s : State) : Host.Outcome State Fault Refusal :=
  .next (report g addr kind code overrun s.begin)

/-! ## Refresh limit and credits (R172, R175) -/

def limitExpiry (g : Seg) (a : Nat) (s : State) : State :=
  let d := s.display (recKey g a)
  match d.refreshLimit with
  | none => s
  | some _ =>
    if d.busy && d.state.inService then s.enterHeld (recKey g a) .refreshTimeout
    else s.setDisplay (recKey g a) { d with refreshLimit := none }

/-- REFRESH_LIMIT_EXPIRY (R172). A stopped limit does not expire (log 3). -/
def execRefreshLimitExpiry (g : Seg) (a : Nat) (s : State) : Host.Outcome State Fault Refusal :=
  .next (limitExpiry g a s.begin)

def Display.refilled (d : Display) : Display :=
  { d with credits := d.credits.map fun c => if c < Config.creditLimit then c + 1 else c }

def creditRefill (s : State) : State :=
  { s with
    dir := Table.mapVals (fun _ d => d.refilled) s.dir
    bus := { s.bus with refill := Config.refillSeconds } }

/-- CREDIT_REFILL (R175). -/
def execCreditRefill (s : State) : Host.Outcome State Fault Refusal := .next (creditRefill s.begin)

/-! ## The dispatcher (R178 to R180) -/

/-- A guest request is offered to the guest request queue (R180). -/
def State.offerGuest (s : State) (number : Nat) (k : GuestKind) (overrun : Bool) : State :=
  if s.bus.guests.length < Config.guestLimit then
    let e : GuestEntry := { cabin := number, kind := k, minute := s.now, lostEarlier := s.bus.lossNote || overrun }
    let t := { s with bus := { s.bus with guests := s.bus.guests ++ [e], lossNote := false } }
    t.raise .hotel .guestRequest
  else { s with bus := { s.bus with overflow := true, lossNote := true } }

/-- A VACATED press at the muster controller (R111). -/
def State.vacate (s : State) (k c : Nat) : State :=
  let r := s.cabin c
  if s.muster.state = .muster ∧ r.occupied ∧ r.vacated = .no then s.changeCabin c { r with vacated := .guest } (some k) else s

/-- Are do-not-disturb and service presses taken in this muster state? (R179) -/
def MusterState.takesPresses : MusterState → Bool
  | .quiet | .alert => true
  | _ => false

/-- A press from the display with key `k` on a DOOR placement of cabin `c` (R179). -/
def State.handPress (s : State) (k c : Nat) (code : PressCode) (overrun : Bool) : State :=
  let r := s.cabin c
  let number := ((Table.get s.activePlan.cabins c).map (·.number)).getD 0
  match code with
  | .vacated => s.vacate k c
  | .dnd =>
    if s.muster.state.takesPresses then
      (s.changeCabin c { r with dnd := !r.dnd } (some k)).offerGuest number (if r.dnd then .dndOff else .dndOn) overrun
    else s
  | .service =>
    if s.muster.state.takesPresses then
      (s.changeCabin c { r with service := true } (some k)).offerGuest number .service overrun
    else s

/-- The cabin of the DOOR placement a record is PLACED on. -/
def State.pressCabin (s : State) (d : Display) : Option Nat :=
  if d.state.isPlaced then
    match s.roleOf d with
    | some (.door c) => some c
    | _ => none
  else none

/-- The busy flag is cleared and the refresh limit stops (R178). -/
def State.clearBusy (s : State) (k : Nat) : State := s.setDisplay k { s.display k with busy := false, refreshLimit := none }

/-- An entry's kind against its record (the table of R178). -/
def State.dispatchKind (s : State) (k : Nat) (e : InboundEntry) : State :=
  let d := s.display k
  match e.kind with
  | .refreshDone =>
    if d.state.inService then s.clearBusy k
    else if d.state.isHeld then s.setDisplay k { d with busy := false }
    else s
  | .fault _ => if d.state.inService then s.enterHeld k .displayFault else s
  | .press code =>
    match s.pressCabin d with
    | some c => s.handPress k c code e.overrun
    | none => s

/-- The dispatcher takes the oldest entry (R177, R178). -/
def dispatch (s : State) : State :=
  match s.bus.inbound with
  | [] => s
  | e :: rest =>
    let k := recKey e.seg e.addr
    let t := { s with bus := { s.bus with inbound := rest } }
    let u := if e.overrun && (t.display k).state.inService then t.clearBusy k else t
    u.dispatchKind k e

/-- DISPATCH (R178). On an empty queue there is nothing to take (log 3). -/
def execDispatch (s : State) : Host.Outcome State Fault Refusal := .next (dispatch s.begin)

/-! ## Requests (R181, R182) -/

def readGuests (count : Nat) (s : State) : Handled :=
  if count = 0 then .answer s (.bad .range)
  else
    let n := min count 8
    let rest := s.bus.guests.drop n
    .answer { s with bus := { s.bus with guests := rest, overflow := false } }
      (.results (.guestRequests (s.bus.guests.take n) s.bus.overflow rest.length))

/-- READ_GUEST_REQUESTS (R181). -/
def execReadGuestRequests (l : LinkId) (tag : Byte) (body : List Byte) (s : State) : Host.Outcome State Fault Refusal :=
  .next (takeRequest .hotel false 0x3C#8 l tag (fun t => parsed (bodyOne body) t fun n => readGuests n t) s)

/-- Standing of a queued record (R182). A busy record without credits is shown as BUSY (the model's choice: log 39). -/
def Display.queueStanding (d : Display) (c : StoredCard) : QueueStanding :=
  if d.busy then .busy else if d.isEpaper && !d.hasCredit && !c.exempt then .noCredit else .ready

def State.queueItem (s : State) (g : Seg) (a : Nat) : Option QueueItem :=
  let d := s.display (recKey g a)
  d.buffers.backCard.map fun c => ⟨a, c.cls, c.cause, d.queueStanding c⟩

def queueRead (g : Seg) (s : State) : QueueReadResult :=
  let x := s.seg g
  { items := (s.queueOrder g).filterMap (s.queueItem g), turn := x.turn, exchange := x.exchange, rotation := x.rotation,
    inbound := s.bus.inbound.length, reservations := s.reservations, guests := s.bus.guests.length,
    overflow := s.bus.overflow, lossNote := s.bus.lossNote, refill := s.bus.refill }

/-- QUEUE_READ (R182). -/
def execQueueRead (l : LinkId) (tag : Byte) (body : List Byte) (s : State) : Host.Outcome State Fault Refusal :=
  .next (takeRequest .shared false 0x62#8 l tag
    (fun t => parsed (bodySeg body) t fun g => .answer t (.results (.queue (queueRead g t)))) s)

end Sys2Proof.Machine
end

