-- ==== Sys2Proof/Machine/Links.lean ====
section
/-! DEFINITION. The link ports' own requests, the settings write's completion and the port events (chapter 9). -/

namespace Sys2Proof.Machine

/-! ## Attention (R197, R198) -/

/-- READ ATTENTION without a code (R198). -/
def readTop (l : LinkId) (s : State) : Handled :=
  match (s.port l).topSource l with
  | none => .answer s (.results (.attention 0 (s.port l).pendingSet))
  | some x =>
    let t := s.clearSource l x
    .answer t (.results (.attention x.code (t.port l).pendingSet))

/-- READ ATTENTION with a code (R198). -/
def readCode (l : LinkId) (code : Nat) (s : State) : Handled :=
  match sourceOf l code with
  | none => .answer s (.bad .range)
  | some x =>
    let t := s.clearSource l x
    .answer t (.results (.attention (if (s.port l).pendingSet.contains x then code else 0) (t.port l).pendingSet))

/-- The byte of the request is the code, or FFh without one (R200). -/
def readAttention (l : LinkId) (n : Nat) (s : State) : Handled :=
  match indexOrAbsent n with
  | none => readTop l s
  | some code => readCode l code s

/-- READ_ATTENTION (R198). -/
def execReadAttention (l : LinkId) (tag : Byte) (body : List Byte) (s : State) : Host.Outcome State Fault Refusal :=
  .next (takeRequest .shared false 0x48#8 l tag (fun t => parsed (bodyOne body) t fun n => readAttention l n t) s)

/-- One item of SET ATTENTION MASK: a code of the link's list and an enable (R197, R201). -/
def checkMaskItem (l : LinkId) (pos : Nat) (x : Nat × Nat) : Except Reply (Source × Bool) :=
  match sourceOf l x.1, flagOf x.2 with
  | some c, .ok b => .ok (c, b)
  | _, _ => .error (.badAt .range (.position pos))

/-- The last item that names a source decides; a source not named keeps its enable (log 17). -/
def enableAfter (old : List Source) (xs : List (Source × Bool)) (x : Source) : Bool :=
  xs.foldl (fun acc y => if y.1 = x then y.2 else acc) (old.contains x)

def setAttentionMask (l : LinkId) (xs : List (Nat × Nat)) (s : State) : Handled :=
  match checkItems (checkMaskItem l) 0 xs with
  | .error r => .answer s r
  | .ok ys => .answer (s.modPort l fun p => { p with mask := sourcesWhere l (enableAfter p.mask ys) }) .ok

/-- SET_ATTENTION_MASK (R197). -/
def execSetAttentionMask (l : LinkId) (tag : Byte) (body : List Byte) (s : State) : Host.Outcome State Fault Refusal :=
  .next (takeRequest .shared false 0x49#8 l tag (fun t => parsed (bodyPairs body) t fun xs => setAttentionMask l xs t) s)

/-! ## Silence timeout (R195) and its reads -/

def setLinkTimeout (l : LinkId) (tag : Byte) (n : Nat) (s : State) : Handled :=
  if s.storeBusy then .answer s (.refuse .busy)
  else .hold ((s.startWrite (.settings (.silence l (clamp 2 60 n)))).beginOp l ⟨.settings, tag, none⟩)

/-- SET_LINK_TIMEOUT (R195). -/
def execSetLinkTimeout (l : LinkId) (tag : Byte) (body : List Byte) (s : State) : Host.Outcome State Fault Refusal :=
  .next (takeRequest .shared false 0x4A#8 l tag (fun t => parsed (bodyOne body) t fun n => setLinkTimeout l tag n t) s)

def lastOperation (l : LinkId) (s : State) : Detail := .lastOperation (s.port l).inFlight (s.port l).lastDone

/-- LAST_OPERATION (R191). -/
def execLastOperation (l : LinkId) (tag : Byte) (_body : List Byte) (s : State) : Host.Outcome State Fault Refusal :=
  .next (takeRequest .shared false 0x4B#8 l tag (fun t => .answer t (.results (lastOperation l t))) s)

def linkStatus (l : LinkId) (s : State) : LinkStatusResult :=
  { safety := (s.port .safety).live
    hotel := (s.port .hotel).live
    safetyTimeout := (s.port .safety).timeout
    hotelTimeout := (s.port .hotel).timeout
    silence := (s.port l).silence
    enables := (sourceList l).map fun x => (x, (s.port l).mask.contains x)
    pending := (s.port l).pendingSet }

/-- LINK_STATUS (R199). -/
def execLinkStatus (l : LinkId) (tag : Byte) (_body : List Byte) (s : State) : Host.Outcome State Fault Refusal :=
  .next (takeRequest .shared false 0x4C#8 l tag (fun t => .answer t (.results (.linkStatus (linkStatus l t)))) s)

/-! ## The settings write (R190) -/

/-- The values of a settings write enter the settings area and take effect (R24, R117, R195). -/
def State.applySettings (s : State) : SettingsWrite → State
  | .timers o h =>
    { s with store := { s.store with overdueTime := o, holdTime := h }
             muster := { s.muster with overdueTime := o, holdTime := h } }
  | .silence .safety n =>
    { s with store := { s.store with silenceSafety := n } }.modPort .safety fun p => { p with timeout := n }
  | .silence .hotel n =>
    { s with store := { s.store with silenceHotel := n } }.modPort .hotel fun p => { p with timeout := n }

/-- The link whose request started a settings write. -/
def SettingsWrite.link : SettingsWrite → LinkId
  | .timers _ _ => .safety
  | .silence l _ => l

/-- The answer of a settings request: the values stored (R190). -/
def SettingsWrite.reply : SettingsWrite → Reply
  | .timers o h => .results (.timers o h)
  | .silence _ n => .results (.timeout n)

/-- The answer held back is sent (R190). -/
def Port.sendHeld (p : Port) (r : Reply) : Port :=
  match p.state with
  | .handling tag kind => { p with state := .answering ⟨tag, kind, r⟩ }
  | _ => p

def settingsCompletion (s : State) : State :=
  match s.store.inFlight with
  | some (.settings w) =>
    (s.applySettings w).finishWrite.modPort w.link fun p => (p.endOp .settings none (.settings w)).sendHeld w.reply
  | _ => s

/-- SETTINGS_WRITE_COMPLETION (R190). -/
def execSettingsWriteCompletion (s : State) : Host.Outcome State Fault Refusal := .next (settingsCompletion s.begin)

/-! ## Port events -/

/-- The answer's last byte has been sent: READY, and a HELD silence timer restarts (R186, R190). -/
def Port.sentAnswer (p : Port) : Port :=
  match p.state with
  | .answering _ =>
    { p with
      state := .ready
      silence := match p.silence with
        | .held => .running p.timeout
        | x => x }
  | _ => p

/-- ANSWER_SENT (R186). A port that sends no answer is not changed (log 3). -/
def execAnswerSent (l : LinkId) (s : State) : Host.Outcome State Fault Refusal :=
  .next (s.begin.modPort l Port.sentAnswer)

/-- The effects of a silence timer's expiry (R194). -/
def silenceExpiry (l : LinkId) (s : State) : State :=
  match (s.port l).silence with
  | .running _ =>
    let t := s.modPort l fun p => { p with live := .lost, silence := .stopped }
    let u := t.raiseIf (decide ((s.port l).live = .live)) l.peer .peerLost
    if l = .safety then u.abandonConfirm else u
  | _ => s

/-- SILENCE_TIMER_EXPIRY (R194). A timer HELD or STOPPED does not expire (log 3). -/
def execSilenceTimerExpiry (l : LinkId) (s : State) : Host.Outcome State Fault Refusal := .next (silenceExpiry l s.begin)

end Sys2Proof.Machine
end

