-- ==== Sys2Proof/Machine/Muster.lean ====
section
/-! DEFINITION. The muster controller's commands (chapter 5). -/

namespace Sys2Proof.Machine

/-! ## The state machine's requests (R102, R103) -/

/-- ALERT entered from QUIET (R102). -/
def State.enterAlert (s : State) (drill : Bool) : State :=
  let next := { s with muster := { s.muster with state := .alert, drill := drill } }
  next.handMuster s.muster.state

def alert (drill : Bool) (s : State) : Handled :=
  match s.muster.state with
  | .quiet => .answer (s.enterAlert drill) .ok
  | .alert =>
    if drill = s.muster.drill then .answer s .ok
    else if drill then .answer s (.refuse .state)
    else .answer s.clearDrill .ok
  | _ => .answer s (.refuse .state)

/-- ALERT (R102, R103). -/
def execAlert (l : LinkId) (tag : Byte) (body : List Byte) (s : State) : Host.Outcome State Fault Refusal :=
  .next (takeRequest .safety false 0x1A#8 l tag (fun t => parsed (bodyFlag body) t fun d => alert d t) s)

/-- ALERT ends by request (R102). -/
def State.cancelAlert (s : State) : State :=
  let next := { s with muster := { s.muster with state := .quiet, drill := false } }
  next.handMuster s.muster.state

def cancelAlert (s : State) : Handled :=
  match s.muster.state with
  | .alert => .answer s.cancelAlert .ok
  | _ => .answer s (.refuse .state)

/-- CANCEL_ALERT (R102). -/
def execCancelAlert (l : LinkId) (tag : Byte) (_body : List Byte) (s : State) : Host.Outcome State Fault Refusal :=
  .next (takeRequest .safety false 0x1B#8 l tag cancelAlert s)

def musterRequest (drill : Bool) (s : State) : Handled :=
  match s.muster.state with
  | .quiet => .answer (s.enterMuster drill) .ok
  | .alert => if drill && !s.muster.drill then .answer s (.refuse .state) else .answer (s.enterMuster drill) .ok
  | .muster =>
    if drill = s.muster.drill then .answer s .ok
    else if drill then .answer s (.refuse .state)
    else .answer s.clearDrill .ok
  | .standdown _ => if drill && !s.muster.drill then .answer s (.refuse .state) else .answer (s.resume drill) .ok

/-- MUSTER (R102, R103). -/
def execMuster (l : LinkId) (tag : Byte) (body : List Byte) (s : State) : Host.Outcome State Fault Refusal :=
  .next (takeRequest .safety false 0x1C#8 l tag (fun t => parsed (bodyFlag body) t fun d => musterRequest d t) s)

def standdown (s : State) : Handled :=
  match s.muster.state with
  | .muster => .answer s.standDown .ok
  | _ => .answer s (.refuse .state)

/-- STANDDOWN (R102, R106). -/
def execStanddown (l : LinkId) (tag : Byte) (_body : List Byte) (s : State) : Host.Outcome State Fault Refusal :=
  .next (takeRequest .safety false 0x1D#8 l tag standdown s)

/-! ## Stations (R99, R100) -/

def stationDefined (p : Plan) (st : Option Nat) : Bool := st.all fun x => Table.has p.stations x

def assignCabin (n : Nat) (st : Option Nat) (s : State) : Handled :=
  if !cabinNumberFits n then .answer s (.bad .range)
  else
    match cabinIndex s.activePlan n with
    | none => .answer s (.refuse .notFound)
    | some i =>
      if stationDefined s.activePlan st then
        .answer (s.changeCabin i { s.cabin i with stationOverride := st } none) .ok
      else .answer s (.refuse .notFound)

/-- ASSIGN_CABIN_STATION (R99). A station out of its range is refused before the cabin is looked for (the model's choice:
log 11). -/
def execAssignCabinStation (l : LinkId) (tag : Byte) (body : List Byte) (s : State) : Host.Outcome State Fault Refusal :=
  .next (takeRequest .safety false 0x1E#8 l tag
    (fun t => parsed (bodyCabinByte body) t fun x =>
      parsed (stationOrAbsent x.2) t fun st => assignCabin x.1 st t) s)

/-- The zone's override is stored or removed; a changed station rebuilds the stranded list and composes the
CORRIDOR and VENUE placements of the zone (R98, R100). -/
def State.setZoneStation (s : State) (z : Nat) (st : Option Nat) : State :=
  let next := { s with muster := { s.muster with zoneOverrides := Table.set s.muster.zoneOverrides z st } }
  if zoneStation s.activePlan next.muster.zoneOverrides z = zoneStation s.activePlan s.muster.zoneOverrides z then next
  else
    next.rebuildStranded.composePlacements fun _ pl =>
      match pl.role with
      | .door _ => false
      | _ => placementZone s.activePlan pl == some z

def assignZone (z : Nat) (st : Option Nat) (s : State) : Handled :=
  if Table.has s.activePlan.zones z && stationDefined s.activePlan st then .answer (s.setZoneStation z st) .ok
  else .answer s (.refuse .notFound)

/-- ASSIGN_ZONE_STATION (R100). An index out of its range is refused before PLANLESS operation answers NOT_FOUND (the model's
choice: log 11). -/
def execAssignZoneStation (l : LinkId) (tag : Byte) (body : List Byte) (s : State) : Host.Outcome State Fault Refusal :=
  .next (takeRequest .safety false 0x1F#8 l tag
    (fun t => parsed (bodyTwoBytes body) t fun x =>
      parsed (below Config.zoneCount x.1) t fun z =>
        parsed (stationOrAbsent x.2) t fun st => assignZone z st t) s)

/-! ## Cabins (R95, R97, R112) -/

/-- CREW 0, CLEAR 1 (R112, R200). -/
def markOf : Nat → Except Reason Vacated
  | 0 => .ok .crew
  | 1 => .ok .no
  | _ => .error .range

def markCabin (n : Nat) (v : Vacated) (s : State) : Handled :=
  if !cabinNumberFits n then .answer s (.bad .range)
  else
    match s.muster.state with
    | .quiet | .alert => .answer s (.refuse .state)
    | _ =>
      match cabinIndex s.activePlan n with
      | none => .answer s (.refuse .notFound)
      | some i => .answer (s.changeCabin i { s.cabin i with vacated := v } none) .ok

/-- MARK_CABIN (R112). -/
def execMarkCabin (l : LinkId) (tag : Byte) (body : List Byte) (s : State) : Host.Outcome State Fault Refusal :=
  .next (takeRequest .safety false 0x20#8 l tag
    (fun t => parsed (bodyCabinByte body) t fun x => parsed (markOf x.2) t fun v => markCabin x.1 v t) s)

/-- The record with every given field stored (R95). -/
def applyGuests (b : CabinGuestsBody) (c : CabinState) : CabinState :=
  { c with
    aboard := b.aboard.getD c.aboard
    language := b.language.getD c.language
    name := b.name.getD c.name
    dnd := b.dnd.getD c.dnd
    service := if b.serviceClear then false else c.service }

def cabinGuests (b : CabinGuestsBody) (s : State) : Handled :=
  match cabinIndex s.activePlan b.number with
  | none => .answer s (.refuse .notFound)
  | some i => .answer (s.changeCabin i (applyGuests b (s.cabin i)) none) .ok

/-- CABIN_GUESTS (R95). A field out of its range is refused before the cabin is looked for (the model's choice: log 11). -/
def execCabinGuests (l : LinkId) (tag : Byte) (body : List Byte) (s : State) : Host.Outcome State Fault Refusal :=
  .next (takeRequest .hotel false 0x3A#8 l tag (fun t => parsed (bodyCabinGuests body) t fun b => cabinGuests b t) s)

def cabinRead (n : Nat) (s : State) : Handled :=
  if !cabinNumberFits n then .answer s (.bad .range)
  else
    match cabinIndex s.activePlan n with
    | none => .answer s (.refuse .notFound)
    | some i =>
      match Table.get s.activePlan.cabins i with
      | none => .answer s (.refuse .notFound)
      | some c =>
        let r : CabinReadResult :=
          { index := i, door := c.door, defaultStation := c.station, cabin := s.cabin i,
            station := (cabinStation s.activePlan s.muster.cabins i).getD c.station, counted := (s.cabin i).occupied }
        .answer s (.results (.cabin r))

/-- CABIN_READ (R97). -/
def execCabinRead (l : LinkId) (tag : Byte) (body : List Byte) (s : State) : Host.Outcome State Fault Refusal :=
  .next (takeRequest .shared false 0x5A#8 l tag (fun t => parsed (bodyCabin body) t fun n => cabinRead n t) s)

/-! ## Timers' settings (R117) -/

/-- A settings write starts and the answer waits for it (R190). -/
def State.startSettings (s : State) (l : LinkId) (tag : Byte) (w : SettingsWrite) : State :=
  (s.startWrite (.settings w)).beginOp l ⟨.settings, tag, none⟩

def setMusterTimers (l : LinkId) (tag : Byte) (overdue hold : Nat) (s : State) : Handled :=
  if s.storeBusy then .answer s (.refuse .busy)
  else .hold (s.startSettings l tag (.timers (clamp 1 60 overdue) (clamp 1 30 hold)))

/-- SET_MUSTER_TIMERS (R117). -/
def execSetMusterTimers (l : LinkId) (tag : Byte) (body : List Byte) (s : State) : Host.Outcome State Fault Refusal :=
  .next (takeRequest .safety false 0x21#8 l tag
    (fun t => parsed (bodyTwoBytes body) t fun x => setMusterTimers l tag x.1 x.2 t) s)

/-! ## Reads (R115, R119, R120) -/

def readOutstanding (st start : Nat) (s : State) : Handled :=
  if Config.stationCount ≤ st ∨ Config.cabinCount ≤ start then .answer s (.bad .range)
  else if !Table.has s.activePlan.stations st then .answer s (.refuse .notFound)
  else
    let t := s.muster.tally.getD st ⟨0, 0, 0, []⟩
    let r : OutstandingResult :=
      { occupied := t.occupied, vacated := t.vacated, outstanding := t.outstanding, serial := s.muster.tallySerial,
        cabins := (t.list.drop start).take 32 }
    .answer s (.results (.outstanding r))

/-- READ_OUTSTANDING (R115). -/
def execReadOutstanding (l : LinkId) (tag : Byte) (body : List Byte) (s : State) : Host.Outcome State Fault Refusal :=
  .next (takeRequest .shared false 0x5B#8 l tag (fun t => parsed (bodyTwoBytes body) t fun x => readOutstanding x.1 x.2 t) s)

def readStranded (start : Nat) (s : State) : Handled :=
  if 352 ≤ start then .answer s (.bad .range)
  else
    .answer s (.results (.stranded
      ⟨s.muster.stranded.length, s.muster.strandedGen, (s.muster.stranded.drop start).take 32⟩))

/-- READ_STRANDED (R119). -/
def execReadStranded (l : LinkId) (tag : Byte) (body : List Byte) (s : State) : Host.Outcome State Fault Refusal :=
  .next (takeRequest .shared false 0x5C#8 l tag (fun t => parsed (bodyWord body) t fun n => readStranded n t) s)

/-- The latch write in flight, if the write in flight is one. -/
def State.latchInFlight (s : State) : Option LatchWrite :=
  match s.store.inFlight with
  | some (.latch w) => some w
  | _ => none

def musterStatus (s : State) : MusterStatusResult :=
  { state := s.muster.state
    drill := s.muster.drill
    latchCopy := s.muster.latchCopy
    latchInFlight := s.latchInFlight
    latchWaiting := s.store.waiting
    overdue := s.muster.overdue
    hold := s.muster.hold
    overdueTime := s.muster.overdueTime
    holdTime := s.muster.holdTime
    line := s.alarmLine
    watch := s.muster.watch
    counts := s.muster.tally.map fun t => (t.occupied, t.vacated, t.outstanding)
    serial := s.muster.tallySerial
    strandedLength := s.muster.stranded.length
    strandedGen := s.muster.strandedGen }

/-- MUSTER_STATUS (R120). -/
def execMusterStatus (l : LinkId) (tag : Byte) (_body : List Byte) (s : State) : Host.Outcome State Fault Refusal :=
  .next (takeRequest .shared false 0x5D#8 l tag (fun t => .answer t (.results (.musterStatus (musterStatus t)))) s)

/-! ## The general-alarm line (R101) -/

def alarmAsserted (s : State) : State :=
  let next := { s with alarmLine := true }
  match s.muster.watch with
  | .idle => { next with muster := { s.muster with watch := .timing Config.debounceSeconds } }
  | _ => next

/-- GENERAL_ALARM_ASSERTED (R101). -/
def execGeneralAlarmAsserted (s : State) : Host.Outcome State Fault Refusal := .next (alarmAsserted s.begin)

def alarmDeasserted (s : State) : State :=
  { s with alarmLine := false, muster := { s.muster with watch := .idle } }

/-- GENERAL_ALARM_DEASSERTED (R101). -/
def execGeneralAlarmDeasserted (s : State) : Host.Outcome State Fault Refusal := .next (alarmDeasserted s.begin)

/-- The general-alarm event reaches the state machine (R102). -/
def State.alarmEvent (s : State) : State :=
  let raised := s.raise .safety .musterByLine
  match s.muster.state with
  | .quiet | .alert => raised.enterMuster false
  | .muster => if s.muster.drill then raised.clearDrill else raised
  | .standdown _ => raised.resume false

/-- The debounce count completes with the line asserted (R101). -/
def generalAlarm (s : State) : State :=
  match s.muster.watch with
  | .timing _ =>
    let next := { s with muster := { s.muster with watch := .given } }
    next.alarmEvent
  | _ => s

/-- GENERAL_ALARM_EVENT (R101, R102). Outside TIMING no count can complete (log 3). -/
def execGeneralAlarmEvent (s : State) : Host.Outcome State Fault Refusal := .next (generalAlarm s.begin)

/-! ## Muster timers (R116, R107) -/

def overdueExpiry (s : State) : State :=
  match s.muster.overdue, s.muster.state with
  | .running _, .muster =>
    let next := { s with muster := { s.muster with overdue := .expired } }
    next.raiseIf (decide (1 ≤ s.outstandingTotal)) .safety .overdue
  | _, _ => s

/-- OVERDUE_TIMER_EXPIRY (R116). -/
def execOverdueTimerExpiry (s : State) : Host.Outcome State Fault Refusal := .next (overdueExpiry s.begin)

def holdExpiry (s : State) : State :=
  match s.muster.hold, s.muster.state with
  | some _, .standdown .holding =>
    let next := { s with muster := { s.muster with state := .standdown .clearing, hold := none } }
    next.requestLatch .clear
  | _, _ => s

/-- STAND_DOWN_HOLD_EXPIRY (R107). -/
def execStandDownHoldExpiry (s : State) : Host.Outcome State Fault Refusal := .next (holdExpiry s.begin)

/-! ## Latch completions (R107, R109) -/

/-- The latch area and the latch copy take the written values and the store goes on (R25, R109). -/
def State.storeLatch (s : State) (x : Latch) : State :=
  let next := { s with store := { s.store with latch := x }, muster := { s.muster with latchCopy := x } }
  next.finishWrite

def latchSetCompletion (s : State) : State :=
  match s.store.inFlight with
  | some (.latch (.set d)) => s.storeLatch ⟨true, d⟩
  | _ => s

/-- LATCH_SET_COMPLETION (R109). -/
def execLatchSetCompletion (s : State) : Host.Outcome State Fault Refusal := .next (latchSetCompletion s.begin)

def latchClearCompletion (s : State) : State :=
  match s.store.inFlight with
  | some (.latch .clear) =>
    let next := s.storeLatch ⟨false, false⟩
    if s.muster.state = .standdown .clearing ∧ s.store.waiting = none then next.returnToQuiet else next
  | _ => s

/-- LATCH_CLEAR_COMPLETION (R107). -/
def execLatchClearCompletion (s : State) : Host.Outcome State Fault Refusal := .next (latchClearCompletion s.begin)

end Sys2Proof.Machine
end

