-- ==== Sys2Proof/Machine/Notices.lean ====
section
/-! DEFINITION. The content resolver's commands (chapter 6). -/

namespace Sys2Proof.Machine

/-! ## Muster instructions and parked texts (R126, R131) -/

/-- A changed entry composes the records on placements whose station is that station (R138). -/
def setInstruction (st : Nat) (c : Option InstructionCode) (s : State) : Handled :=
  if Table.get s.resolver.instructions st = c then .answer s .ok
  else
    let next := { s with resolver := { s.resolver with instructions := Table.set s.resolver.instructions st c } }
    .answer (next.composePlacements fun _ pl => next.placementStation pl == some st) .ok

/-- SET_INSTRUCTION (R126). -/
def execSetInstruction (l : LinkId) (tag : Byte) (body : List Byte) (s : State) : Host.Outcome State Fault Refusal :=
  .next (takeRequest .safety false 0x22#8 l tag
    (fun t => parsed (bodyTwoBytes body) t fun x =>
      parsed (below Config.stationCount x.1) t fun st =>
        parsed (instructionOf x.2) t fun c => setInstruction st c t) s)

def setParkedText (p : Nat) (text : Option Nat) (s : State) : Handled :=
  if !Table.has s.activePlan.placements p then .answer s (.refuse .notFound)
  else if Table.get s.resolver.parked p = text then .answer s .ok
  else
    let next := { s with resolver := { s.resolver with parked := Table.set s.resolver.parked p text } }
    .answer (next.composePlacements fun i _ => i == p) .ok

/-- SET_PARKED_TEXT (R131). -/
def execSetParkedText (l : LinkId) (tag : Byte) (body : List Byte) (s : State) : Host.Outcome State Fault Refusal :=
  .next (takeRequest .hotel false 0x3B#8 l tag (fun t => parsed (bodyParkedText body) t fun x => setParkedText x.1 x.2 t) s)

/-! ## Notices (R134, R135) -/

/-- The lowest empty slot. -/
def lowestSlot (t : Table Notice) : Option Nat := (List.range Config.noticeSlots).find? fun i => !Table.has t i

/-- Check 2 of R134. -/
def expired (now expiry : Option Nat) : Bool :=
  match now, expiry with
  | some n, some e => decide (e ≤ n)
  | _, _ => false

def postNotice (l : LinkId) (b : PostNoticeBody) (s : State) : Handled :=
  if expired s.now b.expiry then .answer s (.bad .expiry)
  else
    match lowestSlot s.resolver.notices with
    | none => .answer s (.refuse .full)
    | some i =>
      let n : Notice := { origin := l, target := b.target, text := b.text, urgent := b.urgent, expiry := b.expiry, posted := s.now }
      let next := { s with resolver := { s.resolver with notices := Table.put s.resolver.notices i n } }
      .answer (next.composeTargets [b.target]) (.results (.slot i))

/-- POST_NOTICE (R134). -/
def execPostNotice (l : LinkId) (tag : Byte) (body : List Byte) (s : State) : Host.Outcome State Fault Refusal :=
  .next (takeRequest .shared false 0x42#8 l tag (fun t => parsed (bodyPostNotice body) t fun b => postNotice l b t) s)

def withdrawNotice (l : LinkId) (i : Nat) (s : State) : Handled :=
  if Config.noticeSlots ≤ i then .answer s (.bad .range)
  else
    match Table.get s.resolver.notices i with
    | none => .answer s (.refuse .notFound)
    | some n =>
      if n.origin ≠ l then .answer s (.refuse .denied)
      else
        let next := { s with resolver := { s.resolver with notices := Table.del s.resolver.notices i } }
        .answer (next.composeTargets [n.target]) .ok

/-- WITHDRAW_NOTICE (R135). -/
def execWithdrawNotice (l : LinkId) (tag : Byte) (body : List Byte) (s : State) : Host.Outcome State Fault Refusal :=
  .next (takeRequest .shared false 0x43#8 l tag (fun t => parsed (bodyOne body) t fun i => withdrawNotice l i t) s)

/-! ## Reads (R142) -/

def cardRead (g : Seg) (a : Nat) (s : State) : CardReadResult :=
  let k := recKey g a
  let d := s.display k
  let x := s.draft d
  { state := d.state
    cls := if d.state = .free then none else some (x.1, x.2.card.kind)
    front := d.buffers.frontCard.map (·.card)
    back := d.buffers.backCard
    inQueue := s.inQueue k
    inTransit := s.inTransit k
    recompose := d.recompose }

/-- CARD_READ (R142). -/
def execCardRead (l : LinkId) (tag : Byte) (body : List Byte) (s : State) : Host.Outcome State Fault Refusal :=
  .next (takeRequest .shared false 0x5E#8 l tag
    (fun t => parsed (bodyDisplay body) t fun x => .answer t (.results (.card (cardRead x.1 x.2 t)))) s)

/-- The number of records a notice targets at present. -/
def State.targetCount (s : State) (t : Target) : Nat :=
  (s.dir.filter fun x => x.2.state != .free && s.targets t x.2).length

def noticeRead (s : State) : NoticeReadResult :=
  { slots := (List.range Config.noticeSlots).map fun i =>
      (Table.get s.resolver.notices i).map fun n => (n, s.targetCount n.target)
    instructions := (List.range Config.stationCount).map (Table.get s.resolver.instructions)
    parked := (List.range Config.placementCount).map (Table.get s.resolver.parked) }

/-- NOTICE_READ (R142). -/
def execNoticeRead (l : LinkId) (tag : Byte) (_body : List Byte) (s : State) : Host.Outcome State Fault Refusal :=
  .next (takeRequest .shared false 0x5F#8 l tag (fun t => .answer t (.results (.notices (noticeRead t)))) s)

end Sys2Proof.Machine
end

