-- ==== Sys2Proof/Machine/PlanStore.lean ====
section
/-! DEFINITION. The plan store's commands (chapter 1). -/

namespace Sys2Proof.Machine

/-- The muster states in which PLAN OPEN is refused (R9). -/
def MusterState.refusesOpen (m : MusterState) : Bool := m.isSafety

def State.bindInFlight (s : State) : Bool :=
  match s.store.inFlight with
  | some (.bind _ _ _) => true
  | _ => false

/-- PLAN OPEN with a form that decodes (R9). -/
def planOpen (form : Nat) (s : State) : Handled :=
  if s.muster.state.refusesOpen then .answer s (.refuse .state)
  else if s.plan.edit ≠ .closed then .answer s (.refuse .busy)
  else if s.bindInFlight then .answer s (.refuse .busy)
  else
    match form with
    | 0 => .answer { s with plan := { s.plan with edit := .editing, shadow := s.activePlan } } .ok
    | 1 => .answer { s with plan := { s.plan with edit := .editing, shadow := .empty } } .ok
    | _ => .answer s (.bad .range)

/-- PLAN_OPEN (R9). -/
def execPlanOpen (l : LinkId) (tag : Byte) (body : List Byte) (s : State) : Host.Outcome State Fault Refusal :=
  .next (takeRequest .safety false 0x10#8 l tag (fun t => parsed (bodyOne body) t fun f => planOpen f t) s)

/-- PLAN WRITE with the outcome of its decoding (R10). A LENGTH error is the port's and comes first; the edit
state comes before the field checks (log 11). -/
def planWrite (b : Except Reason PlanWriteBody) (s : State) : Handled :=
  match b with
  | .error .length => .answer s (.bad .length)
  | _ =>
    match s.plan.edit with
    | .closed => .answer s (.refuse .state)
    | .committing => .answer s (.refuse .busy)
    | .editing =>
      parsed b s fun w =>
        let p := match w.record with
          | some r => s.plan.shadow.putRecord w.index r
          | none => s.plan.shadow.removeRecord w.kind w.index
        .answer { s with plan := { s.plan with shadow := p } } .ok

/-- PLAN_WRITE (R10). -/
def execPlanWrite (l : LinkId) (tag : Byte) (body : List Byte) (s : State) : Host.Outcome State Fault Refusal :=
  .next (takeRequest .safety false 0x11#8 l tag (planWrite (bodyPlanWrite body)) s)

def planAbandon (s : State) : Handled :=
  match s.plan.edit with
  | .closed => .answer s (.refuse .state)
  | .committing => .answer s (.refuse .busy)
  | .editing => .answer { s with plan := { s.plan with edit := .closed, shadow := .empty } } .ok

/-- PLAN_ABANDON (R11). -/
def execPlanAbandon (l : LinkId) (tag : Byte) (_body : List Byte) (s : State) : Host.Outcome State Fault Refusal :=
  .next (takeRequest .safety false 0x12#8 l tag planAbandon s)

/-- Acceptance of a commit (R13). While a bind write is in flight the edit is CLOSED and R23 gives BUSY (log 35). -/
def planCommit (tag : Byte) (s : State) : Handled :=
  match s.plan.edit with
  | .closed => .answer s (.refuse (if s.bindInFlight then .busy else .state))
  | .committing => .answer s (.refuse .busy)
  | .editing =>
    if s.storeBusy then .answer s (.refuse .busy)
    else
      match validatePlan s.plan.shadow with
      | some (r, o) => .answer s (.badAt r (.record o.1 o.2))
      | none =>
        .answer
          (({ s with plan := { s.plan with edit := .committing } }.startWrite (.commit (nextSerial s.serial))).beginOp .safety
            ⟨.planCommit, tag, none⟩)
          .accepted

/-- PLAN_COMMIT (R13). -/
def execPlanCommit (l : LinkId) (tag : Byte) (_body : List Byte) (s : State) : Host.Outcome State Fault Refusal :=
  .next (takeRequest .safety false 0x13#8 l tag (planCommit tag) s)

/-- Acceptance of a bind (R21). -/
def bindDisplay (tag : Byte) (p : Nat) (g : Seg) (a : Nat) (s : State) : Handled :=
  if s.plan.edit ≠ .closed then .answer s (.refuse .busy)
  else if s.storeBusy then .answer s (.refuse .busy)
  else
    match Table.get s.activePlan.placements p with
    | none => .answer s (.refuse .notFound)
    | some pl =>
      let d := s.display (recKey g a)
      if d.state = .free then .answer s (.refuse .notFound)
      else
        match d.identity with
        | none => .answer s (.refuse .notFound)
        | some i =>
          if pl.expected = some i then .answer s .ok
          else
            .answer ((s.startWrite (.bind p i (bindLoser s.activePlan p i))).beginOp .safety ⟨.bind, tag, none⟩) .accepted

/-- BIND (R21). -/
def execBind (l : LinkId) (tag : Byte) (body : List Byte) (s : State) : Host.Outcome State Fault Refusal :=
  .next (takeRequest .safety false 0x14#8 l tag
    (fun t => parsed (bodyBind body) t fun x => bindDisplay tag x.1 x.2.1 x.2.2 t) s)

/-- PLAN READ (R20). -/
def planRead (l : LinkId) (b : PlanReadBody) (s : State) : Handled :=
  if b.shadow then
    if l = .hotel then .answer s (.refuse .denied)
    else if s.plan.edit = .closed then .answer s (.refuse .state)
    else
      match s.plan.shadow.read b.kind b.index with
      | some r => .answer s (.results (.planRecord r))
      | none => .answer s (.refuse .notFound)
  else
    match s.activePlan.read b.kind b.index with
    | some r => .answer s (.results (.planRecord r))
    | none => .answer s (.refuse .notFound)

/-- PLAN_READ (R20). -/
def execPlanRead (l : LinkId) (tag : Byte) (body : List Byte) (s : State) : Host.Outcome State Fault Refusal :=
  .next (takeRequest .shared false 0x44#8 l tag (fun t => parsed (bodyPlanRead body) t fun b => planRead l b t) s)

def planStatus (s : State) : PlanStatusResult :=
  { edit := s.plan.edit
    hasPlan := s.plan.active.isSome
    serial := s.serial
    activeCounts := s.activePlan.counts
    shadowCounts := if s.plan.edit = .closed then none else some s.plan.shadow.counts
    writing := s.store.inFlight.map Write.kind
    latchWaiting := s.store.waiting.isSome }

/-- PLAN_STATUS (R20). -/
def execPlanStatus (l : LinkId) (tag : Byte) (_body : List Byte) (s : State) : Host.Outcome State Fault Refusal :=
  .next (takeRequest .shared false 0x50#8 l tag (fun t => .answer t (.results (.planStatus (planStatus t)))) s)

/-! ## Completions -/

/-- The plan store and the retained areas take the new plan (R14, R13). -/
def commitStore (serial : Nat) (s : State) : State :=
  { s with
    store := { s.store with plan := some ⟨s.plan.shadow, serial⟩, fixed := [] }
    plan := { active := some ⟨s.plan.shadow, serial⟩, shadow := .empty, edit := .closed } }

/-- The condition table starts again and the confirm sequence is abandoned (R15, R36). -/
def commitConditions (s : State) : State :=
  { s with cond := { edges := [], slots := [], writing := s.cond.writing, progress := 0, fields := none, remainders := [] } }

/-- Cabins, zone overrides and parked texts are carried over from plan `old` (R16). -/
def commitCarry (old : Plan) (s : State) : State :=
  { s with
    muster := { s.muster with
      cabins := carryCabins old s.muster.cabins s.activePlan
      zoneOverrides := carryZones s.muster.zoneOverrides s.activePlan }
    resolver := { s.resolver with parked := Table.keep (fun p _ => Table.has s.activePlan.placements p) s.resolver.parked } }

/-- The directory is matched again; ORPHAN_SEEN is raised once when a record lost its placement (R17). -/
def commitMatch (s : State) : State :=
  let new := Table.mapVals (fun _ d => d.rematch s.activePlan) s.dir
  let lost := (s.dir.zip new).any fun x => losesPlacement x.1.2.state x.2.2.state
  { s with dir := new }.raiseIf lost .safety .orphanSeen

/-- The programme selection is chosen against the new plan (R89). -/
def commitSelection (s : State) : State :=
  { s with prog := { s.prog with venues := s.chosenVenues, onBoard := s.chosenOnBoard } }

/-- The route engine starts again from the new plan (R15). -/
def commitRoutes (s : State) : State :=
  let s1 := { s with route := { s.route with dests := s.destList, published := none } }
  s1.startComputation

/-- The commit write completes (R14 to R17). -/
def commitCompletion (s : State) : State :=
  match s.store.inFlight with
  | some (.commit serial) =>
    let s1 := (commitMatch (commitCarry s.activePlan (commitConditions (commitStore serial s)))).finishWrite.retally
    let s2 := commitRoutes (commitSelection s1)
    let s3 := ((s2.completeOp .planCommit none (.commit serial)).raise .safety .reload).raise .hotel .reload
    s3.composeAll.strandedAtStart
  | _ => s

/-- COMMIT_COMPLETION (R14). With no commit write in flight nothing completes (log 3). -/
def execCommitCompletion (s : State) : Host.Outcome State Fault Refusal := .next (commitCompletion s.begin)

/-- Both copies of the plan take the two changes of the bind write (R22). -/
def bindPlans (p : Nat) (i : Identity) (loser : Option Nat) (s : State) : State :=
  let f := fun a : ActivePlan => { a with plan := applyBind a.plan p i loser }
  { s with store := { s.store with plan := s.store.plan.map f }, plan := { s.plan with active := s.plan.active.map f } }

/-- The bind write completes (R22). -/
def bindCompletion (s : State) : State :=
  match s.store.inFlight with
  | some (.bind p i loser) =>
    let s1 := (bindPlans p i loser s).finishWrite
    let new := Table.mapVals (fun _ d => { d with state := bindState d p i loser }) s.dir
    let changed := (s.dir.zip new).filterMap fun x => if x.1.2.state = x.2.2.state then none else some x.1.1
    let lost := (s.dir.zip new).any fun x => losesPlacement x.1.2.state x.2.2.state
    let s2 := ({ s1 with dir := new }.raiseIf lost .safety .orphanSeen).completeOp .bind none (.bind p i (placedOn new p))
    s2.composeWhere fun k _ => changed.contains k
  | _ => s

/-- BIND_COMPLETION (R22). -/
def execBindCompletion (s : State) : Host.Outcome State Fault Refusal := .next (bindCompletion s.begin)

end Sys2Proof.Machine
end

