-- ==== Sys2Proof/Machine/Programme.lean ====
section
/-! DEFINITION. The programme timeline's commands (chapter 4). -/

namespace Sys2Proof.Machine

/-! ## The fresh choice and its hand-offs (R89, R90) -/

/-- An event id that is named before and after, whose titles, times or moved mark a request or a removal
changed (R89). -/
def namedChanged (old new : Table Event) (id : Option Nat) : Bool :=
  match id with
  | none => false
  | some i =>
    match Table.get old i, Table.get new i with
    | some a, some b => a.titles != b.titles || a.start != b.start || a.stop != b.stop || a.moved != b.moved
    | _, _ => true

/-- Is an item of the selection handed to the resolver? (R89) -/
def itemHanded (old new : Table Event) (a b : Option Nat) : Bool := a != b || namedChanged old new b

def venueHanded (old new : Table Event) (a b : VenueChoice) : Bool :=
  itemHanded old new a.now b.now || itemHanded old new a.next b.next

/-- The route engine takes a programme venue list that differs from the list last handed (R90, R53). -/
def State.handProgramme (s : State) (vs : List Nat) : State :=
  if vs = s.prog.programme then s
  else { s with prog := { s.prog with programme := vs } }.rebuildDests

/-- The programme selection and the programme venue list are chosen afresh and handed on, `old` being the
events before the change: the route engine first, then the resolver (log 12). -/
def State.chooseAfresh (s : State) (old : Table Event) : State :=
  let next := { s with prog := { s.prog with venues := s.chosenVenues, onBoard := s.chosenOnBoard } }
  let handed := next.handProgramme s.chosenProgramme
  let venues := (List.range Config.venueCount).filter fun v => venueHanded old s.prog.events (s.choice v) (next.choice v)
  let board := itemHanded old s.prog.events s.prog.onBoard next.prog.onBoard
  handed.composePlacements fun _ pl =>
    match pl.role with
    | .venue v => venues.contains v
    | .corridor _ => board
    | .door _ => false

/-! ## The minute event (R73) -/

/-- Notices whose expiry is at or before now leave their slots and their records are composed (R136), those of all of them in
one pass in directory order (the model's choice: log 12). -/
def State.expireNotices (s : State) (now : Nat) : State :=
  let due := fun n : Notice => n.expiry.any fun e => decide (e ≤ now)
  let gone := s.resolver.notices.filterMap fun x => if due x.2 then some x.2.target else none
  let next := { s with resolver := { s.resolver with notices := Table.keep (fun _ n => !due n) s.resolver.notices } }
  next.composeTargets gone

/-- The evaluation of one value of now (R73). -/
def State.evaluateMinute (s : State) (now : Nat) : State :=
  let next := { s with prog := { s.prog with events := evaluateEvents now s.prog.events } }
  (next.chooseAfresh s.prog.events).expireNotices now

/-- The clock's advance into the next minute, with its minute event (R70, R73). The event is taken at its word whatever the
seconds stand at (the model's choice: log 21). -/
def minuteEvent (s : State) : State :=
  match s.prog.clock with
  | none => s
  | some c =>
    if c.run = .running ∧ c.minute < 65535 then
      let next := { s with prog := { s.prog with clock := some ⟨c.minute + 1, 0, .running⟩ } }
      next.evaluateMinute (c.minute + 1)
    else s

/-- MINUTE_EVENT (R70, R73). A clock that does not advance has no minute event (log 3). -/
def execMinuteEvent (s : State) : Host.Outcome State Fault Refusal := .next (minuteEvent s.begin)

/-- At minute 65535 the seconds stop at 59 and the clock is HELD (R70). The event is taken at its word whatever the seconds
stand at (the model's choice: log 21). -/
def clockHeld (s : State) : State :=
  match s.prog.clock with
  | none => s
  | some c =>
    if c.minute = 65535 then { s with prog := { s.prog with clock := some ⟨65535, 59, .held⟩ } } else s

/-- CLOCK_RUN_STATE_HELD (R70). -/
def execClockRunStateHeld (s : State) : Host.Outcome State Fault Refusal := .next (clockHeld s.begin)

/-! ## Clock, offset, languages, look-ahead -/

def clockRun (minute seconds : Nat) : RunState := if minute = 65535 ∧ seconds = 59 then .held else .running

def setClock (minute seconds : Nat) (s : State) : Handled :=
  let sec := min seconds 59
  let next := { s with prog := { s.prog with clock := some ⟨minute, sec, clockRun minute sec⟩ } }
  .answer (next.evaluateMinute minute) .ok

/-- SET_CLOCK (R71). -/
def execSetClock (l : LinkId) (tag : Byte) (body : List Byte) (s : State) : Host.Outcome State Fault Refusal :=
  .next (takeRequest .hotel false 0x30#8 l tag (fun t => parsed (bodySetClock body) t fun x => setClock x.1 x.2 t) s)

/-- R72, R193. -/
def clampOffset (v : Int) : Int := max (-720) (min 840 v)

def setOffset (v : Int) (s : State) : Handled :=
  let o := clampOffset v
  if o = s.prog.offset then .answer s .ok
  else
    let next := { s with prog := { s.prog with offset := o } }
    .answer (next.composePlacements fun _ pl => match pl.role with
      | .door _ => false
      | _ => true) .ok

/-- SET_OFFSET (R72). -/
def execSetOffset (l : LinkId) (tag : Byte) (body : List Byte) (s : State) : Host.Outcome State Fault Refusal :=
  .next (takeRequest .hotel false 0x31#8 l tag (fun t => parsed (bodySetOffset body) t fun v => setOffset v t) s)

/-- Every record but those on DOOR placements (R138). -/
def State.composeNotDoors (s : State) : State :=
  s.composeWhere fun _ d => match s.roleOf d with
    | some (.door _) => false
    | _ => true

def setLanguages (p q : Nat) (s : State) : Handled :=
  if 4 ≤ p ∨ 4 ≤ q then .answer s (.bad .range)
  else if p = s.prog.primary ∧ q = s.prog.secondary then .answer s .ok
  else
    let next := { s with prog := { s.prog with primary := p, secondary := q } }
    .answer next.composeNotDoors .ok

/-- SET_LANGUAGES (R85). -/
def execSetLanguages (l : LinkId) (tag : Byte) (body : List Byte) (s : State) : Host.Outcome State Fault Refusal :=
  .next (takeRequest .hotel false 0x32#8 l tag (fun t => parsed (bodyTwoBytes body) t fun x => setLanguages x.1 x.2 t) s)

def setLookahead (n : Nat) (s : State) : Handled :=
  let v := clamp 30 240 n
  if v = s.prog.lookahead then .answer s .ok
  else
    let next := { s with prog := { s.prog with lookahead := v } }
    .answer (next.chooseAfresh s.prog.events) .ok

/-- SET_LOOKAHEAD (R86). -/
def execSetLookahead (l : LinkId) (tag : Byte) (body : List Byte) (s : State) : Host.Outcome State Fault Refusal :=
  .next (takeRequest .hotel false 0x33#8 l tag (fun t => parsed (bodyOne body) t fun n => setLookahead n t) s)

/-! ## Events -/

/-- Check 2 of R77. -/
def timesFit (start stop : Nat) : Bool := decide (start < stop) && decide (stop - start ≤ 1440)

/-- An event evaluated at once, if the clock is set (R75). -/
def State.judge (s : State) (e : Event) : Event :=
  match s.now with
  | none => e
  | some n => stepEvent n e

/-- Store event `id` and choose afresh. -/
def State.storeEvent (s : State) (id : Nat) (e : Event) : State :=
  let next := { s with prog := { s.prog with events := Table.put s.prog.events id e } }
  next.chooseAfresh s.prog.events

/-- Remove event `id` and choose afresh. -/
def State.dropEvent (s : State) (id : Nat) : State :=
  let next := { s with prog := { s.prog with events := Table.del s.prog.events id } }
  next.chooseAfresh s.prog.events

def eventAdd (b : EventAddBody) (s : State) : Handled :=
  if !timesFit b.start b.stop then .answer s (.bad .times)
  else if Table.has s.prog.events b.id then .answer s (.refuse .exists)
  else if Config.eventLimit ≤ s.prog.events.length then .answer s (.refuse .full)
  else
    let e : Event :=
      { venue := b.venue, start := b.start, stop := b.stop, category := b.category, titles := b.titles, state := .scheduled,
        moved := false }
    .answer (s.storeEvent b.id (s.judge e)) .ok

/-- EVENT_ADD (R77). -/
def execEventAdd (l : LinkId) (tag : Byte) (body : List Byte) (s : State) : Host.Outcome State Fault Refusal :=
  .next (takeRequest .hotel false 0x34#8 l tag (fun t => parsed (bodyEventAdd body) t fun b => eventAdd b t) s)

/-- The event with every given field in place of its own (R78, R79). -/
def modified (b : EventModifyBody) (e : Event) : Event :=
  { e with
    venue := b.venue.getD e.venue
    start := b.start.getD e.start
    stop := b.stop.getD e.stop
    titles := b.titles.getD e.titles }

/-- The moved mark of a SCHEDULED event after a modify (R78). -/
def movedAfter (old new : Event) : Bool :=
  old.moved || old.venue != new.venue || old.start != new.start || old.stop != new.stop

def eventModify (b : EventModifyBody) (s : State) : Handled :=
  match Table.get s.prog.events b.id with
  | none => .answer s (.refuse .notFound)
  | some e =>
    let m := modified b e
    match e.state with
    | .ended | .cancelled => .answer s (.refuse .state)
    | .running =>
      if b.venue.isSome || b.start.isSome then .answer s (.refuse .state)
      else if !timesFit m.start m.stop then .answer s (.bad .times)
      else .answer (s.storeEvent b.id (s.judge m)) .ok
    | .scheduled =>
      if !timesFit m.start m.stop then .answer s (.bad .times)
      else .answer (s.storeEvent b.id (s.judge { m with moved := movedAfter e m })) .ok

/-- EVENT_MODIFY (R78, R79). -/
def execEventModify (l : LinkId) (tag : Byte) (body : List Byte) (s : State) : Host.Outcome State Fault Refusal :=
  .next (takeRequest .hotel false 0x35#8 l tag (fun t => parsed (bodyEventModify body) t fun b => eventModify b t) s)

def eventCancel (id : Nat) (s : State) : Handled :=
  match Table.get s.prog.events id with
  | none => .answer s (.refuse .notFound)
  | some e =>
    match e.state with
    | .ended | .cancelled => .answer s (.refuse .state)
    | _ => .answer (s.storeEvent id { e with state := .cancelled }) .ok

/-- EVENT_CANCEL (R80). -/
def execEventCancel (l : LinkId) (tag : Byte) (body : List Byte) (s : State) : Host.Outcome State Fault Refusal :=
  .next (takeRequest .hotel false 0x36#8 l tag (fun t => parsed (bodyEventId body) t fun id => eventCancel id t) s)

def eventDelete (id : Nat) (s : State) : Handled :=
  if Table.has s.prog.events id then .answer (s.dropEvent id) .ok else .answer s (.refuse .notFound)

/-- EVENT_DELETE (R80). -/
def execEventDelete (l : LinkId) (tag : Byte) (body : List Byte) (s : State) : Host.Outcome State Fault Refusal :=
  .next (takeRequest .hotel false 0x37#8 l tag (fun t => parsed (bodyEventId body) t fun id => eventDelete id t) s)

/-! ## Texts -/

/-- The text pool with one entry stored or removed; a change hands the text id to the resolver (R82, R83). -/
def State.storeText (s : State) (id lang : Nat) (t : Option Text) : State :=
  if Table.get s.prog.texts (textKey id lang) = t then s
  else
    let next := { s with prog := { s.prog with texts := Table.set s.prog.texts (textKey id lang) t } }
    next.composeText id

def textPut (id lang : Nat) (t : Text) (s : State) : Handled :=
  if !Table.has s.prog.texts (textKey id lang) && decide (Config.textLimit ≤ s.prog.texts.length) then
    .answer s (.refuse .full)
  else .answer (s.storeText id lang (some t)) .ok

/-- TEXT_PUT (R82). -/
def execTextPut (l : LinkId) (tag : Byte) (body : List Byte) (s : State) : Host.Outcome State Fault Refusal :=
  .next (takeRequest .hotel false 0x38#8 l tag (fun t => parsed (bodyTextPut body) t fun x => textPut x.1 x.2.1 x.2.2 t) s)

def textDelete (id lang : Nat) (s : State) : Handled :=
  if Table.has s.prog.texts (textKey id lang) then .answer (s.storeText id lang none) .ok
  else .answer s (.refuse .notFound)

/-- TEXT_DELETE (R83). -/
def execTextDelete (l : LinkId) (tag : Byte) (body : List Byte) (s : State) : Host.Outcome State Fault Refusal :=
  .next (takeRequest .hotel false 0x39#8 l tag (fun t => parsed (bodyTextKey body) t fun x => textDelete x.1 x.2 t) s)

/-! ## Reads (R91, R83) -/

def eventsIn (es : Table Event) (x : EventState) : Nat := (es.filter fun e => e.2.state == x).length

def programmeStatus (s : State) : ProgrammeStatusResult :=
  { clock := s.prog.clock.map fun c => (c, s.localTime c.minute)
    offset := s.prog.offset
    lookahead := s.prog.lookahead
    primary := s.prog.primary
    secondary := s.prog.secondary
    scheduled := eventsIn s.prog.events .scheduled
    running := eventsIn s.prog.events .running
    ended := eventsIn s.prog.events .ended
    cancelled := eventsIn s.prog.events .cancelled
    texts := s.prog.texts.length
    programme := s.prog.programme
    onBoard := s.prog.onBoard
    venues := (List.range Config.venueCount).map s.choice }

/-- PROGRAMME_STATUS (R91). -/
def execProgrammeStatus (l : LinkId) (tag : Byte) (_body : List Byte) (s : State) : Host.Outcome State Fault Refusal :=
  .next (takeRequest .shared false 0x56#8 l tag (fun t => .answer t (.results (.programmeStatus (programmeStatus t)))) s)

def eventRead (id : Nat) (s : State) : Handled :=
  match Table.get s.prog.events id with
  | some e => .answer s (.results (.event id e))
  | none => .answer s (.refuse .notFound)

/-- EVENT_READ (R91). -/
def execEventRead (l : LinkId) (tag : Byte) (body : List Byte) (s : State) : Host.Outcome State Fault Refusal :=
  .next (takeRequest .shared false 0x57#8 l tag (fun t => parsed (bodyEventId body) t fun id => eventRead id t) s)

def eventList (first count : Nat) (s : State) : Detail :=
  let es := s.prog.events.filter fun x => decide (first ≤ x.1)
  .events (es.take count) (decide (count < es.length))

/-- EVENT_LIST (R91). -/
def execEventList (l : LinkId) (tag : Byte) (body : List Byte) (s : State) : Host.Outcome State Fault Refusal :=
  .next (takeRequest .shared false 0x58#8 l tag
    (fun t => parsed (bodyEventList body) t fun x => .answer t (.results (eventList x.1 x.2 t))) s)

def textRead (id lang : Nat) (s : State) : Handled :=
  match Table.get s.prog.texts (textKey id lang) with
  | some t => .answer s (.results (.text t))
  | none => .answer s (.refuse .notFound)

/-- TEXT_READ (R83). -/
def execTextRead (l : LinkId) (tag : Byte) (body : List Byte) (s : State) : Host.Outcome State Fault Refusal :=
  .next (takeRequest .shared false 0x59#8 l tag (fun t => parsed (bodyTextKey body) t fun x => textRead x.1 x.2 t) s)

end Sys2Proof.Machine
end

