-- ==== Sys2Proof/Machine/Routes.lean ====
section
/-! DEFINITION. The route engine's commands (chapter 3). -/

namespace Sys2Proof.Machine

def routeStatus (s : State) : RouteStatusResult :=
  { profile := s.route.profile
    computing := s.route.activity != .idle
    pending := s.route.pending
    number := s.route.number
    published := s.route.published.map fun g => (g.profile, g.serial)
    dests := s.route.dests.map fun d => (d, s.route.published.any fun g => g.dests.any (sameDest d.kind d.index)) }

/-- ROUTE_STATUS (R67). -/
def execRouteStatus (l : LinkId) (tag : Byte) (_body : List Byte) (s : State) : Host.Outcome State Fault Refusal :=
  .next (takeRequest .shared false 0x54#8 l tag (fun t => .answer t (.results (.routeStatus (routeStatus t)))) s)

/-- The checks and answers of R68 after the fields are in range. -/
def routeRead (b : RouteReadBody) (s : State) : Handled :=
  match s.route.published with
  | none => .answer s (.refuse .state)
  | some g =>
    match b with
    | .nodes k i first count =>
      match g.resultsFor k i with
      | none => .answer s (.refuse .notFound)
      | some rs => .answer s (.results (.routeNodes g.number g.profile ((rs.drop first).take count)))
    | .placement k i p =>
      match Table.get s.activePlan.placements p with
      | none => .answer s (.refuse .notFound)
      | some pl => .answer s (.results (.routePlacement g.number g.profile (routeLookup s pl k i)))

/-- ROUTE_READ (R68). -/
def execRouteRead (l : LinkId) (tag : Byte) (body : List Byte) (s : State) : Host.Outcome State Fault Refusal :=
  .next (takeRequest .shared false 0x55#8 l tag (fun t => parsed (bodyRouteRead body) t fun b => routeRead b t) s)

/-- The computation in flight completes (R58): publication, then the resolver, then the muster controller's
stranded list, then the next computation. -/
def computationCompletion (s : State) : State :=
  match s.route.activity with
  | .idle => s
  | .computing sn => (s.publish sn).handPublication.resumeComputation

/-- COMPUTATION_COMPLETION (R58). In IDLE nothing completes (log 3). -/
def execComputationCompletion (s : State) : Host.Outcome State Fault Refusal := .next (computationCompletion s.begin)

end Sys2Proof.Machine
end

