-- ==== Sys2Proof/Machine/Frame.lean ====
section
/-! DEFINITION. The receivers of the link ports and what becomes of a complete frame (R184 to R187). -/

namespace Sys2Proof.Machine

/-- A kind that is not a request kind is refused with UNKNOWN_KIND (R187 step 1). -/
def unknownRequest (l : LinkId) (tag kind : Byte) (s : State) : Host.Outcome State Fault Refusal :=
  .next (takeRequest .shared false kind l tag (fun t => .answer t (.refuse .unknownKind)) s)

/-- A valid frame completes on link `l` (R185, R186): the request of its kind. -/
def takeFrame (l : LinkId) (tag kind : Byte) (body : List Byte) (s : State) : Host.Outcome State Fault Refusal :=
  match Instr.ofFrame l tag kind body with
  | .planOpen l tag body => Sys2Proof.Machine.execPlanOpen l tag body s
  | .planWrite l tag body => Sys2Proof.Machine.execPlanWrite l tag body s
  | .planAbandon l tag body => Sys2Proof.Machine.execPlanAbandon l tag body s
  | .planCommit l tag body => Sys2Proof.Machine.execPlanCommit l tag body s
  | .bind l tag body => Sys2Proof.Machine.execBind l tag body s
  | .setCondition l tag body => Sys2Proof.Machine.execSetCondition l tag body s
  | .softDetourSet l tag body => Sys2Proof.Machine.execSoftDetourSet l tag body s
  | .softDetourClear l tag body => Sys2Proof.Machine.execSoftDetourClear l tag body s
  | .confirm l tag body => Sys2Proof.Machine.execConfirm l tag body s
  | .fixedDetour l tag body => Sys2Proof.Machine.execFixedDetour l tag body s
  | .alert l tag body => Sys2Proof.Machine.execAlert l tag body s
  | .cancelAlert l tag body => Sys2Proof.Machine.execCancelAlert l tag body s
  | .muster l tag body => Sys2Proof.Machine.execMuster l tag body s
  | .standdown l tag body => Sys2Proof.Machine.execStanddown l tag body s
  | .assignCabinStation l tag body => Sys2Proof.Machine.execAssignCabinStation l tag body s
  | .assignZoneStation l tag body => Sys2Proof.Machine.execAssignZoneStation l tag body s
  | .markCabin l tag body => Sys2Proof.Machine.execMarkCabin l tag body s
  | .setMusterTimers l tag body => Sys2Proof.Machine.execSetMusterTimers l tag body s
  | .setInstruction l tag body => Sys2Proof.Machine.execSetInstruction l tag body s
  | .sweep l tag body => Sys2Proof.Machine.execSweep l tag body s
  | .segmentReset l tag body => Sys2Proof.Machine.execSegmentReset l tag body s
  | .revive l tag body => Sys2Proof.Machine.execRevive l tag body s
  | .setClock l tag body => Sys2Proof.Machine.execSetClock l tag body s
  | .setOffset l tag body => Sys2Proof.Machine.execSetOffset l tag body s
  | .setLanguages l tag body => Sys2Proof.Machine.execSetLanguages l tag body s
  | .setLookahead l tag body => Sys2Proof.Machine.execSetLookahead l tag body s
  | .eventAdd l tag body => Sys2Proof.Machine.execEventAdd l tag body s
  | .eventModify l tag body => Sys2Proof.Machine.execEventModify l tag body s
  | .eventCancel l tag body => Sys2Proof.Machine.execEventCancel l tag body s
  | .eventDelete l tag body => Sys2Proof.Machine.execEventDelete l tag body s
  | .textPut l tag body => Sys2Proof.Machine.execTextPut l tag body s
  | .textDelete l tag body => Sys2Proof.Machine.execTextDelete l tag body s
  | .cabinGuests l tag body => Sys2Proof.Machine.execCabinGuests l tag body s
  | .setParkedText l tag body => Sys2Proof.Machine.execSetParkedText l tag body s
  | .readGuestRequests l tag body => Sys2Proof.Machine.execReadGuestRequests l tag body s
  | .remainderSet l tag body => Sys2Proof.Machine.execRemainderSet l tag body s
  | .remainderClear l tag body => Sys2Proof.Machine.execRemainderClear l tag body s
  | .postNotice l tag body => Sys2Proof.Machine.execPostNotice l tag body s
  | .withdrawNotice l tag body => Sys2Proof.Machine.execWithdrawNotice l tag body s
  | .planRead l tag body => Sys2Proof.Machine.execPlanRead l tag body s
  | .readAttention l tag body => Sys2Proof.Machine.execReadAttention l tag body s
  | .setAttentionMask l tag body => Sys2Proof.Machine.execSetAttentionMask l tag body s
  | .setLinkTimeout l tag body => Sys2Proof.Machine.execSetLinkTimeout l tag body s
  | .lastOperation l tag body => Sys2Proof.Machine.execLastOperation l tag body s
  | .linkStatus l tag body => Sys2Proof.Machine.execLinkStatus l tag body s
  | .planStatus l tag body => Sys2Proof.Machine.execPlanStatus l tag body s
  | .conditionRead l tag body => Sys2Proof.Machine.execConditionRead l tag body s
  | .detourRead l tag body => Sys2Proof.Machine.execDetourRead l tag body s
  | .remainderRead l tag body => Sys2Proof.Machine.execRemainderRead l tag body s
  | .routeStatus l tag body => Sys2Proof.Machine.execRouteStatus l tag body s
  | .routeRead l tag body => Sys2Proof.Machine.execRouteRead l tag body s
  | .programmeStatus l tag body => Sys2Proof.Machine.execProgrammeStatus l tag body s
  | .eventRead l tag body => Sys2Proof.Machine.execEventRead l tag body s
  | .eventList l tag body => Sys2Proof.Machine.execEventList l tag body s
  | .textRead l tag body => Sys2Proof.Machine.execTextRead l tag body s
  | .cabinRead l tag body => Sys2Proof.Machine.execCabinRead l tag body s
  | .readOutstanding l tag body => Sys2Proof.Machine.execReadOutstanding l tag body s
  | .readStranded l tag body => Sys2Proof.Machine.execReadStranded l tag body s
  | .musterStatus l tag body => Sys2Proof.Machine.execMusterStatus l tag body s
  | .cardRead l tag body => Sys2Proof.Machine.execCardRead l tag body s
  | .noticeRead l tag body => Sys2Proof.Machine.execNoticeRead l tag body s
  | .displayRead l tag body => Sys2Proof.Machine.execDisplayRead l tag body s
  | .segmentStatus l tag body => Sys2Proof.Machine.execSegmentStatus l tag body s
  | .queueRead l tag body => Sys2Proof.Machine.execQueueRead l tag body s
  | _ => unknownRequest l tag kind s

/-- UNKNOWN_KIND (R187). -/
def execUnknownKind (l : LinkId) (tag kind : Byte) (body : List Byte) (s : State) : Host.Outcome State Fault Refusal :=
  takeFrame l tag kind body s

/-- The receiver returns to HUNTING; nothing else of the port changes (R184, R185). -/
def State.hunt (s : State) (l : LinkId) : State := s.modPort l fun p => { p with receiver := .hunting }

/-- A complete frame is checked by its CRC (R185). -/
def checkFrame (l : LinkId) (tag kind : Byte) (body : List Byte) (crc : BitVec 16) (s : State) :
    Host.Outcome State Fault Refusal :=
  if crc = frameCheck tag kind body then takeFrame l tag kind body s else .next (s.begin.hunt l)

/-- BAD_CRC_FRAME (R185). -/
def execBadCrcFrame (l : LinkId) (tag kind : Byte) (body : List Byte) (crc : BitVec 16) (s : State) :
    Host.Outcome State Fault Refusal :=
  checkFrame l tag kind body crc s

/-- FRAME_WHILE_BUSY: a valid frame; the port's state decides that it is discarded (R186). -/
def execFrameWhileBusy (l : LinkId) (tag kind : Byte) (body : List Byte) (s : State) : Host.Outcome State Fault Refusal :=
  takeFrame l tag kind body s

/-- The bytes after the length byte of a complete frame: tag, kind, body and the two CRC bytes. -/
def splitFrame : List Byte → Option (Byte × Byte × List Byte × BitVec 16)
  | tag :: kind :: rest =>
    let n := rest.length - 2
    match rest.drop n with
    | [a, b] => some (tag, kind, rest.take n, a ++ b)
    | _ => none
  | _ => none

/-- The start byte of a request frame (R201). -/
def startByteValue : Byte := 0x5A#8

/-- A received byte whose stop bit is present (the table of R184). -/
def receiveByte (l : LinkId) (b : Byte) (s : State) : Host.Outcome State Fault Refusal :=
  match (s.port l).receiver with
  | .hunting =>
    if b = startByteValue then .next (s.begin.modPort l fun p => { p with receiver := .receiving [] }) else .next s.begin
  | .receiving [] =>
    if b.toNat < 2 ∨ 250 < b.toNat then .next (s.begin.hunt l)
    else .next (s.begin.modPort l fun p => { p with receiver := .receiving [b] })
  | .receiving (n :: rest) =>
    let got := rest ++ [b]
    if got.length < n.toNat + 2 then .next (s.begin.modPort l fun p => { p with receiver := .receiving (n :: got) })
    else
      match splitFrame got with
      | some (tag, kind, body, crc) => checkFrame l tag kind body crc s
      | none => .next (s.begin.hunt l)

/-- START_BYTE (R184). Inside a frame it is an ordinary byte of that frame. -/
def execStartByte (l : LinkId) (s : State) : Host.Outcome State Fault Refusal := receiveByte l startByteValue s

/-- LENGTH_OUT_OF_RANGE: the byte `n` is received; as the first byte after the start byte it ends the frame (R184). -/
def execLengthOutOfRange (l : LinkId) (n : Byte) (s : State) : Host.Outcome State Fault Refusal := receiveByte l n s

/-- RECEIVE_GAP (R184). -/
def execReceiveGap (l : LinkId) (s : State) : Host.Outcome State Fault Refusal := .next (s.begin.hunt l)

/-- MISSING_STOP_BIT (R184): ignored in HUNTING, ends the frame in RECEIVING. -/
def execMissingStopBit (l : LinkId) (s : State) : Host.Outcome State Fault Refusal := .next (s.begin.hunt l)

end Sys2Proof.Machine
end

