-- ==== Sys2Proof/Machine/Reset.lean ====
section
/-! DEFINITION. RESET: what a reset leaves in the retained store (R26) and start-up from it (R27, R39, R45, R62,
R69, R93, R109, R121, R143, R146, R160, R162, R183). -/

namespace Sys2Proof.Machine

/-- A value of the settings area after a reset during its write: old or new, not said which (R26, log 4). -/
def keptValue (n old new : Nat) : Nat := if Config.writeKept n then new else old

/-- The plan area after a reset during a bind write: all of its changes or none (R23, R26, log 4). -/
def keptBind (n : Nat) (a : Option ActivePlan) (p : Nat) (i : Identity) (loser : Option Nat) : Option ActivePlan :=
  if Config.writeKept n then a.map fun x => { x with plan := applyBind x.plan p i loser } else a

/-- The latch and drill flag after a reset during a latch write: both as before or both as written (R26). -/
def keptLatch (n : Nat) (old : Latch) (w : LatchWrite) : Latch :=
  if Config.writeKept n then
    match w with
    | .set d => ⟨true, d⟩
    | .clear => ⟨false, false⟩
  else old

/-- What the write in flight leaves in the areas (the table of R26). -/
def RetainedStore.keep (st : RetainedStore) (n : Nat) : RetainedStore :=
  match st.inFlight with
  | none => st
  | some (.commit _) => { st with plan := none, fixed := [] }
  | some (.bind p i loser) => { st with plan := keptBind n st.plan p i loser }
  | some (.fixedDetour f) =>
    if Config.writeKept n then { st with fixed := Table.put st.fixed f.zone ⟨f.blocked, f.opened, true⟩ } else st
  | some (.latch w) => { st with latch := keptLatch n st.latch w }
  | some (.settings (.timers o h)) =>
    { st with overdueTime := keptValue n st.overdueTime o, holdTime := keptValue (n + 1) st.holdTime h }
  | some (.settings (.silence .safety v)) => { st with silenceSafety := keptValue n st.silenceSafety v }
  | some (.settings (.silence .hotel v)) => { st with silenceHotel := keptValue n st.silenceHotel v }

/-- The areas as start-up reads them: no write in flight or waiting; with an invalid plan area the
fixed-detour area is emptied (R26). -/
def RetainedStore.afterReset (st : RetainedStore) (n : Nat) : RetainedStore :=
  let k := st.keep n
  { k with fixed := if k.plan.isSome then k.fixed else [], inFlight := none, waiting := none }

/-- Questions the free value answers for one reset: at most two (a settings write carries up to two). -/
def freeValuesPerReset : Nat := 2

/-- The plan of the plan area, or the empty plan. -/
def RetainedStore.startPlan (st : RetainedStore) : Plan := match st.plan with
  | some a => a.plan
  | none => Plan.empty

/-- The muster controller at start-up (R93, R109). -/
def startMuster (st : RetainedStore) (line : Bool) : MusterController :=
  { state := if st.latch.set then .muster else .quiet
    drill := st.latch.set && st.latch.drill
    latchCopy := st.latch
    cabins := freshCabins st.startPlan
    zoneOverrides := []
    tally := computeTally st.startPlan (freshCabins st.startPlan)
    tallySerial := 0
    stranded := []
    strandedGen := 0
    overdue := if st.latch.set then .running (st.overdueTime * 60) else .stopped
    hold := none
    overdueTime := st.overdueTime
    holdTime := st.holdTime
    watch := if line then .timing Config.debounceSeconds else .idle }

/-- Every block at its reset value, with the retained areas taken in. -/
def startBlocks (st : RetainedStore) (line : Bool) (free : Nat) (pending : List Instr) : State :=
  { State.reset with
    store := st
    plan := { active := st.plan, shadow := .empty, edit := .closed }
    cond := { State.reset.cond with slots := st.fixed }
    route := { State.reset.route with profile := if st.latch.set then .safety else .normal }
    muster := startMuster st line
    ports := ⟨.initial .safety st.silenceSafety, .initial .hotel st.silenceHotel⟩
    alarmLine := line
    freeCount := free
    pending := pending }

/-- Start-up: the blocks, then the destination list and the first computation (R62). -/
def startUp (st : RetainedStore) (line : Bool) (free : Nat) (pending : List Instr) : State :=
  let s := startBlocks st line free pending
  let t := { s with route := { s.route with dests := s.destList } }
  t.startComputation.strandedAtStart

/-- RESET (R26): power-on, power loss and the reset input have the same effect. The level of the alarm line
and the commands that wait outside are not the part's to change. -/
def execReset (s : State) : Host.Outcome State Fault Refusal :=
  .next (startUp (s.store.afterReset s.freeCount) s.alarmLine (s.freeCount + freeValuesPerReset) s.pending)

end Sys2Proof.Machine
end

