-- ==== Sys2Proof/Machine/Dispatch.lean ====
section
/-! DEFINITION. One arm per command. -/

namespace Sys2Proof.Machine

def exec (i : Instr) (s : State) : Host.Outcome State Fault Refusal :=
  match i with
  | .planOpen l tag body => Sys2Proof.Machine.execPlanOpen l tag body s
  | .planWrite l tag body => Sys2Proof.Machine.execPlanWrite l tag body s
  | .planAbandon l tag body => Sys2Proof.Machine.execPlanAbandon l tag body s
  | .planCommit l tag body => Sys2Proof.Machine.execPlanCommit l tag body s
  | .bind l tag body => Sys2Proof.Machine.execBind l tag body s
  | .setCondition l tag body => Sys2Proof.Machine.execSetCondition l tag body s
  | .softDetourSet l tag body => Sys2Proof.Machine.execSoftDetourSet l tag body s
  | .softDetourClear l tag body => Sys2Proof.Machine.execSoftDetourClear l tag body s
  | .confirm l tag body => Sys2Proof.Machine.execConfirm l tag body s
  | .fixedDetour l tag body => Sys2Proof.Machine.execFixedDetour l tag body s
  | .alert l tag body => Sys2Proof.Machine.execAlert l tag body s
  | .cancelAlert l tag body => Sys2Proof.Machine.execCancelAlert l tag body s
  | .muster l tag body => Sys2Proof.Machine.execMuster l tag body s
  | .standdown l tag body => Sys2Proof.Machine.execStanddown l tag body s
  | .assignCabinStation l tag body => Sys2Proof.Machine.execAssignCabinStation l tag body s
  | .assignZoneStation l tag body => Sys2Proof.Machine.execAssignZoneStation l tag body s
  | .markCabin l tag body => Sys2Proof.Machine.execMarkCabin l tag body s
  | .setMusterTimers l tag body => Sys2Proof.Machine.execSetMusterTimers l tag body s
  | .setInstruction l tag body => Sys2Proof.Machine.execSetInstruction l tag body s
  | .sweep l tag body => Sys2Proof.Machine.execSweep l tag body s
  | .segmentReset l tag body => Sys2Proof.Machine.execSegmentReset l tag body s
  | .revive l tag body => Sys2Proof.Machine.execRevive l tag body s
  | .setClock l tag body => Sys2Proof.Machine.execSetClock l tag body s
  | .setOffset l tag body => Sys2Proof.Machine.execSetOffset l tag body s
  | .setLanguages l tag body => Sys2Proof.Machine.execSetLanguages l tag body s
  | .setLookahead l tag body => Sys2Proof.Machine.execSetLookahead l tag body s
  | .eventAdd l tag body => Sys2Proof.Machine.execEventAdd l tag body s
  | .eventModify l tag body => Sys2Proof.Machine.execEventModify l tag body s
  | .eventCancel l tag body => Sys2Proof.Machine.execEventCancel l tag body s
  | .eventDelete l tag body => Sys2Proof.Machine.execEventDelete l tag body s
  | .textPut l tag body => Sys2Proof.Machine.execTextPut l tag body s
  | .textDelete l tag body => Sys2Proof.Machine.execTextDelete l tag body s
  | .cabinGuests l tag body => Sys2Proof.Machine.execCabinGuests l tag body s
  | .setParkedText l tag body => Sys2Proof.Machine.execSetParkedText l tag body s
  | .readGuestRequests l tag body => Sys2Proof.Machine.execReadGuestRequests l tag body s
  | .remainderSet l tag body => Sys2Proof.Machine.execRemainderSet l tag body s
  | .remainderClear l tag body => Sys2Proof.Machine.execRemainderClear l tag body s
  | .postNotice l tag body => Sys2Proof.Machine.execPostNotice l tag body s
  | .withdrawNotice l tag body => Sys2Proof.Machine.execWithdrawNotice l tag body s
  | .planRead l tag body => Sys2Proof.Machine.execPlanRead l tag body s
  | .readAttention l tag body => Sys2Proof.Machine.execReadAttention l tag body s
  | .setAttentionMask l tag body => Sys2Proof.Machine.execSetAttentionMask l tag body s
  | .setLinkTimeout l tag body => Sys2Proof.Machine.execSetLinkTimeout l tag body s
  | .lastOperation l tag body => Sys2Proof.Machine.execLastOperation l tag body s
  | .linkStatus l tag body => Sys2Proof.Machine.execLinkStatus l tag body s
  | .planStatus l tag body => Sys2Proof.Machine.execPlanStatus l tag body s
  | .conditionRead l tag body => Sys2Proof.Machine.execConditionRead l tag body s
  | .detourRead l tag body => Sys2Proof.Machine.execDetourRead l tag body s
  | .remainderRead l tag body => Sys2Proof.Machine.execRemainderRead l tag body s
  | .routeStatus l tag body => Sys2Proof.Machine.execRouteStatus l tag body s
  | .routeRead l tag body => Sys2Proof.Machine.execRouteRead l tag body s
  | .programmeStatus l tag body => Sys2Proof.Machine.execProgrammeStatus l tag body s
  | .eventRead l tag body => Sys2Proof.Machine.execEventRead l tag body s
  | .eventList l tag body => Sys2Proof.Machine.execEventList l tag body s
  | .textRead l tag body => Sys2Proof.Machine.execTextRead l tag body s
  | .cabinRead l tag body => Sys2Proof.Machine.execCabinRead l tag body s
  | .readOutstanding l tag body => Sys2Proof.Machine.execReadOutstanding l tag body s
  | .readStranded l tag body => Sys2Proof.Machine.execReadStranded l tag body s
  | .musterStatus l tag body => Sys2Proof.Machine.execMusterStatus l tag body s
  | .cardRead l tag body => Sys2Proof.Machine.execCardRead l tag body s
  | .noticeRead l tag body => Sys2Proof.Machine.execNoticeRead l tag body s
  | .displayRead l tag body => Sys2Proof.Machine.execDisplayRead l tag body s
  | .segmentStatus l tag body => Sys2Proof.Machine.execSegmentStatus l tag body s
  | .queueRead l tag body => Sys2Proof.Machine.execQueueRead l tag body s
  | .unknownKind l tag kind body => Sys2Proof.Machine.execUnknownKind l tag kind body s
  | .badCrcFrame l tag kind body crc => Sys2Proof.Machine.execBadCrcFrame l tag kind body crc s
  | .frameWhileBusy l tag kind body => Sys2Proof.Machine.execFrameWhileBusy l tag kind body s
  | .receiveGap l => Sys2Proof.Machine.execReceiveGap l s
  | .answerSent l => Sys2Proof.Machine.execAnswerSent l s
  | .silenceTimerExpiry l => Sys2Proof.Machine.execSilenceTimerExpiry l s
  | .reset => Sys2Proof.Machine.execReset s
  | .generalAlarmAsserted => Sys2Proof.Machine.execGeneralAlarmAsserted s
  | .generalAlarmDeasserted => Sys2Proof.Machine.execGeneralAlarmDeasserted s
  | .generalAlarmEvent => Sys2Proof.Machine.execGeneralAlarmEvent s
  | .overdueTimerExpiry => Sys2Proof.Machine.execOverdueTimerExpiry s
  | .standDownHoldExpiry => Sys2Proof.Machine.execStandDownHoldExpiry s
  | .commitCompletion => Sys2Proof.Machine.execCommitCompletion s
  | .bindCompletion => Sys2Proof.Machine.execBindCompletion s
  | .fixedDetourCompletion => Sys2Proof.Machine.execFixedDetourCompletion s
  | .latchSetCompletion => Sys2Proof.Machine.execLatchSetCompletion s
  | .latchClearCompletion => Sys2Proof.Machine.execLatchClearCompletion s
  | .settingsWriteCompletion => Sys2Proof.Machine.execSettingsWriteCompletion s
  | .computationCompletion => Sys2Proof.Machine.execComputationCompletion s
  | .minuteEvent => Sys2Proof.Machine.execMinuteEvent s
  | .sweepStart g => Sys2Proof.Machine.execSweepStart g s
  | .automaticSweepTimerExpiry g => Sys2Proof.Machine.execAutomaticSweepTimerExpiry g s
  | .presence g driven => Sys2Proof.Machine.execPresence g driven s
  | .bit g driven => Sys2Proof.Machine.execBit g driven s
  | .capabilityReply g addr identity panel capacity lines firmware => Sys2Proof.Machine.execCapabilityReply g addr identity panel capacity lines firmware s
  | .assignReplyTimeout g => Sys2Proof.Machine.execAssignReplyTimeout g s
  | .cardExchange g => Sys2Proof.Machine.execCardExchange g s
  | .pollExchange g => Sys2Proof.Machine.execPollExchange g s
  | .ack g addr => Sys2Proof.Machine.execAck g addr s
  | .nak g addr => Sys2Proof.Machine.execNak g addr s
  | .pollNone g addr => Sys2Proof.Machine.execPollNone g addr s
  | .pollNak g addr => Sys2Proof.Machine.execPollNak g addr s
  | .report g addr kind code overrun => Sys2Proof.Machine.execReport g addr kind code overrun s
  | .panelReplyTimeout g => Sys2Proof.Machine.execPanelReplyTimeout g s
  | .refreshLimitExpiry g addr => Sys2Proof.Machine.execRefreshLimitExpiry g addr s
  | .creditRefill => Sys2Proof.Machine.execCreditRefill s
  | .dispatch => Sys2Proof.Machine.execDispatch s
  | .startByte l => Sys2Proof.Machine.execStartByte l s
  | .lengthOutOfRange l n => Sys2Proof.Machine.execLengthOutOfRange l n s
  | .missingStopBit l => Sys2Proof.Machine.execMissingStopBit l s
  | .clockRunStateHeld => Sys2Proof.Machine.execClockRunStateHeld s

end Sys2Proof.Machine
end

