-- ==== Sys2Proof/Machine/Tick.lean ====
section
/-! DEFINITION. One second of the part's timebase, which passes when no command waits (log 2): every running timer
loses one second, the ship's clock gains one, and the expiries that come due join the queue as commands. -/

namespace Sys2Proof.Machine

/-- One second less. -/
def lessOne (n : Nat) : Nat := n - 1

/-- Does a timer with this time remaining expire with this second? -/
def dueNow (n : Nat) : Bool := decide (n ≤ 1)

def optLess (t : Option Nat) : Option Nat := t.map lessOne

def optDue (t : Option Nat) : Bool := t.any dueNow

/-- A command that is due. -/
def dueCommand (c : Bool) (i : Instr) : List Instr := if c then [i] else []

def SilenceTimer.tick : SilenceTimer → SilenceTimer
  | .running n => .running (lessOne n)
  | x => x

def SilenceTimer.due : SilenceTimer → Bool
  | .running n => dueNow n
  | _ => false

def OverdueTimer.tick : OverdueTimer → OverdueTimer
  | .running n => .running (lessOne n)
  | x => x

def OverdueTimer.due : OverdueTimer → Bool
  | .running n => dueNow n
  | _ => false

def AlarmWatch.tick : AlarmWatch → AlarmWatch
  | .timing n => .timing (lessOne n)
  | x => x

def AlarmWatch.due : AlarmWatch → Bool
  | .timing n => dueNow n
  | _ => false

/-- The seconds of a running clock (R70). Past 59 they return to 0 with the minute event. -/
def Clock.tick (c : Clock) : Clock := if c.run = .running ∧ c.seconds < 59 then { c with seconds := c.seconds + 1 } else c

/-- The voyage minute advances: the seconds pass 59 (R70). -/
def Clock.minuteDue (c : Clock) : Bool := c.run == .running && decide (59 ≤ c.seconds) && decide (c.minute < 65535)

/-- At minute 65535 the seconds reach 59 (R70). -/
def Clock.holdDue (c : Clock) : Bool := c.run == .running && decide (58 ≤ c.seconds) && c.minute == 65535

def Display.tick (d : Display) : Display := { d with refreshLimit := optLess d.refreshLimit }

def Segment.tick (x : Segment) : Segment := { x with autoTimer := optLess x.autoTimer }

def Port.tick (p : Port) : Port := { p with silence := p.silence.tick }

/-- The refresh limits that expire with this second, in directory order. -/
def limitsDue (dir : Table Display) : List Instr :=
  dir.flatMap fun x => dueCommand (optDue x.2.refreshLimit) (.refreshLimitExpiry (keySeg x.1) (keyAddr x.1))

/-- The expiries that come due with this second (log 2). -/
def State.due (s : State) : List Instr :=
  dueCommand (s.prog.clock.any Clock.minuteDue) .minuteEvent ++
  dueCommand (s.prog.clock.any Clock.holdDue) .clockRunStateHeld ++
  dueCommand s.muster.watch.due .generalAlarmEvent ++
  dueCommand s.muster.overdue.due .overdueTimerExpiry ++
  dueCommand (optDue s.muster.hold) .standDownHoldExpiry ++
  limitsDue s.dir ++
  dueCommand (dueNow s.bus.refill) .creditRefill ++
  ([0, 1, 2, 3].flatMap fun g : Seg => dueCommand (optDue (s.seg g).autoTimer) (.automaticSweepTimerExpiry g)) ++
  dueCommand (s.port .safety).silence.due (.silenceTimerExpiry .safety) ++
  dueCommand (s.port .hotel).silence.due (.silenceTimerExpiry .hotel)

/-- One second passes. -/
def State.tick (s : State) : State :=
  { s with
    prog := { s.prog with clock := s.prog.clock.map Clock.tick }
    muster := { s.muster with watch := s.muster.watch.tick, overdue := s.muster.overdue.tick, hold := optLess s.muster.hold }
    dir := Table.mapVals (fun _ d => d.tick) s.dir
    bus := { s.bus with refill := lessOne s.bus.refill }
    segs := ⟨s.segs.s0.tick, s.segs.s1.tick, s.segs.s2.tick, s.segs.s3.tick⟩
    ports := ⟨s.ports.safety.tick, s.ports.hotel.tick⟩
    sent := []
    pending := s.due }

end Sys2Proof.Machine
end

