-- ==== Sys2Proof/Machine/CardFormat.lean ====
section
/-! DEFINITION. The card record and the panel-bus frames as bytes (R203, R204). -/

namespace Sys2Proof.Machine

/-! ## Field encodings (R200) -/

/-- 1-byte number with FFh for absent. -/
def opt1 : Option Nat → Byte
  | some n => byte n
  | none => 0xFF#8

/-- Set or clear. -/
def flagByte (b : Bool) : Byte := if b then 0x01#8 else 0x00#8

/-- 2-byte number with FFFFh for absent. -/
def opt2 : Option Nat → List Byte
  | some n => be2 n
  | none => [0xFF#8, 0xFF#8]

/-- A list: a count of items, then the items. -/
def encodeList {α : Type} (f : α → List Byte) (xs : List α) : List Byte := byte xs.length :: xs.flatMap f

/-! ## Codes of R204 -/

def CardKind.code : CardKind → Byte
  | .alert => 0
  | .muster => 1
  | .musterGeneric => 2
  | .standdown => 3
  | .notice => 4
  | .cabin => 5
  | .wayfind => 6
  | .venue => 7
  | .parked => 8

def CardPhase.code : CardPhase → Byte
  | .alert => 0
  | .muster => 1
  | .standdown => 2

def phaseByte : Option CardPhase → Byte
  | some p => p.code
  | none => 0xFF#8

/-- Bit 0 DRILL to bit 5 vacated CREW. -/
def Marks.code (m : Marks) : Byte :=
  BitVec.ofBool m.vacatedCrew ++ BitVec.ofBool m.vacatedGuest ++ BitVec.ofBool m.urgent ++ BitVec.ofBool m.service ++
    BitVec.ofBool m.dnd ++ BitVec.ofBool m.drill |>.setWidth 8

def Badge.code : Badge → Byte
  | .none => 0
  | .station _ => 1
  | .cabin _ => 2
  | .venue _ => 3

def Badge.number : Badge → Nat
  | .cabin n => n
  | _ => 0

def Badge.label : Badge → Text
  | .station t | .venue t => t
  | _ => []

def Category.code : Category → Byte
  | .showing => 0
  | .dining => 1
  | .activity => 2
  | .talk => 3
  | .port => 4
  | .family => 5

def InstructionCode.code : InstructionCode → Byte
  | .useStairs => 0
  | .avoidLifts => 1
  | .keepRight => 2
  | .keepLeft => 3
  | .waitForCrew => 4
  | .bringLifejacket => 5

/-- Message codes of a card (R204): the instruction codes follow UNASSIGNED. -/
def MessageCode.code : MessageCode → Byte
  | .standBy => 0
  | .followCrew => 1
  | .allClear => 2
  | .welcome => 3
  | .unassigned => 4
  | .instruction c => c.code + 5

def Line.code : Line → Byte
  | .route _ => 0
  | .sign _ _ => 1
  | .onBoard _ _ _ _ _ _ => 2
  | .now _ _ _ _ _ => 3
  | .next _ _ _ _ _ => 4
  | .name _ _ => 5
  | .notice _ _ => 6
  | .parked _ _ => 7
  | .message _ => 8

/-- Route form, arrow, metres and minutes of a route part: 5 bytes. -/
def RoutePart.encode : RoutePart → List Byte
  | .route a m t => [0x00#8, byte a] ++ be2 m ++ [byte t]
  | .here => [0x01#8, 0xFF#8] ++ be2 0 ++ [0x00#8]
  | .noRoute => [0x02#8, 0xFF#8, 0xFF#8, 0xFF#8, 0xFF#8]
  | .none => [0x03#8, 0xFF#8, 0xFF#8, 0xFF#8, 0xFF#8]

/-- The same five bytes of a line without a route part. -/
def noRoutePart : List Byte := [0xFF#8, 0xFF#8, 0xFF#8, 0xFF#8, 0xFF#8]

def Line.routeBytes : Line → List Byte
  | .route r | .sign r _ | .onBoard _ _ _ r _ _ => r.encode
  | _ => noRoutePart

def Line.category : Line → Byte
  | .onBoard c _ _ _ _ _ | .now c _ _ _ _ | .next c _ _ _ _ => c.code
  | _ => 0xFF#8

def Line.moved : Line → Byte
  | .onBoard _ m _ _ _ _ | .next _ m _ _ _ => flagByte m
  | _ => 0x00#8

def Line.times : Line → List Byte
  | .onBoard _ _ st _ _ _ | .next _ _ st _ _ => be2 st ++ opt2 none
  | .now _ st en _ _ => be2 st ++ be2 en
  | _ => opt2 none ++ opt2 none

def Line.messageByte : Line → Byte
  | .message c => c.code
  | _ => 0xFF#8

def Line.text : Line → Text
  | .sign _ t | .onBoard _ _ _ _ t _ | .now _ _ _ t _ | .next _ _ _ t _ | .name t _ | .notice t _ | .parked t _ => t
  | _ => []

/-- One line, every field of the layout (R204). -/
def Line.encode (x : Line) : List Byte :=
  x.code :: x.routeBytes ++ x.category :: x.moved :: x.times ++ x.messageByte :: encodeText x.text ++ encodeText x.second

/-- The card record (R204). -/
def Card.encode (c : Card) : List Byte :=
  [c.kind.code, byte c.primary, opt1 c.secondary, phaseByte c.phase, c.marks.code, c.badge.code] ++ be3 c.badge.number ++
    encodeText c.badge.label ++ encodeList Line.encode c.lines

/-! ## Panel-bus frames (R203) -/

def BusFrame.kindByte : BusFrame → Byte
  | .sweepOpen => 0x01
  | .presence => 0x02
  | .bit _ => 0x03
  | .assign _ _ => 0x04
  | .mute _ => 0x05
  | .drop _ => 0x06
  | .sweepClose => 0x07
  | .busReset => 0x08
  | .card _ _ _ => 0x09
  | .poll _ => 0x0A

/-- 0 for broadcast. -/
def BusFrame.address : BusFrame → Nat
  | .card a _ _ | .poll a => a
  | _ => 0

def BusFrame.payload : BusFrame → List Byte
  | .bit k => [byte k]
  | .assign i a => be6 i.toNat ++ [byte a]
  | .mute i | .drop i => be6 i.toNat
  | .card _ t c => flagByte t :: c.encode
  | _ => []

/-- Offsets 1 to 4 + payload length, over which the check is taken. -/
def checkedBytes (addr : Nat) (kind : Byte) (payload : List Byte) : List Byte :=
  byte addr :: kind :: be2 payload.length ++ payload

/-- A whole panel-bus frame. -/
def frameBytes (addr : Nat) (kind : Byte) (payload : List Byte) : List Byte :=
  0xC3#8 :: checkedBytes addr kind payload ++ [crc8 (checkedBytes addr kind payload)]

def BusFrame.encode (f : BusFrame) : List Byte := frameBytes f.address f.kindByte f.payload

end Sys2Proof.Machine
end

