-- ==== Sys2Proof/Machine/AnswerFormat.lean ====
section
/-! DEFINITION. The answer frame as bytes (R202): status, reason, subject and the results of each request in the
order its rule lists them. An absent result takes the absent value of its type (R200). Where R200 to R202 leave a
layout open (a card or a notice that may be absent, a state with its own fields), log 18 says what is chosen. -/

namespace Sys2Proof.Machine

/-- 00h to 0Bh (R202). -/
def Status.code : Status → Byte
  | .ok => 0x00
  | .accepted => 0x01
  | .busy => 0x02
  | .denied => 0x03
  | .state => 0x04
  | .badField => 0x05
  | .notFound => 0x06
  | .exists => 0x07
  | .full => 0x08
  | .unknownKind => 0x09
  | .taken => 0x0A
  | .incomplete => 0x0B

/-- 01h to 0Fh (R202). -/
def Reason.code : Reason → Byte
  | .length => 0x01
  | .reference => 0x02
  | .zoneStation => 0x03
  | .selfLoop => 0x04
  | .venueNode => 0x05
  | .doorNode => 0x06
  | .cabinNumber => 0x07
  | .duplicateIdentity => 0x08
  | .signVenues => 0x09
  | .sameEdge => 0x0A
  | .notCrew => 0x0B
  | .zoneMismatch => 0x0C
  | .times => 0x0D
  | .expiry => 0x0E
  | .range => 0x0F

def RecordKind.position : RecordKind → Nat
  | .node => 0
  | .edge => 1
  | .zone => 2
  | .station => 3
  | .venue => 4
  | .portal => 5
  | .cabin => 6
  | .placement => 7

/-- Subject kind, then subject index (R202). -/
def Subject.encode : Subject → List Byte
  | .none => 0x00#8 :: be2 0
  | .position n => 0x01#8 :: be2 n
  | .record k i => byte (2 + k.position) :: be2 i

/-! ## Fields -/

/-- A field behind a presence byte, absent or UNSET as 00h (R200). -/
def present2 : Option Nat → List Byte
  | some n => 0x01#8 :: be2 n
  | none => [0x00#8]

/-- A record of many fields that may be absent: present or not, then its fields (log 18). -/
def presentOrNot {α : Type} (f : α → List Byte) : Option α → List Byte
  | some a => 0x01#8 :: f a
  | none => [0x00#8]

/-- `n` one-byte fields, each FFh when they are absent (R200). -/
def orAbsentBytes {α : Type} (n : Nat) (f : α → List Byte) : Option α → List Byte
  | some a => f a
  | none => List.replicate n 0xFF#8

def Location.encode : Location → Byte
  | .node n => byte n
  | .remote => 0xFF#8

def identityBytes (i : Option Identity) : List Byte := be6 (i.getD 0#48).toNat

def EdgeClass.code : EdgeClass → Byte
  | .corridor => 0
  | .stair => 1
  | .lift => 2
  | .crew => 3

def PortalClass.code : PortalClass → Byte
  | .stair => 0
  | .lift => 1

def Role.code : Role → Byte
  | .door _ => 0
  | .corridor _ => 1
  | .venue _ => 2

/-- Cabin, venue and signs of a placement; the fields of other roles at their absent values. -/
def Role.fields : Role → List Byte
  | .door c => [byte c, 0xFF#8, 0x00#8]
  | .corridor vs => [0xFF#8, 0xFF#8] ++ encodeList (fun v => [byte v]) vs
  | .venue v => [0xFF#8, byte v, 0x00#8]

/-- A record's fields in the order PLAN WRITE carries them. -/
def Record.encode : Record → List Byte
  | .node r => [byte r.zone, opt1 r.venue]
  | .edge r => [byte r.a, byte r.b, r.cls.code] ++ be2 r.length ++ [byte r.bearing, byte r.zone]
  | .zone r => [byte r.station]
  | .station r => encodeText r.label ++ [r.loc.encode]
  | .venue r => encodeText r.label ++ [r.loc.encode]
  | .portal r => [byte r.node, r.cls.code, byte r.bearing]
  | .cabin r => be3 r.number ++ [byte r.door, byte r.station]
  | .placement r => [r.role.code, byte r.node, byte r.facing] ++ r.role.fields ++ identityBytes r.expected

def Condition.code : Condition → Byte
  | .openEdge => 0
  | .crowded => 1
  | .smoke => 2
  | .closed => 3

def Profile.code : Profile → Byte
  | .safety => 0
  | .normal => 1

def DestKind.code : DestKind → Byte
  | .station => 0
  | .venue => 1

def Origin.code : Origin → Byte
  | .station => 0
  | .sign => 1
  | .programme => 2

/-- Form, then index or absent. -/
def Hop.encode : Hop → List Byte
  | .none => [0x00#8, 0xFF#8]
  | .here => [0x01#8, 0xFF#8]
  | .portal i => [0x02#8, byte i]
  | .edge i => [0x03#8, byte i]

def Dest.encode (d : Dest) : List Byte := [d.kind.code, byte d.index, d.loc.encode, d.origin.code]

def EditState.code : EditState → Byte
  | .closed => 0
  | .editing => 1
  | .committing => 2

/-- IDLE 0, then the write kinds in the order of R25. -/
def activityCode : Option WriteKind → Byte
  | none => 0
  | some .commit => 1
  | some .bind => 2
  | some .fixedDetour => 3
  | some .latchSet => 4
  | some .latchClear => 5
  | some .settings => 6

def EventState.code : EventState → Byte
  | .scheduled => 0
  | .running => 1
  | .ended => 2
  | .cancelled => 3

def RunState.code : RunState → Byte
  | .running => 0
  | .held => 1

def Titles.encode (t : Titles) : List Byte := present2 t.t0 ++ present2 t.t1 ++ present2 t.t2 ++ present2 t.t3

def Event.encode (id : Nat) (e : Event) : List Byte :=
  be2 id ++ byte e.venue :: present2 (some e.start) ++ present2 (some e.stop) ++ e.category.code :: e.titles.encode ++
    [e.state.code, flagByte e.moved]

/-- UNKNOWN is 02h (R200). -/
def Aboard.encode : Aboard → List Byte
  | .unknown => [0x02#8]
  | .count n => [0x01#8, byte n]

def Vacated.code : Vacated → Byte
  | .no => 0
  | .guest => 1
  | .crew => 2

/-- Language, do-not-disturb and service stand without a presence byte: each always has a value (log 18). -/
def CabinState.encode (c : CabinState) : List Byte :=
  c.aboard.encode ++ byte c.language :: present2 c.name ++ [flagByte c.dnd, flagByte c.service, opt1 c.stationOverride, c.vacated.code]

/-- State, then stand-down phase or absent. -/
def MusterState.encode : MusterState → List Byte
  | .quiet => [0x00#8, 0xFF#8]
  | .alert => [0x01#8, 0xFF#8]
  | .muster => [0x02#8, 0xFF#8]
  | .standdown .holding => [0x03#8, 0x00#8]
  | .standdown .clearing => [0x03#8, 0x01#8]

/-- SET 0, CLEAR 1; none is read as an absent value, FFh, and not as a third position of the list of R93 (R93, R200; the model's
choice, DESIGN CHOICE, unsafe: log 18). -/
def latchWriteCode : Option LatchWrite → Byte
  | none => 0xFF#8
  | some (.set _) => 0
  | some .clear => 1

def OverdueTimer.encode : OverdueTimer → List Byte
  | .stopped => 0x00#8 :: opt2 none
  | .running n => 0x01#8 :: be2 n
  | .expired => 0x02#8 :: opt2 none

/-- STOPPED 0, RUNNING 1 with its time. -/
def timerBytes : Option Nat → List Byte
  | none => 0x00#8 :: opt2 none
  | some n => 0x01#8 :: be2 n

def AlarmWatch.code : AlarmWatch → Byte
  | .idle => 0
  | .timing _ => 1
  | .given => 2

def Stranded.encode : Stranded → List Byte
  | .placement i st => [0x00#8, byte i, byte st]
  | .cabin i st => [0x01#8, byte i, byte st]

def linkCode : LinkId → Byte
  | .safety => 0
  | .hotel => 1

/-- Target kind and target as POST NOTICE carries them (R201). -/
def Target.encode : Target → List Byte
  | .wholeSection => 0x00#8 :: be3 0
  | .placement p => 0x01#8 :: be3 p
  | .cabin n => 0x02#8 :: be3 n
  | .zone z => 0x03#8 :: be3 z

/-- The fields of R133, the slot first. -/
def Notice.encode (slot : Nat) (n : Notice) : List Byte :=
  byte slot :: linkCode n.origin :: n.target.encode ++ present2 (some n.text) ++ flagByte n.urgent :: present2 n.expiry ++ present2 n.posted

def HeldCause.code : HeldCause → Byte
  | .noReply => 0
  | .refreshTimeout => 1
  | .displayFault => 2

/-- FREE 0, PLACED 1, ORPHAN 2, HELD 3 (R143). -/
def RecState.code : RecState → Byte
  | .free => 0
  | .placed _ => 1
  | .orphan => 2
  | .held _ _ => 3

/-- The prior state of a HELD record or absent. PLACED and ORPHAN keep the positions of the State list, where R143 gives them
first (the model's choice: log 18). -/
def RecState.priorByte : RecState → Byte
  | .held (some _) _ => 0x01
  | .held none _ => 0x02
  | _ => 0xFF

def RecState.causeByte : RecState → Byte
  | .held _ c => c.code
  | _ => 0xFF

/-- State, prior state, held cause (R161). -/
def RecState.encode (x : RecState) : List Byte := [x.code, x.priorByte, x.causeByte]

def ContentClass.code : ContentClass → Byte
  | .safety => 0
  | .notice => 1
  | .duty => 2
  | .parked => 3

def Cause.code : Cause → Byte
  | .press => 0
  | .other => 1

def Recompose.encode : Recompose → List Byte
  | .clear => [0x00#8, 0x00#8]
  | .set p _ => [0x01#8, flagByte p]

def PanelKind.code : PanelKind → Byte
  | .epaper => 0
  | .lcd => 1

def Capability.encode (c : Capability) : List Byte := [c.panel.code, byte c.capacity, byte c.lines, byte c.firmware]

def SweepCause.code : SweepCause → Byte
  | .startUp => 0
  | .automatic => 1
  | .request => 2
  | .segmentReset => 3

def SweepPhase.code : SweepPhase → Byte
  | .opening => 0
  | .presence => 1
  | .isolation _ _ => 2
  | .check _ _ _ => 3
  | .assign _ _ _ => 4

/-- Activity, phase or absent, cause or absent. -/
def SweepActivity.encode : SweepActivity → List Byte
  | .idle => [0x00#8, 0xFF#8, 0xFF#8]
  | .waiting c => [0x01#8, 0xFF#8, c.code]
  | .sweeping c p => [0x02#8, p.code, c.code]

def StepCode.code : StepCode → Byte
  | .noneLeft => 0
  | .checkFailed => 1
  | .noAssignReply => 2
  | .full => 3
  | .complete => 4

def LastSweep.encode (x : LastSweep) : List Byte := [x.cause.code, x.code.code, byte x.enrolled, byte x.muted]

def Turn.code : Turn → Byte
  | .card => 0
  | .poll => 1

/-- None 0, card 1, poll 2, the positions in R162's list of the exchange in flight, with its address or absent. R182 asks for the
kind and the address, and CARD 0 and POLL 1 of R162's turn with FFh for none are as possible (R200; the model's choice, DESIGN
CHOICE, unsafe: log 18). -/
def exchangeBytes : Option Exchange → List Byte
  | none => [0x00#8, 0xFF#8]
  | some (.card a) => [0x01#8, byte a]
  | some (.poll a) => [0x02#8, byte a]

def QueueStanding.code : QueueStanding → Byte
  | .ready => 0
  | .busy => 1
  | .noCredit => 2

def QueueItem.encode (x : QueueItem) : List Byte := [byte x.addr, x.cls.code, x.cause.code, x.standing.code]

def GuestKind.code : GuestKind → Byte
  | .dndOn => 0
  | .dndOff => 1
  | .service => 2

def GuestEntry.encode (e : GuestEntry) : List Byte :=
  be3 e.cabin ++ e.kind.code :: present2 e.minute ++ [flagByte e.lostEarlier]

def sourceBytes (xs : List Source) : List Byte := encodeList (fun x => [byte x.code]) xs

/-- The enable mask: each source of the link's list with its enable, as SET ATTENTION MASK carries them (R201; the model's choice:
log 18). -/
def enableBytes (xs : List (Source × Bool)) : List Byte := encodeList (fun x => [byte x.1.code, flagByte x.2]) xs

def LinkState.code : LinkState → Byte
  | .live => 0
  | .lost => 1

/-- Time remaining on a silence timer; absent while it does not run (R199, R200). -/
def SilenceTimer.encode : SilenceTimer → List Byte
  | .running n => be2 n
  | .held | .stopped => opt2 none

def OpKind.code : OpKind → Byte
  | .planCommit => 0
  | .bind => 1
  | .fixedDetour => 2
  | .sweep => 3
  | .settings => 4

def segByte (g : Seg) : Byte := byte g.val

def OpEntry.encode (e : OpEntry) : List Byte := [e.kind.code, e.tag, opt1 (e.seg.map fun g => g.val)]

def DetourFields.encode (f : DetourFields) : List Byte := [byte f.zone, byte f.blocked, byte f.opened]

/-- The kind of the settings request, and the values stored. -/
def SettingsWrite.encode : SettingsWrite → List Byte
  | .timers o h => [0x21#8, byte o, byte h]
  | .silence _ n => [0x4A#8, byte n]

def OpOutcome.encode : OpOutcome → List Byte
  | .commit n => be2 n
  | .bind p i r => byte p :: be6 i.toNat ++ [opt1 (r.map fun x => x.1.val), opt1 (r.map fun x => x.2)]
  | .fixedDetour f => f.encode
  | .sweep g c e m => [segByte g, c.code, byte e, byte m]
  | .settings w => w.encode

def OpDone.encode (d : OpDone) : List Byte := [d.kind.code, d.tag] ++ d.outcome.encode

/-- The last completed operation; an absent one is its kind's absent value alone (log 18). -/
def lastDoneBytes : Option OpDone → List Byte
  | some d => d.encode
  | none => [0xFF#8]

/-! ## Results -/

def LinkStatusResult.encode (r : LinkStatusResult) : List Byte :=
  [r.safety.code, r.hotel.code, byte r.safetyTimeout, byte r.hotelTimeout] ++ r.silence.encode ++ enableBytes r.enables ++
    sourceBytes r.pending

def countBytes (cs : List Nat) : List Byte := cs.map byte

def PlanStatusResult.encode (r : PlanStatusResult) : List Byte :=
  [r.edit.code, flagByte r.hasPlan] ++ be2 r.serial ++ countBytes r.activeCounts ++ orAbsentBytes 8 countBytes r.shadowCounts ++
    [activityCode r.writing, flagByte r.latchWaiting]

def Detour.encode (d : Detour) : List Byte := [if d.fixed then 0x02#8 else 0x01#8, byte d.blocked, byte d.opened]

/-- NONE 0, SOFT 1, FIXED 2, with its edges or absent. -/
def slotBytes : Option Detour → List Byte
  | none => [0x00#8, 0xFF#8, 0xFF#8]
  | some d => d.encode

/-- Cost and walked length; FFFFh twice for an absent entry. -/
def remainderBytes (r : Option Remainder) : List Byte := opt2 (r.map (·.cost)) ++ opt2 (r.map (·.walked))

/-- A condition; UNDEFINED is the absent value of an enumeration, FFh (R44 and R200 give it no code, the model's choice: log 18). -/
def conditionByte : Option Condition → Byte
  | some c => c.code
  | none => 0xFF#8

/-- The destination list, then a flag for each of its entries (R67). -/
def RouteStatusResult.encode (r : RouteStatusResult) : List Byte :=
  [r.profile.code, flagByte r.computing, flagByte r.pending] ++ be2 r.number ++
    (match r.published with
      | some x => x.1.code :: be2 x.2
      | none => 0xFF#8 :: be2 0) ++ encodeList (fun x => Dest.encode x.1) r.dests ++ encodeList (fun x => [flagByte x.2]) r.dests

def RouteResult.encode (r : RouteResult) : List Byte := be2 r.dist ++ be2 r.walked ++ r.hop.encode

/-- Minute behind its presence byte, seconds, run state, local time; absent values while the clock is UNSET. -/
def clockBytes : Option (Clock × Nat) → List Byte
  | some x => present2 (some x.1.minute) ++ [byte x.1.seconds, x.1.run.code] ++ be2 x.2
  | none => present2 none ++ [0xFF#8, 0xFF#8] ++ opt2 none

def ProgrammeStatusResult.encode (r : ProgrammeStatusResult) : List Byte :=
  clockBytes r.clock ++ beSigned2 r.offset ++ [byte r.lookahead, byte r.primary, byte r.secondary] ++
    countBytes [r.scheduled, r.running, r.ended, r.cancelled] ++ be2 r.texts ++ encodeList (fun v => [byte v]) r.programme ++
    be2 (r.onBoard.getD 0) ++ r.venues.flatMap fun v => be2 (v.now.getD 0) ++ be2 (v.next.getD 0)

def CabinReadResult.encode (r : CabinReadResult) : List Byte :=
  [byte r.index, byte r.door, byte r.defaultStation] ++ r.cabin.encode ++ [byte r.station, flagByte r.counted]

def OutstandingResult.encode (r : OutstandingResult) : List Byte :=
  countBytes [r.occupied, r.vacated, r.outstanding] ++ be2 r.serial ++ encodeList be3 r.cabins

/-- The list has up to 352 entries: its length takes 2 bytes (log 18). -/
def StrandedResult.encode (r : StrandedResult) : List Byte :=
  be2 r.length ++ be2 r.generation ++ encodeList Stranded.encode r.entries

def tallyBytes (c : Nat × Nat × Nat) : List Byte := [byte c.1, byte c.2.1, byte c.2.2]

def MusterStatusResult.encode (r : MusterStatusResult) : List Byte :=
  r.state.encode ++
    [flagByte r.drill, flagByte r.latchCopy.set, flagByte r.latchCopy.drill, latchWriteCode r.latchInFlight,
      latchWriteCode r.latchWaiting] ++
    r.overdue.encode ++ timerBytes r.hold ++ [byte r.overdueTime, byte r.holdTime, flagByte r.line, r.watch.code] ++
    r.counts.flatMap tallyBytes ++ be2 r.serial ++ be2 r.strandedLength ++ be2 r.strandedGen

def classBytes (x : ContentClass × CardKind) : List Byte := [x.1.code, x.2.code]

def CardReadResult.encode (r : CardReadResult) : List Byte :=
  r.state.code :: orAbsentBytes 2 classBytes r.cls ++ presentOrNot Card.encode r.front ++
    presentOrNot (fun c : StoredCard => c.card.encode) r.back ++
    orAbsentBytes 2 (fun c : StoredCard => [c.cls.code, c.cause.code]) r.back ++ [flagByte r.inQueue, flagByte r.inTransit] ++ r.recompose.encode

/-- Each slot: occupied or not, then its notice and the number of records it targets; the instructions; the parked texts. -/
def NoticeReadResult.encode (r : NoticeReadResult) : List Byte :=
  (r.slots.zipIdx.flatMap fun y => presentOrNot (fun x : Notice × Nat => x.1.encode y.2 ++ [byte x.2]) y.1) ++
    (r.instructions.map fun c => match c with
      | some x => x.code
      | none => 0xFF#8) ++
    r.parked.flatMap present2

def DisplayReadResult.encode (r : DisplayReadResult) : List Byte :=
  r.state.encode ++ identityBytes r.identity ++ orAbsentBytes 4 Capability.encode r.capability ++ [opt1 r.placement] ++
    be3 (r.cabin.getD 0) ++ [opt1 r.credits, byte r.attempts, flagByte r.busy, flagByte r.toggle, flagByte r.inQueue]

def SegmentStatusResult.encode (r : SegmentStatusResult) : List Byte :=
  r.activity.encode ++ [flagByte r.again, flagByte r.outstanding] ++ timerBytes r.autoTimer ++
    orAbsentBytes 4 LastSweep.encode r.lastSweep ++ countBytes [r.free, r.placed, r.orphan, r.held, r.queueLength]

def QueueReadResult.encode (r : QueueReadResult) : List Byte :=
  encodeList QueueItem.encode r.items ++ r.turn.code :: exchangeBytes r.exchange ++ [byte r.rotation] ++
    countBytes [r.inbound, r.reservations, r.guests] ++ [flagByte r.overflow, flagByte r.lossNote] ++ be2 r.refill

def eventLine (x : Nat × Event) : List Byte :=
  be2 x.1 ++ byte x.2.venue :: present2 (some x.2.start) ++ present2 (some x.2.stop) ++ [x.2.state.code, flagByte x.2.moved]

/-- The detail of an answer (R202). ROUTE READ gives its results, then the generation number and profile that both forms carry
(R68); the outcome of a lookup stands in the five bytes and codes of R204 (the model's choice: log 18). -/
def Detail.encode : Detail → List Byte
  | .empty => []
  | .steps n => [byte n]
  | .refusal none x => 0x00#8 :: x.encode
  | .refusal (some r) x => r.code :: x.encode
  | .slot n => [byte n]
  | .guestRequests es o n => encodeList GuestEntry.encode es ++ [flagByte o, byte n]
  | .planRecord r => r.encode
  | .attention c xs => byte c :: sourceBytes xs
  | .timers o h => [byte o, byte h]
  | .timeout n => [byte n]
  | .lastOperation es d => encodeList OpEntry.encode es ++ lastDoneBytes d
  | .linkStatus r => r.encode
  | .planStatus r => r.encode
  | .conditions cs => encodeList (fun c => [conditionByte c]) cs
  | .detours slots w => slots.flatMap slotBytes ++ flagByte w.isSome :: orAbsentBytes 3 DetourFields.encode w
  | .remainders rs => rs.flatMap remainderBytes
  | .routeStatus r => r.encode
  | .routeNodes n p rs => encodeList RouteResult.encode rs ++ be2 n ++ [p.code]
  | .routePlacement n p r => r.encode ++ be2 n ++ [p.code]
  | .programmeStatus r => r.encode
  | .event id e => e.encode id
  | .events es m => encodeList eventLine es ++ [flagByte m]
  | .text t => encodeText t
  | .cabin r => r.encode
  | .outstanding r => r.encode
  | .stranded r => r.encode
  | .musterStatus r => r.encode
  | .card r => r.encode
  | .notices r => r.encode
  | .display r => r.encode
  | .segment r => r.encode
  | .queue r => r.encode

/-- Tag, kind, status and detail. -/
def Answer.content (a : Answer) : List Byte := [a.tag, a.kind, a.reply.status.code] ++ a.reply.detail.encode

def Answer.checked (a : Answer) : List Byte := be2 a.content.length ++ a.content

/-- The answer frame (R202): start byte, 2-byte length, content, CRC-16. -/
def Answer.encode (a : Answer) : List Byte := 0x5A#8 :: a.checked ++ be2 (crc16 a.checked).toNat

end Sys2Proof.Machine
end

