-- ==== Sys2Proof/Machine/ReplyFormat.lean ====
section
/-! DEFINITION. The displays' replies as bytes (R203): their layout, how the part reads a frame it receives, and the command
that a reply stands for. A frame that counts as no answer stands for none; the reply timeout follows it (log 13). -/

namespace Sys2Proof.Machine

/-- Frames 81h to 85h (R203). The bytes of a capability reply and of a REPORT are as they stand on the wire: R153 and R176 say
how the part takes them. -/
inductive PanelReply where
  | capability (identity : Identity) (panel capacity lines firmware : Byte)
  | ack
  | nak
  | nothing
  | report (kind code overrun : Byte)
  deriving DecidableEq, Repr

def PanelReply.kindByte : PanelReply → Byte
  | .capability _ _ _ _ _ => 0x81
  | .ack => 0x82
  | .nak => 0x83
  | .nothing => 0x84
  | .report _ _ _ => 0x85

def PanelReply.payload : PanelReply → List Byte
  | .capability i p c l f => be6 i.toNat ++ [p, c, l, f]
  | .report k c o => [k, c, o]
  | _ => []

/-- The reply frame of the display at an address; 0 in a capability reply. -/
def PanelReply.encode (r : PanelReply) (addr : Nat) : List Byte := frameBytes addr r.kindByte r.payload

/-- The reply of a kind and payload; `none` for a kind that is no reply and for a payload of another length (log 13). -/
def replyOf (kind : Byte) (payload : List Byte) : Option PanelReply :=
  match kind.toNat, payload with
  | 0x81, [a, b, c, d, e, f, p, cap, l, fw] => some (.capability (a ++ b ++ c ++ d ++ e ++ f) p cap l fw)
  | 0x82, [] => some .ack
  | 0x83, [] => some .nak
  | 0x84, [] => some .nothing
  | 0x85, [k, c, o] => some (.report k c o)
  | _, _ => none

/-- The fields of a frame after its start byte, with its check; `none` when start, length or check is not as R203 gives. -/
def readFrame : List Byte → Option (Byte × Byte × List Byte)
  | start :: addr :: kind :: h :: l :: rest =>
    let n := read2 h l
    let payload := rest.take n
    if start = 0xC3#8 ∧ n ≤ 1200 ∧ rest = payload ++ [crc8 (checkedBytes addr.toNat kind payload)] ∧ payload.length = n then
      some (addr, kind, payload)
    else none
  | _ => none

/-- The address and reply of a received frame. -/
def readReply (frame : List Byte) : Option (Byte × PanelReply) :=
  match readFrame frame with
  | some (addr, kind, payload) => (replyOf kind payload).map fun r => (addr, r)
  | none => none

/-- The command a received frame stands for on segment `g`. NAK is the answer to a card or to a poll as the exchange in flight
is. A frame that does not read as a reply counts as no answer (R203). -/
def replyCommand (s : State) (g : Seg) (frame : List Byte) : Option Instr :=
  match readReply frame with
  | some (addr, .capability i p c l f) => some (.capabilityReply g addr.toNat i p c l f)
  | some (addr, .ack) => some (.ack g addr.toNat)
  | some (addr, .nak) =>
    match (s.seg g).exchange with
    | some (.poll _) => some (.pollNak g addr.toNat)
    | _ => some (.nak g addr.toNat)
  | some (addr, .nothing) => some (.pollNone g addr.toNat)
  | some (addr, .report k c o) => some (.report g addr.toNat k c o)
  | none => none

end Sys2Proof.Machine
end

