-- ==== Sys2Proof/Machine/Display.lean ====
section
/-! DEFINITION. The display's side of the panel bus (R147, R168, R176). A display is another unit on the bus: it is
no part of the part's State (log 23). These functions say how one display answers the part's frames, so that a
statement about the two sides together can be made. -/

namespace Sys2Proof.Machine

/-- Sweep states of a display (R147). -/
inductive SweepState where
  | unaddressed | participant | stoodBack
  | addressed (addr : Nat)
  | muted
  deriving DecidableEq, Repr

/-- One display: identity, the four bytes of its capability record, sweep state, the card it shows, its expected toggle, whether
it is drawing, its report queue of up to 2 (oldest first) and its overrun mark (R147, R153, R168, R176). -/
structure DisplayUnit where
  identity : Identity
  panel : Byte
  capacity : Byte
  lines : Byte
  firmware : Byte
  sweep : SweepState
  shown : Option Card
  toggle : Bool
  drawing : Bool
  notify : Bool
  reports : List ReportKind
  overrun : Bool
  deriving DecidableEq, Repr

/-- Panel kind EPAPER 0 (R203); any other is taken as LCD (R153). -/
def DisplayUnit.epaper (d : DisplayUnit) : Bool := d.panel == 0#8

/-- A display that powers up (R147). -/
def DisplayUnit.powerUp (i : Identity) (panel capacity lines firmware : Byte) : DisplayUnit :=
  { identity := i, panel := panel, capacity := capacity, lines := lines, firmware := firmware, sweep := .unaddressed,
    shown := none, toggle := false, drawing := false, notify := false, reports := [], overrun := false }

/-- Bits 1..48 are the identity, most significant first; bits 49..56 its check bits (R147). -/
def displayBit (i : Identity) (k : Nat) : Bool :=
  if k ≤ 48 then i.getMsbD (k - 1) else (identityCheck i).getMsbD (k - 49)

/-- Does the display drive the line in the window of this frame? (R147) -/
def DisplayUnit.drives (d : DisplayUnit) : BusFrame → Bool
  | .presence => d.sweep == .participant || d.sweep == .stoodBack
  | .bit k => d.sweep == .participant && displayBit d.identity k
  | _ => false

/-- May an ASSIGN of its identity be taken? -/
def SweepState.assignable : SweepState → Bool
  | .participant | .stoodBack | .unaddressed => true
  | _ => false

/-- Is an ASSIGN of this identity for this display, and does it take it? (R147) -/
def DisplayUnit.takesAssign (d : DisplayUnit) (i : Identity) : Bool := i == d.identity && d.sweep.assignable

/-- A report enters the display's queue; one that finds it full is lost (R176). -/
def DisplayUnit.enqueue (d : DisplayUnit) (r : ReportKind) : DisplayUnit :=
  if d.reports.length < 2 then { d with reports := d.reports ++ [r] } else { d with overrun := true }

/-- A card is drawn: an e-paper display is drawing until its redraw ends, an LCD draws at once. -/
def DisplayUnit.draw (d : DisplayUnit) (c : Card) : DisplayUnit :=
  { d with shown := some c, drawing := d.epaper, notify := d.epaper }

/-- No redraw is needed: an e-paper display reports at once. -/
def DisplayUnit.keepCard (d : DisplayUnit) : DisplayUnit := if d.epaper then d.enqueue .refreshDone else d

/-- A CARD frame sent to this display (the table of R168). -/
def DisplayUnit.takeCard (d : DisplayUnit) (toggle : Bool) (c : Card) : DisplayUnit × PanelReply :=
  if d.drawing then ({ d with notify := true }, .nak)
  else if toggle = d.toggle then
    let t := { d with toggle := !d.toggle }
    (t.draw c, .ack)
  else if d.shown = some c then (d.keepCard, .ack)
  else (d.draw c, .ack)

/-- A redraw ends: the display is ready and reports it (R168, R176). -/
def DisplayUnit.redrawEnds (d : DisplayUnit) : DisplayUnit :=
  let t := { d with drawing := false, notify := false }
  if d.drawing && d.notify then t.enqueue .refreshDone else t

def PressCode.code : PressCode → Byte
  | .vacated => 0
  | .dnd => 1
  | .service => 2

/-- The REPORT that carries a report and the overrun mark (R203). -/
def ReportKind.reply (overrun : Bool) : ReportKind → PanelReply
  | .press c => .report 0 c.code (flagByte overrun)
  | .refreshDone => .report 1 0 (flagByte overrun)
  | .fault n => .report 2 (byte n) (flagByte overrun)

/-- A POLL frame sent to this display (R176). -/
def DisplayUnit.takePoll (d : DisplayUnit) : DisplayUnit × PanelReply :=
  if d.drawing then (d, .nak)
  else
    match d.reports with
    | [] => (d, .nothing)
    | r :: rest => ({ d with reports := rest, overrun := false }, r.reply d.overrun)

/-- The display after a frame of the part, `line` saying whether the line was driven in the frame's window (the table of R147).
CARD and POLL are for the display ADDRESSED there alone. -/
def DisplayUnit.hear (d : DisplayUnit) (line : Bool) : BusFrame → DisplayUnit
  | .sweepOpen => if d.sweep = .unaddressed then { d with sweep := .participant } else d
  | .presence => if d.sweep = .stoodBack then { d with sweep := .participant } else d
  | .bit k =>
    if d.sweep = .participant ∧ displayBit d.identity k = false ∧ line = true then { d with sweep := .stoodBack } else d
  | .assign i a => if d.takesAssign i then { d with sweep := .addressed a, toggle := false } else d
  | .mute i => if i = d.identity then { d with sweep := .muted } else d
  | .drop i => if i = d.identity then { d with sweep := .unaddressed } else d
  | .sweepClose => if d.sweep = .participant ∨ d.sweep = .stoodBack then { d with sweep := .unaddressed } else d
  | .busReset => { d with sweep := .unaddressed, toggle := false }
  | .card a toggle c => if d.sweep = .addressed a then (d.takeCard toggle c).1 else d
  | .poll a => if d.sweep = .addressed a then d.takePoll.1 else d

/-- The reply of the display to a frame of the part: its capability record to an ASSIGN it takes, and the answer of the display
ADDRESSED there to CARD and POLL. Every other frame gets none (R147, R168, R176, R203). -/
def DisplayUnit.reply (d : DisplayUnit) : BusFrame → Option PanelReply
  | .assign i _ => if d.takesAssign i then some (.capability d.identity d.panel d.capacity d.lines d.firmware) else none
  | .card a toggle c => if d.sweep = .addressed a then some (d.takeCard toggle c).2 else none
  | .poll a => if d.sweep = .addressed a then some d.takePoll.2 else none
  | _ => none

end Sys2Proof.Machine
end

