-- ==== Sys2Proof/Safety.lean ====
section
/-! DEFINITION. The terms in which claims are made: what of the state a command leaves alone, when a request is taken,
and the invariants of the machine. -/

namespace Sys2Proof.Machine

/-! ## Frames -/

/-- The parts of the state, one per block, register group or queue. -/
inductive Part where
  | store | plan | cond | route | prog | muster | resolver | dir | segs | bus | ports | alarmLine | freeCount | pending
  deriving DecidableEq, Repr

/-- Part `p` is the same in `s` and `t`. -/
def Part.same (s t : State) : Part → Prop
  | .store => t.store = s.store
  | .plan => t.plan = s.plan
  | .cond => t.cond = s.cond
  | .route => t.route = s.route
  | .prog => t.prog = s.prog
  | .muster => t.muster = s.muster
  | .resolver => t.resolver = s.resolver
  | .dir => t.dir = s.dir
  | .segs => t.segs = s.segs
  | .bus => t.bus = s.bus
  | .ports => t.ports = s.ports
  | .alarmLine => t.alarmLine = s.alarmLine
  | .freeCount => t.freeCount = s.freeCount
  | .pending => t.pending = s.pending

/-- `t` is `s` but for the parts listed. The frames sent (`sent`) are the step's output and no register. -/
structure SameBut (ps : List Part) (s t : State) : Prop where
  keeps : ∀ p : Part, p ∉ ps → p.same s t

/-- The condition table but for the confirm sequence (R36). -/
def sameConditions (s t : State) : Prop :=
  t.cond = { s.cond with progress := t.cond.progress, fields := t.cond.fields }

/-- Every segment and record but `g` and the records of `g` are as before. -/
def otherSegmentsSame (g : Seg) (s t : State) : Prop :=
  (∀ h, h ≠ g → t.seg h = s.seg h) ∧ ∀ k, keySeg k ≠ g → t.display k = s.display k

/-! ## Addresses of records (R143) -/

/-- An address a record can have (R143). -/
def isAddress (a : Nat) : Prop := 1 ≤ a ∧ a ≤ 48

/-- Addresses held in sweeps and exchanges, and keys of the directory, name records (R143). -/
def addressesValid (s : State) : Prop :=
  Table.wf s.dir = true ∧
  (∀ k d, (k, d) ∈ s.dir → k < 256 ∧ isAddress (keyAddr k)) ∧
  ∀ g c i a n, (s.seg g).activity = .sweeping c (.assign i a n) → isAddress a

/-! ## What composition may change (R138 to R141) -/

/-- Two display records that differ in their cards, recompose mark and text ids alone; a FREE one does not differ. -/
def cardsOnly (a b : Display) : Prop :=
  b = { a with buffers := b.buffers, recompose := b.recompose, looked := b.looked } ∧ (a.state = .free → b = a)

/-- Two segments that differ in the refresh queue alone. -/
def queueOnly (a b : Segment) : Prop := b = { a with queue := b.queue }

/-- Display records and segments differ as compositions may change them. -/
def composedOnly (s t : State) : Prop :=
  (∀ k, cardsOnly (s.display k) (t.display k)) ∧ ∀ g, queueOnly (s.seg g) (t.seg g)

/-- Record `k` is composed in `t` (R121, R140, R141): with a card in transit its recompose mark is set, and else the card it will
show is the one its content class gives in `t`, and its text ids are those this card looks up. -/
def isComposed (t : State) (k : Nat) : Prop :=
  if t.inTransit k then (t.display k).recompose ≠ .clear
  else (t.display k).shown = some (t.compose (t.display k)).2.1 ∧ (t.display k).looked = (t.compose (t.display k)).2.2

/-- `t` is `u` after a hand-off to the content resolver that named the records `p` accepts (R138). -/
def handedOff (p : Nat → Display → Bool) (u t : State) : Prop :=
  SameBut [.dir, .segs] u t ∧ composedOnly u t ∧
  ∀ k, (u.display k).state ≠ .free → if p k (u.display k) then isComposed t k else t.display k = u.display k

/-- The refresh queues after an entry into ALERT or MUSTER (R167): on every segment the records in service whose back card changed
leave their places and stand at the end, those on corridor and venue placements first, then those on doors, then those on none, each
group by address; a record in transit is noted in its recompose mark, to move at the end of its transit (log 36). -/
def entryPlaced (s t : State) : Prop :=
  ∀ g : Seg,
    let back : State → Nat → Option StoredCard := fun u a => (u.display (recKey g a)).buffers.backCard
    let group : Nat → Nat := fun a => match s.roleOf (s.display (recKey g a)) with
      | some (.door _) => 1
      | some _ => 0
      | none => 2
    (∃ placed : List Nat, (t.seg g).queue = (s.seg g).queue.filter (fun a => !placed.contains a) ++ placed ∧
      (∀ a, a ∈ placed ↔ isAddress a ∧ (s.display (recKey g a)).state.inService ∧ back t a ≠ back s a) ∧
      placed.Pairwise fun a b => group a < group b ∨ (group a = group b ∧ a < b)) ∧
    ∀ a, isAddress a → (s.seg g).exchange = some (.card a) → (s.display (recKey g a)).state ≠ .free →
      (t.display (recKey g a)).recompose = .set (match (s.display (recKey g a)).recompose with
        | .set pressed _ => pressed
        | .clear => false) true

/-- The compositions of a change that the key press of record `pressed` made, if any, have cause PRESS on that record and OTHER on
every other (R139): a new back card carries its cause, and a record in transit keeps in its mark that a press is among its causes
(R141). -/
def causesKept (pressed : Option Nat) (p : Nat → Prop) (s t : State) : Prop :=
  (∀ k x, (t.display k).buffers.backCard = some x → (s.display k).buffers.backCard ≠ some x →
    x.cause = if pressed = some k then .press else .other) ∧
  ∀ k, p k → s.inTransit k = true →
    (t.display k).recompose = match (s.display k).recompose with
      | .clear => .set (decide (pressed = some k)) false
      | .set press entry => .set (press || decide (pressed = some k)) entry

/-! ## The contents of cards (R84, R124, R132, R137) -/

/-- The lookup of a text id: in the language wanted, or else in language 0 (R84). -/
def State.found (s : State) (id lang : Nat) : Option Text :=
  (Table.get s.prog.texts (textKey id lang)).or (Table.get s.prog.texts (textKey id 0))

/-- The text of a text id and its secondary rendering, before the cut: a text not found is empty, and so is a rendering that is not
found or is the text itself (R84, R124, R132). -/
def State.rendered (s : State) (id lang : Nat) (second : Option Nat) : Text × Text :=
  let first := s.found id lang
  let other := second.bind (s.found id)
  (first.getD [], if other = first then [] else other.getD [])

/-- The characters of a line's capacity held for its parts (R124). -/
def Line.reserve : Line → Nat
  | .route _ | .sign _ _ => 10
  | .onBoard _ _ _ _ _ _ => 18
  | .now _ _ _ _ _ => 13
  | .next _ _ _ _ _ => 8
  | .name _ _ | .notice _ _ | .parked _ _ | .message _ => 0

/-- The line with another text part and secondary rendering, where it has them. -/
def Line.withTexts (t u : Text) : Line → Line
  | .route r => .route r
  | .sign r _ => .sign r t
  | .onBoard c m st r _ _ => .onBoard c m st r t u
  | .now c st en _ _ => .now c st en t u
  | .next c m st _ _ => .next c m st t u
  | .name _ _ => .name t u
  | .notice _ _ => .notice t u
  | .parked _ _ => .parked t u
  | .message c => .message c

/-- The lines `ms` are `ls` fitted to a capability (R132): text parts cut to the capacity less the reserve, secondary renderings
to the capacity; while the lines are too many a secondary rendering is removed, the last one first, and no more than it takes. -/
def linesFitted (cap : Capability) (ls ms : List Line) : Prop :=
  let cut : Line → Text := fun x => x.second.take cap.capacity
  ms.length = ls.length ∧
  (∀ (i : Nat) (x y : Line), ls[i]? = some x → ms[i]? = some y →
    y = x.withTexts (x.text.take (cap.capacity - x.reserve)) y.second ∧ (y.second = cut x ∨ y.second = [])) ∧
  (∀ (i j : Nat) (x y z : Line), i < j → ls[i]? = some x → ms[i]? = some y → ms[j]? = some z → y.second ≠ cut x → z.second = []) ∧
  lineTotal ms = max ls.length (min cap.lines (ls.length + (ls.filter fun x => cut x != []).length))

/-- Card `c` has these fields, its lines being `ls` fitted (R123, R132). -/
def cardIs (cap : Capability) (kind : CardKind) (langs : Nat × Option Nat) (badge : Badge) (marks : Marks)
    (phase : Option CardPhase) (ls : List Line) (c : Card) : Prop :=
  c = { kind := kind, primary := langs.1, secondary := langs.2, badge := badge, lines := c.lines, marks := marks, phase := phase } ∧
  linesFitted cap ls c.lines

/-- The notice of slot `i` is shown before that of slot `j`, by the four keys of R137 in their order. -/
def noticeFirst (i : Nat) (a : Notice) (j : Nat) (b : Notice) : Prop :=
  let later := ∃ x, a.posted = some x ∧ ∀ y, b.posted = some y → y < x
  (a.urgent = true ∧ b.urgent = false) ∨
  (a.urgent = b.urgent ∧
    ((a.origin = .safety ∧ b.origin = .hotel) ∨
     (a.origin = b.origin ∧ (later ∨ (a.posted = b.posted ∧ i < j)))))

/-! ## Validation of a plan (R13) -/

/-- The tables of a plan keep their keys strictly rising. -/
def planWf (p : Plan) : Prop :=
  Table.wf p.nodes = true ∧ Table.wf p.edges = true ∧ Table.wf p.zones = true ∧ Table.wf p.stations = true ∧
  Table.wf p.venues = true ∧ Table.wf p.portals = true ∧ Table.wf p.cabins = true ∧ Table.wf p.placements = true

/-- The sign list of a placement; empty for a role without one (R7). -/
def signList (pl : Placement) : List Nat :=
  match pl.role with
  | .corridor vs => vs
  | _ => []

/-- Record `i` of kind `k` fails the check of reason `r` (the table of R13). SIGN_VENUES is failed by a CORRIDOR placement up to
which the sign lists name more than 12 venues. -/
def failsCheck (p : Plan) (r : Reason) (k : RecordKind) (i : Nat) : Prop :=
  match r, k with
  | .reference, .node => ∃ x, Table.get p.nodes i = some x ∧
      ¬ (Table.has p.zones x.zone ∧ ∀ v, x.venue = some v → Table.has p.venues v)
  | .reference, .edge => ∃ x, Table.get p.edges i = some x ∧
      ¬ (Table.has p.nodes x.a ∧ Table.has p.nodes x.b ∧ Table.has p.zones x.zone)
  | .reference, .station => ∃ x n, Table.get p.stations i = some x ∧ x.loc = .node n ∧ ¬ Table.has p.nodes n
  | .reference, .venue => ∃ x n, Table.get p.venues i = some x ∧ x.loc = .node n ∧ ¬ Table.has p.nodes n
  | .reference, .portal => ∃ x, Table.get p.portals i = some x ∧ ¬ Table.has p.nodes x.node
  | .reference, .cabin => ∃ x, Table.get p.cabins i = some x ∧ ¬ (Table.has p.nodes x.door ∧ Table.has p.stations x.station)
  | .reference, .placement => ∃ x, Table.get p.placements i = some x ∧
      ¬ (Table.has p.nodes x.node ∧ (∀ c, x.role = .door c → Table.has p.cabins c) ∧
        (∀ v, x.role = .venue v → Table.has p.venues v) ∧ ∀ v ∈ signList x, Table.has p.venues v)
  | .zoneStation, .zone => ∃ x, Table.get p.zones i = some x ∧ ¬ Table.has p.stations x.station
  | .selfLoop, .edge => ∃ x, Table.get p.edges i = some x ∧ x.a = x.b
  | .venueNode, .node => ∃ x v y, Table.get p.nodes i = some x ∧ x.venue = some v ∧ Table.get p.venues v = some y ∧ y.loc ≠ .node i
  | .venueNode, .venue => ∃ x n, Table.get p.venues i = some x ∧ x.loc = .node n ∧
      ∀ y, Table.get p.nodes n = some y → y.venue ≠ some i
  | .doorNode, .placement => ∃ x c y, Table.get p.placements i = some x ∧ x.role = .door c ∧ Table.get p.cabins c = some y ∧
      y.door ≠ x.node
  | .cabinNumber, .cabin => ∃ x j y, Table.get p.cabins i = some x ∧ j < i ∧ Table.get p.cabins j = some y ∧ y.number = x.number
  | .duplicateIdentity, .placement => ∃ x j y, Table.get p.placements i = some x ∧ j < i ∧ Table.get p.placements j = some y ∧
      x.expected.isSome ∧ y.expected = x.expected
  | .signVenues, .placement => (∃ x vs, Table.get p.placements i = some x ∧ x.role = .corridor vs) ∧
      12 < ((p.placements.filter fun x => decide (x.1 ≤ i)).flatMap fun x => signList x.2).dedup.length
  | _, _ => False

/-- Check `r` comes before check `q`, and within one check the kinds stand in the order of R13 and the indices rise. -/
def checkedBefore (r : Reason) (k : RecordKind) (i : Nat) (q : Reason) (l : RecordKind) (j : Nat) : Prop :=
  r.code.toNat < q.code.toNat ∨ (r = q ∧ (k.position < l.position ∨ (k = l ∧ i ≤ j)))

/-! ## Operations in flight (R189) -/

/-- From port `p` to port `q` the first entry of kind `k` (for SWEEP, of segment `g`) leaves the in-flight list and is the last
completed operation, with outcome `o`; with no such entry the record stays (R189). -/
def opEntered (k : OpKind) (g : Option Seg) (o : OpOutcome) (p q : Port) : Prop :=
  let is : OpEntry → Prop := fun e => e.kind = k ∧ e.seg = g
  (∀ pre e post, p.inFlight = pre ++ e :: post → is e → (∀ x ∈ pre, ¬ is x) →
    q.inFlight = pre ++ post ∧ q.lastDone = some ⟨k, e.tag, o⟩) ∧
  ((∀ x ∈ p.inFlight, ¬ is x) → q.inFlight = p.inFlight ∧ q.lastDone = p.lastDone)

/-- The commands that a passing second can bring due (log 2). -/
def isExpiry : Instr → Prop
  | .minuteEvent | .clockRunStateHeld | .generalAlarmEvent | .overdueTimerExpiry | .standDownHoldExpiry | .creditRefill
  | .automaticSweepTimerExpiry _ | .silenceTimerExpiry _ | .refreshLimitExpiry _ _ => True
  | _ => False

/-- ORPHAN_SEEN is pending in `t` exactly when it was in `s` or a record lost its placement (R17, R22). -/
def orphansSeen (s t : State) : Prop :=
  .orphanSeen ∈ (t.port .safety).pendingSet ↔
    .orphanSeen ∈ (s.port .safety).pendingSet ∨ ∃ k, (s.display k).state.bound.isSome ∧ (t.display k).state.bound = none

/-! ## The route engine at work (R54 to R59) -/

/-- The generation number after `n` (R58). -/
def numberAfter (n : Nat) : Nat := if n = 65535 then 1 else n + 1

/-- The route engine of `t` is `r` with a computation started in plan `a`: COMPUTING with a fresh snapshot; with no destination in
the list the computation is complete at once, and a generation without results is published (R54, R57, R58). -/
def computationStarted (a : ActivePlan) (r : RouteEngine) (t : State) : Prop :=
  t.route =
    if r.dests = [] then
      { r with
        activity := .idle, pending := false, number := numberAfter r.number
        published := some { number := numberAfter r.number, profile := r.profile, serial := a.serial, dests := [], results := [] } }
    else { r with activity := .computing (t.snapshot a), pending := false }

/-- The stranded list of `t` after a command that started a computation when `started` holds: one that published at once under
SAFETY leaves it empty (R57, R118); in every other case it is that of `s`. -/
def strandedFollows (started : Prop) (s t : State) : Prop :=
  (started → t.route.dests = [] → t.route.profile = .safety → t.muster.stranded = [] ∧ t.muster.strandedGen = t.route.number) ∧
  (¬ (started ∧ t.route.dests = [] ∧ t.route.profile = .safety) →
    t.muster.stranded = s.muster.stranded ∧ t.muster.strandedGen = s.muster.strandedGen)

/-- The record stands on a placement and its card is ALERT, MUSTER or WAYFIND (R138). -/
def showsRoutes (s : State) (d : Display) : Bool :=
  (s.standing d).isSome && [CardKind.alert, .muster, .wayfind].contains (s.draft d).2.card.kind

/-- The publication of `g`, made in `u`, is handed on in `t`: the records that show routes are composed (R138), and under SAFETY
the stranded list is built afresh, a longer one raising STRANDED (R118). -/
def generationHanded (g : Generation) (u t : State) : Prop :=
  ∃ v, handedOff (fun _ d => showsRoutes u d) u v ∧ v.sent = u.sent ∧
    t =
      (let w := { v with muster := { u.muster with stranded := v.strandedList g, strandedGen := g.number } }
       if g.profile = .safety then
         if u.muster.stranded.length < (v.strandedList g).length then w.raise .safety .stranded else w
       else v)

/-- A computation starts in `s` in plan `a`; one that is complete at once is handed on at once (R54, R57, R58). -/
def computationRuns (a : ActivePlan) (s t : State) : Prop :=
  ∃ u, u = { s with route := u.route } ∧ computationStarted a s.route u ∧
    if s.route.dests = [] then ∃ g, u.route.published = some g ∧ generationHanded g u t else t = u

/-! ## The muster (R99 to R109) -/

/-- The tally is the count of the cabins as they stand (R113). -/
def tallyCounts (s : State) : Prop := s.muster.tally = s.tallyNow

/-- The tally of `t` follows a change from `s`: it counts the cabins, a different tally advances the serial, and in MUSTER a
station whose outstanding count goes from 1 or more to 0 raises STATION_CLEAR (R113, R114). -/
def tallyFollows (s t : State) : Prop :=
  tallyCounts t ∧
  t.muster.tallySerial = (if t.muster.tally = s.muster.tally then s.muster.tallySerial
    else (s.muster.tallySerial + 1) % 65536) ∧
  (s.muster.state = .muster →
    (∃ (st : Nat) (x y : StationTally), s.muster.tally[st]? = some x ∧ t.muster.tally[st]? = some y ∧ 1 ≤ x.outstanding ∧
      y.outstanding = 0) →
    .stationClear ∈ (t.port .safety).pendingSet)

/-- The retained store after a latch write is requested of it (R25). -/
def latchAsked (st : RetainedStore) (w : LatchWrite) : RetainedStore :=
  match st.inFlight with
  | none => { st with inFlight := some (.latch w), waiting := none }
  | some _ => { st with waiting := some w }

/-- Every vacated field is NO and the cabins are otherwise as before (R104, R107). -/
def vacatedCleared (s t : State) : Prop :=
  ∀ i, Table.get t.muster.cabins i = (Table.get s.muster.cabins i).map fun c => { c with vacated := .no }

/-- The profile has changed, with a plan to route in: a computation started (R61). -/
def profileTurned (s t : State) : Prop := s.route.profile ≠ t.route.profile ∧ s.plan.active.isSome

/-- `t` has the muster controller `m` but for the stranded list, which follows a computation started at a profile change. -/
def musterBecame (m : MusterController) (s t : State) : Prop :=
  t.muster = { m with stranded := t.muster.stranded, strandedGen := t.muster.strandedGen } ∧ strandedFollows (profileTurned s t) s t

/-- What a MUSTER entry with drill flag `d` leaves (R104). -/
def musterEntered (d : Bool) (s t : State) : Prop :=
  vacatedCleared s t ∧ tallyFollows s t ∧
  t.muster = { s.muster with
    state := .muster, drill := d, cabins := t.muster.cabins, tally := t.muster.tally, tallySerial := t.muster.tallySerial
    overdue := .running (s.muster.overdueTime * 60), watch := t.muster.watch, stranded := t.muster.stranded
    strandedGen := t.muster.strandedGen } ∧
  strandedFollows (profileTurned s t) s t ∧ t.store = latchAsked s.store (.set d)

/-- What a resume from STANDDOWN in phase `p` with drill flag `d` leaves (R105). -/
def musterResumed (p : StandPhase) (d : Bool) (s t : State) : Prop :=
  musterBecame { s.muster with
    state := .muster, drill := d, hold := none, overdue := .running (s.muster.overdueTime * 60), watch := t.muster.watch } s t ∧
  t.store = if p = .clearing ∨ s.muster.drill ≠ d then latchAsked s.store (.set d) else s.store

/-- The same muster state; the phase of STANDDOWN is no other state (R102). -/
def sameMuster (a b : MusterState) : Prop := a = b ∨ ∃ p q, a = .standdown p ∧ b = .standdown q

/-- ALERT or MUSTER has been entered from another state (R102). -/
def entryMade (s t : State) : Prop :=
  s.muster.state ≠ t.muster.state ∧ (t.muster.state = .alert ∨ t.muster.state = .muster)

/-- The hand-off of a changed muster state or drill flag has reached each neighbour of R108: the plan store, the route engine with
the stranded list, the content resolver with every display record, the panel bus controller and the hotel link. At an entry into
ALERT or MUSTER the refresh queues are as R167 gives, and at every other change each queue keeps its order and may grow at its end. -/
def musterHanded (s t : State) : Prop :=
  t.route.profile = t.muster.state.profile ∧
  (s.route.profile = t.route.profile → t.route = s.route) ∧
  (s.route.profile ≠ t.route.profile →
    match s.plan.active with
    | some a => computationStarted a { s.route with profile := t.route.profile, dests := t.destList } t
    | none => t.route = { s.route with profile := t.route.profile, dests := [], activity := .idle, pending := false }) ∧
  strandedFollows (profileTurned s t) s t ∧
  (s.plan.edit = .editing ∧ entryMade s t →
    t.plan = { s.plan with edit := .closed, shadow := .empty } ∧ .planAbandoned ∈ (t.port .safety).pendingSet) ∧
  (¬ (s.plan.edit = .editing ∧ entryMade s t) → t.plan = s.plan) ∧
  .musterState ∈ (t.port .hotel).pendingSet ∧
  composedOnly s t ∧ (∀ k, (s.display k).state ≠ .free → isComposed t k) ∧
  (addressesValid s → entryMade s t → entryPlaced s t) ∧
  (¬ entryMade s t → ∀ g, (s.seg g).queue <+: (t.seg g).queue)

/-- The stranded list of `t` after a command that moved a station when `moved` holds: it is built afresh while the published
generation is one of SAFETY, a longer list raising STRANDED, and else it stays (R98, R118). -/
def strandedRebuilt (moved : Prop) (s t : State) : Prop :=
  (∀ g, moved → s.route.published = some g → g.profile = .safety →
    t.muster.stranded = t.strandedList g ∧ t.muster.strandedGen = g.number ∧
    (s.muster.stranded.length < t.muster.stranded.length → .stranded ∈ (t.port .safety).pendingSet)) ∧
  (¬ (moved ∧ ∃ g, s.route.published = some g ∧ g.profile = .safety) →
    t.muster.stranded = s.muster.stranded ∧ t.muster.strandedGen = s.muster.strandedGen)

/-- `t` is `s` with record `c` stored for cabin `i` and the change handed on (R94, R98, R113, R114, R118): a record that does not
change hands nothing on. `pressed` is the record whose key press made the change, if one did (R139). -/
def cabinStored (i : Nat) (c : CabinState) (pressed : Option Nat) (s t : State) : Prop :=
  if c = s.cabin i then t = s
  else
    t.cabin i = c ∧ (∀ j, j ≠ i → t.cabin j = s.cabin j) ∧
    tallyFollows s t ∧
    t.muster = { s.muster with
      cabins := t.muster.cabins, tally := t.muster.tally, tallySerial := t.muster.tallySerial
      stranded := t.muster.stranded, strandedGen := t.muster.strandedGen } ∧
    strandedRebuilt (c.stationOverride ≠ (s.cabin i).stationOverride ∧
      cabinStation t.activePlan t.muster.cabins i ≠ cabinStation s.activePlan s.muster.cabins i) s t ∧
    SameBut [.muster, .ports, .dir, .segs] s t ∧ composedOnly s t ∧
    (∀ k p pl, s.standing (s.display k) = some (p, pl) → pl.role = .door i → isComposed t k) ∧
    causesKept pressed (fun k => ∃ p pl, s.standing (s.display k) = some (p, pl) ∧ pl.role = .door i) s t

/-! ## The programme (R75 to R90) -/

/-- The state of an event evaluated against `now` (the table of R75). -/
def evolvedState (now : Nat) (e : Event) : EventState :=
  match e.state with
  | .scheduled => if e.stop ≤ now then .ended else if e.start ≤ now then .running else .scheduled
  | .running => if e.stop ≤ now then .ended else .running
  | x => x

/-- The event with its state evaluated against now, if the clock is set (R75, R77 to R79). -/
def judged (now : Option Nat) (e : Event) : Event :=
  match now with
  | none => e
  | some n => { e with state := evolvedState n e }

/-- `c` names, of the events that `p` accepts, the one with the earliest start and among equal starts the lowest id; none when
there is none (R87, R88). -/
def isEarliest (p : Event → Prop) (es : Table Event) (c : Option Nat) : Prop :=
  match c with
  | none => ∀ x ∈ es, ¬ p x.2
  | some i => ∃ e, Table.get es i = some e ∧ p e ∧ ∀ x ∈ es, p x.2 → e.start < x.2.start ∨ (e.start = x.2.start ∧ i ≤ x.1)

/-- RUNNING, or SCHEDULED with start < now + look-ahead (R90). -/
def makesVenue (t : State) (now : Nat) (e : Event) : Prop :=
  e.state = .running ∨ (e.state = .scheduled ∧ e.start < now + t.prog.lookahead)

/-- SCHEDULED with now ≤ start < now + look-ahead (R88). -/
def comesUp (t : State) (now : Nat) (e : Event) : Prop :=
  e.state = .scheduled ∧ now ≤ e.start ∧ e.start < now + t.prog.lookahead

/-- The programme selection and the programme venue list are those of the present now (R87, R88, R90). -/
def selectionFresh (t : State) : Prop :=
  match t.now with
  | none => (∀ v, t.choice v = ⟨none, none⟩) ∧ t.prog.onBoard = none ∧ t.prog.programme = []
  | some n =>
    (∀ v, v < 32 → isEarliest (fun e => e.venue = v ∧ e.state = .running) t.prog.events (t.choice v).now ∧
      isEarliest (fun e => e.venue = v ∧ comesUp t n e) t.prog.events (t.choice v).next) ∧
    isEarliest (fun e => Table.has t.activePlan.venues e.venue = true ∧ comesUp t n e) t.prog.events t.prog.onBoard ∧
    t.prog.programme.Nodup ∧
    (∀ v, v ∈ t.prog.programme ↔ v < 32 ∧ ∃ x ∈ t.prog.events, x.2.venue = v ∧ makesVenue t n x.2) ∧
    t.prog.programme.Pairwise fun v w => ∃ x ∈ t.prog.events, x.2.venue = v ∧ makesVenue t n x.2 ∧
      ∀ y ∈ t.prog.events, y.2.venue = w → makesVenue t n y.2 → x.2.start < y.2.start ∨ (x.2.start = y.2.start ∧ v < w)

/-- The destination list has been rebuilt for a new programme venue list (R53). A list that comes out the same leaves the engine as
it was. Another one replaces it and triggers (R59): an IDLE engine starts a computation, and one that is complete at once has reached
the stranded list and the cards that show routes (R57, R58); during a computation the pending mark is set; without a plan nothing
starts. -/
def destsHanded (s t : State) : Prop :=
  let r := { s.route with dests := t.destList }
  let started := sameDests t.destList s.route.dests = false ∧ s.plan.active.isSome ∧ s.route.activity = .idle
  (sameDests t.destList s.route.dests = true → t.route = s.route) ∧
  (sameDests t.destList s.route.dests = false →
    match s.plan.active, s.route.activity with
    | none, _ => t.route = r
    | some a, .idle => computationStarted a r t
    | some _, .computing _ => t.route = { r with pending := true }) ∧
  strandedFollows started s t ∧
  (started → t.route.dests = [] → ∀ k, showsRoutes t (t.display k) = true → isComposed t k)

/-- The fresh choice has been handed on: the route engine takes a venue list that changed, no record differs but by composition, and
venue screens whose now or next event changed, and corridor screens when next on board changed, are composed (R53, R89, R90). With
the venue list as it was, the route engine and the stranded list stay. -/
def choiceHanded (s t : State) : Prop :=
  selectionFresh t ∧ composedOnly s t ∧
  (t.prog.programme = s.prog.programme → t.route = s.route ∧ t.muster = s.muster) ∧
  (t.prog.programme ≠ s.prog.programme → destsHanded s t) ∧
  t.muster = { s.muster with stranded := t.muster.stranded, strandedGen := t.muster.strandedGen } ∧
  ∀ k p pl, s.standing (s.display k) = some (p, pl) →
    (∀ v, pl.role = .venue v → v < 32 → s.choice v ≠ t.choice v → isComposed t k) ∧
    (∀ vs, pl.role = .corridor vs → s.prog.onBoard ≠ t.prog.onBoard → isComposed t k)

/-- The event `id` is stored as `e`, or removed, and the choice made afresh and handed on (R77 to R80). Screens that name an
event whose titles, times or moved mark changed are composed (R89). -/
def eventStored (id : Nat) (e : Option Event) (s t : State) : Prop :=
  (∀ i, Table.get t.prog.events i = if i = id then e else Table.get s.prog.events i) ∧
  t.prog = { s.prog with
    events := t.prog.events, venues := t.prog.venues, onBoard := t.prog.onBoard, programme := t.prog.programme } ∧
  choiceHanded s t ∧ SameBut [.prog, .route, .muster, .dir, .segs] s t ∧
  ∀ x y, Table.get s.prog.events id = some x → e = some y →
    (x.titles ≠ y.titles ∨ x.start ≠ y.start ∨ x.stop ≠ y.stop ∨ x.moved ≠ y.moved) →
    ∀ k p pl, s.standing (s.display k) = some (p, pl) →
      (∀ v, pl.role = .venue v → v < 32 → ((t.choice v).now = some id ∨ (t.choice v).next = some id) → isComposed t k) ∧
      (∀ vs, pl.role = .corridor vs → t.prog.onBoard = some id → isComposed t k)

/-- One value of now has been evaluated (R73): every event's state (R75), finished events removed (R76), the choice made afresh,
and expired notices gone, with the records they target composed (R136). -/
def minuteEvaluated (now : Nat) (s t : State) : Prop :=
  (∀ i, Table.get t.prog.events i =
    match Table.get s.prog.events i with
    | none => none
    | some e =>
      if (evolvedState now e = .ended ∨ evolvedState now e = .cancelled) ∧ e.stop + 30 ≤ now then none
      else some { e with state := evolvedState now e }) ∧
  t.prog = { s.prog with
    clock := t.prog.clock, events := t.prog.events, venues := t.prog.venues, onBoard := t.prog.onBoard
    programme := t.prog.programme } ∧
  choiceHanded s t ∧
  (∀ i, Table.get t.resolver.notices i =
    match Table.get s.resolver.notices i with
    | none => none
    | some n => if n.expiry.any fun e => decide (e ≤ now) then none else some n) ∧
  t.resolver = { s.resolver with notices := t.resolver.notices } ∧
  SameBut [.prog, .route, .muster, .resolver, .dir, .segs] s t ∧
  ∀ k i n, Table.get s.resolver.notices i = some n → Table.get t.resolver.notices i = none →
    s.targets n.target (s.display k) = true → (s.display k).state ≠ .free → isComposed t k

/-! ## Sweeps and exchanges (chapters 7 and 8) -/

/-- A segment whose sweep starts (R148). -/
def sweepBegun (c : SweepCause) (x : Segment) : Segment :=
  { x with activity := .sweeping c .opening, mismatch := 0, enrolled := 0, muted := 0, autoTimer := none }

/-- A segment after a sweep request (the table of R148). -/
def sweepAsked (c : SweepCause) (x : Segment) : Segment :=
  match x.activity, x.exchange with
  | .idle, none => sweepBegun c x
  | .idle, some _ => { x with activity := .waiting c, autoTimer := none }
  | .waiting w, _ => if c = .request ∧ w = .automatic then { x with activity := .waiting .request } else x
  | .sweeping _ _, _ => { x with again := true }

/-- A segment whose sweep with cause `c` has ended with a step code (R155). -/
def sweepEnded (c : SweepCause) (code : StepCode) (x : Segment) : Segment :=
  let y := { x with
    lastSweep := some ⟨c, code, x.enrolled, x.muted⟩, activity := .idle, autoTimer := some 60
    requested := if x.requested = .present then .absent else x.requested }
  if x.again then
    sweepBegun (if x.requested = .next then .request else .automatic)
      { y with again := false, requested := if x.requested = .next then .present else y.requested }
  else y

/-- No record but `k` and no segment but `g` differs. -/
def onlyRecord (g : Seg) (k : Nat) (s t : State) : Prop :=
  (∀ j, j ≠ k → t.display j = s.display j) ∧ ∀ h, h ≠ g → t.seg h = s.seg h

/-- No record and no segment but `g` differs. -/
def onlySegment (g : Seg) (s t : State) : Prop := t.dir = s.dir ∧ ∀ h, h ≠ g → t.seg h = s.seg h

/-- Phase CLOSE: SWEEP CLOSE is the last frame sent, and the segment is as the sweep's end leaves it; a SWEEP request that the
sweep completed is entered with the segment, the step code and the tallies, and OPERATION_DONE raised (R155, R189); with none the
ports stay. `x` is the segment with its tallies at the end. A sweep that the sweep-again mark starts sends its SWEEP OPEN at
SWEEP_START (log 15). -/
def sweepClosed (g : Seg) (c : SweepCause) (code : StepCode) (x : Segment) (s t : State) : Prop :=
  t.seg g = sweepEnded c code x ∧ t.sent.getLast? = some ⟨g, .sweepClose⟩ ∧
  (x.requested = .present → .operationDone ∈ (t.port .safety).pendingSet ∧
    opEntered .sweep (some g) (.sweep g code x.enrolled x.muted) (s.port .safety) (t.port .safety) ∧
    t.port .safety = { s.port .safety with
      pendingSet := (t.port .safety).pendingSet, inFlight := (t.port .safety).inFlight, lastDone := (t.port .safety).lastDone } ∧
    t.port .hotel = s.port .hotel) ∧
  (x.requested ≠ .present → t.ports = s.ports)

/-- The exchange of a segment is over, the turn is as R163 gives, and a sweep that waited starts (R148). -/
def exchangeOver (turn : Turn) (x y : Segment) : Prop :=
  let z := { x with exchange := none, turn := turn, queue := y.queue }
  y = match x.activity with
    | .waiting c => sweepBegun c z
    | _ => z

/-- Can the back card of this record be sent? (R165) -/
def canSend (d : Display) : Prop :=
  d.busy = false ∧ ∃ c, d.buffers.backCard = some c ∧
    (¬ d.isEpaper ∨ (∃ n, d.credits = some n ∧ 1 ≤ n) ∨ c.cls = .safety ∨ c.cause = .press)

/-- Place of a class in the queue order (R164). -/
def classRank : ContentClass → Nat
  | .safety => 0
  | .notice => 1
  | .duty => 2
  | .parked => 3

/-- The record at `g` and `a` has entered HELD (R171). -/
def enteredHeld (g : Seg) (a : Nat) (cause : HeldCause) (s t : State) : Prop :=
  let d := s.display (recKey g a)
  let e := t.display (recKey g a)
  e.state = .held d.state.bound cause ∧ e.refreshLimit = none ∧ e.busy = d.busy ∧ e.toggle = d.toggle ∧ e.credits = d.credits ∧
  e.identity = d.identity ∧ e.capability = d.capability ∧ e.buffers.frontCard = d.buffers.frontCard ∧
  (d.recompose = .clear → e.buffers = d.buffers) ∧ (t.seg g).queue = (s.seg g).queue.filter (· ≠ a) ∧
  .displayHeld ∈ (t.port .safety).pendingSet ∧
  ((∃ c, s.roleOf d = some (.door c)) → .displayHeld ∈ (t.port .hotel).pendingSet)

/-- The rounds of phase ISOLATION from round `k` on: in each, the part broadcasts BIT, the displays drive the line or not and act
on what they see, and the part records the level (R147, R150). -/
def isolationRounds (g : Seg) : Nat → Nat → List DisplayUnit → State → Option (State × List DisplayUnit)
  | 0, _, ds, s => some (s, ds)
  | n + 1, k, ds, s =>
    let line := ds.any (·.drives (.bit k))
    match exec (.bit g line) s with
    | .next t => isolationRounds g n (k + 1) (ds.map (·.hear line (.bit k))) t
    | _ => none

/-! ## What each command may change -/

/-- The parts a command may change, beside the frames sent. Every request restarts the port's silence timer and gets
an answer, and one on the safety link drops a confirm sequence. A frame whose kind is not known from the command's
name, and a byte that may complete a frame, may be any request. -/
def touches : Instr → List Part
  | .planOpen _ _ _ | .planWrite _ _ _ | .planAbandon _ _ _ => [.ports, .cond, .plan]
  | .planCommit _ _ _ => [.ports, .cond, .plan, .store]
  | .bind _ _ _ | .fixedDetour _ _ _ | .setMusterTimers _ _ _ | .setLinkTimeout _ _ _ => [.ports, .cond, .store]
  | .setCondition _ _ _ | .softDetourSet _ _ _ | .softDetourClear _ _ _ | .remainderSet _ _ _
  | .remainderClear _ _ _ => [.ports, .cond, .route, .muster, .dir, .segs]
  | .alert _ _ _ | .muster _ _ _ => [.ports, .cond, .plan, .route, .muster, .store, .dir, .segs]
  | .cancelAlert _ _ _ | .standdown _ _ _ => [.ports, .cond, .route, .muster, .dir, .segs]
  | .assignCabinStation _ _ _ | .assignZoneStation _ _ _ | .markCabin _ _ _ | .cabinGuests _ _ _ =>
    [.ports, .cond, .muster, .dir, .segs]
  | .setInstruction _ _ _ | .setParkedText _ _ _ | .postNotice _ _ _ | .withdrawNotice _ _ _ =>
    [.ports, .cond, .resolver, .dir, .segs]
  | .sweep _ _ _ => [.ports, .cond, .segs]
  | .segmentReset _ _ _ | .revive _ _ _ => [.ports, .cond, .dir, .segs]
  | .setClock _ _ _ => [.ports, .cond, .prog, .route, .muster, .resolver, .dir, .segs]
  | .setOffset _ _ _ | .setLanguages _ _ _ | .textPut _ _ _ | .textDelete _ _ _ => [.ports, .cond, .prog, .dir, .segs]
  | .setLookahead _ _ _ | .eventAdd _ _ _ | .eventModify _ _ _ | .eventCancel _ _ _ | .eventDelete _ _ _ =>
    [.ports, .cond, .prog, .route, .muster, .dir, .segs]
  | .readGuestRequests _ _ _ => [.ports, .cond, .bus]
  | .confirm _ _ _ | .planRead _ _ _ | .readAttention _ _ _ | .setAttentionMask _ _ _ | .lastOperation _ _ _
  | .linkStatus _ _ _ | .planStatus _ _ _ | .conditionRead _ _ _ | .detourRead _ _ _ | .remainderRead _ _ _
  | .routeStatus _ _ _ | .routeRead _ _ _ | .programmeStatus _ _ _ | .eventRead _ _ _ | .eventList _ _ _
  | .textRead _ _ _ | .cabinRead _ _ _ | .readOutstanding _ _ _ | .readStranded _ _ _ | .musterStatus _ _ _
  | .cardRead _ _ _ | .noticeRead _ _ _ | .displayRead _ _ _ | .segmentStatus _ _ _ | .queueRead _ _ _ => [.ports, .cond]
  | .unknownKind _ _ _ _ | .badCrcFrame _ _ _ _ _ | .frameWhileBusy _ _ _ _ | .startByte _ | .lengthOutOfRange _ _ =>
    [.store, .plan, .cond, .route, .prog, .muster, .resolver, .dir, .segs, .bus, .ports]
  | .receiveGap _ | .missingStopBit _ | .answerSent _ => [.ports]
  | .silenceTimerExpiry _ => [.ports, .cond]
  | .reset => [.store, .plan, .cond, .route, .prog, .muster, .resolver, .dir, .segs, .bus, .ports, .freeCount]
  | .generalAlarmAsserted | .generalAlarmDeasserted => [.alarmLine, .muster]
  | .generalAlarmEvent => [.ports, .plan, .route, .muster, .store, .dir, .segs]
  | .overdueTimerExpiry => [.muster, .ports]
  | .standDownHoldExpiry => [.muster, .store]
  | .commitCompletion => [.store, .plan, .cond, .route, .prog, .muster, .resolver, .dir, .segs, .ports]
  | .bindCompletion => [.store, .plan, .dir, .segs, .ports]
  | .fixedDetourCompletion => [.store, .cond, .route, .muster, .dir, .segs, .ports]
  | .latchSetCompletion => [.store, .muster]
  | .latchClearCompletion => [.store, .muster, .route, .dir, .segs, .ports]
  | .settingsWriteCompletion => [.store, .muster, .ports]
  | .computationCompletion => [.route, .muster, .dir, .segs, .ports]
  | .minuteEvent => [.prog, .route, .muster, .resolver, .dir, .segs]
  | .clockRunStateHeld => [.prog]
  | .sweepStart _ | .automaticSweepTimerExpiry _ | .cardExchange _ | .pollExchange _ => [.segs]
  | .presence _ _ | .assignReplyTimeout _ => [.segs, .ports]
  | .bit _ _ | .capabilityReply _ _ _ _ _ _ _ | .panelReplyTimeout _ | .refreshLimitExpiry _ _ => [.dir, .segs, .ports]
  | .ack _ _ | .nak _ _ | .pollNone _ _ | .pollNak _ _ => [.dir, .segs]
  | .report _ _ _ _ _ => [.dir, .segs, .bus]
  | .creditRefill => [.dir, .bus]
  | .dispatch => [.bus, .dir, .segs, .muster, .ports]

/-! ## Requests -/

/-- The port of link `l` takes a request when it is READY (R186). -/
def portReady (s : State) (l : LinkId) : Prop := (s.port l).state = .ready

/-- A valid frame has arrived on link `l` (R184, R185). -/
def frameTaken (l : LinkId) (s : State) : State := s.begin.modPort l Port.frameArrived

/-- A request other than CONFIRM and FIXED DETOUR has been taken on link `l`: on the safety link it abandons a
confirm sequence (R36). -/
def requestTaken (l : LinkId) (s : State) : State :=
  match l with
  | .safety => (frameTaken .safety s).abandonConfirm
  | .hotel => frameTaken .hotel s

/-- The answer the port of link `l` is sending. -/
def answers (t : State) (l : LinkId) (tag kind : Byte) (r : Reply) : Prop := (t.port l).state = .answering ⟨tag, kind, r⟩

/-- The link that may not send the kinds of an area. -/
def Area.barred : Area → LinkId → Prop
  | .safety, l => l = .hotel
  | .hotel, l => l = .safety
  | .shared, _ => False

/-- The area of each request kind (R192). -/
def kindArea (kind : Byte) : Area :=
  if 0x10 ≤ kind.toNat ∧ kind.toNat ≤ 0x25 then .safety
  else if 0x30 ≤ kind.toNat ∧ kind.toNat ≤ 0x3C then .hotel
  else .shared

/-! ## Invariants -/

/-- The active plan is the retained plan (R14, R22, R26). -/
def planKept (s : State) : Prop := s.plan.active = s.store.plan

/-- A latch write waits only behind a write in flight (R25). -/
def writeOrder (s : State) : Prop := s.store.waiting.isSome → s.store.inFlight.isSome

/-- A commit write is in flight exactly in COMMITTING, and there is no shadow plan in CLOSED (R8, R13, R14). -/
def editOrder (s : State) : Prop :=
  ((∃ n, s.store.inFlight = some (.commit n)) ↔ s.plan.edit = .committing) ∧
  (s.plan.edit = .closed → s.plan.shadow = .empty)

/-- An edit is open in QUIET alone (R9, R12). -/
def editQuiet (s : State) : Prop := s.plan.edit = .editing → s.muster.state = .quiet

/-- The fixed-detour write of the condition table is the one in flight (R27, R37, R38). -/
def detourWrite (s : State) : Prop := ∀ f, s.cond.writing = some f ↔ s.store.inFlight = some (.fixedDetour f)

/-- In QUIET and ALERT the latch is clear and no latch-set write waits or runs (R104, R107, R109). -/
def latchQuiet (s : State) : Prop :=
  (s.muster.state = .quiet ∨ s.muster.state = .alert) →
    s.muster.latchCopy.set = false ∧ (∀ d, s.store.inFlight ≠ some (.latch (.set d))) ∧ (∀ d, s.store.waiting ≠ some (.set d))

/-- The latch copy is the retained latch (R93, R109). -/
def latchKept (s : State) : Prop := s.muster.latchCopy = s.store.latch

/-- The muster timers run in the states that start them (R105, R106, R116). -/
def timersInState (s : State) : Prop :=
  ((∃ n, s.muster.overdue = .running n) → s.muster.state = .muster) ∧
  (s.muster.hold.isSome ↔ s.muster.state = .standdown .holding)

/-- The profile is that of the muster state (R46). -/
def profileFits (s : State) : Prop := s.route.profile = s.muster.state.profile

/-- In PLANLESS operation no computation runs or is due (R19, R62). -/
def planlessIdle (s : State) : Prop := s.plan.active = none → s.route.activity = .idle ∧ s.route.pending = false

/-- A pending mark stands only during a computation (R59). -/
def markInFlight (s : State) : Prop := s.route.pending = true → s.route.activity ≠ .idle

/-- Credits lie in 0..6 (R174). -/
def creditsBounded (s : State) : Prop := ∀ k c, (s.display k).credits = some c → c ≤ Config.creditLimit

/-- Entries and reservations of the inbound queue number at most 48 (R177), guest requests at most 16 (R180). -/
def queuesBounded (s : State) : Prop :=
  s.bus.inbound.length + s.reservations ≤ Config.inboundLimit ∧ s.bus.guests.length ≤ Config.guestLimit

/-- The tables a computation took from the plan and the condition table (R54) keep their keys strictly rising. -/
def snapshotWf (sn : Snapshot) : Prop :=
  Table.wf sn.nodes = true ∧ Table.wf sn.edges = true ∧ Table.wf sn.portals = true ∧ Table.wf sn.stations = true ∧
  Table.wf sn.venues = true ∧ Table.wf sn.conditions = true ∧ Table.wf sn.detours = true ∧ Table.wf sn.remainders = true

/-- Every table of the state, the plans and the snapshot included, keeps its keys strictly rising (log 33). -/
def tablesWf (s : State) : Prop :=
  planWf s.plan.shadow ∧ (∀ a, s.plan.active = some a → planWf a.plan) ∧ (∀ a, s.store.plan = some a → planWf a.plan) ∧
  (∀ sn, s.route.activity = .computing sn → snapshotWf sn) ∧
  Table.wf s.muster.cabins = true ∧ Table.wf s.prog.venues = true ∧
  Table.wf s.cond.edges = true ∧ Table.wf s.cond.slots = true ∧ Table.wf s.cond.remainders = true ∧
  Table.wf s.prog.events = true ∧ Table.wf s.prog.texts = true ∧ Table.wf s.muster.zoneOverrides = true ∧
  Table.wf s.resolver.notices = true ∧ Table.wf s.resolver.parked = true ∧ Table.wf s.resolver.instructions = true ∧
  Table.wf s.dir = true ∧ Table.wf s.store.fixed = true

/-- A record is in its segment's refresh queue exactly when its back buffer holds a card and it is PLACED or ORPHAN,
and at most once (R164). -/
def queueExact (s : State) : Prop :=
  ∀ g, (s.seg g).queue.Nodup ∧
    ∀ a, a ∈ (s.seg g).queue ↔
      isAddress a ∧ (s.display (recKey g a)).buffers.backCard.isSome ∧ (s.display (recKey g a)).state.inService

/-- The states an event may have after a state, whatever the clock does (R75). -/
def eventFollows : EventState → EventState → Prop
  | .scheduled, _ => True
  | .running, b => b = .running ∨ b = .ended ∨ b = .cancelled
  | .ended, b => b = .ended
  | .cancelled, b => b = .cancelled

/-! ## Cards on the wire (R204) -/

/-- A text part or secondary rendering of at most 64 characters (R132). -/
def textFits (t : Text) : Prop := t.length ≤ 64

/-- A route part in the ranges of R65 and R66. -/
def routeFits : RoutePart → Prop
  | .route a m t => a < 8 ∧ m ≤ 999 ∧ t ≤ 17
  | _ => True

/-- A line whose fields lie in the ranges of R124 and R204. -/
def lineFits : Line → Prop
  | .route r => routeFits r
  | .sign r t => routeFits r ∧ textFits t
  | .onBoard _ _ st r t u => st < 1440 ∧ routeFits r ∧ textFits t ∧ textFits u
  | .now _ st en t u => st < 1440 ∧ en < 1440 ∧ textFits t ∧ textFits u
  | .next _ _ st t u => st < 1440 ∧ textFits t ∧ textFits u
  | .name t u | .notice t u | .parked t u => textFits t ∧ textFits u
  | .message _ => True

/-- A badge in the ranges of R204. -/
def badgeFits : Badge → Prop
  | .none => True
  | .station t | .venue t => t.length ≤ 16
  | .cabin n => n ≤ 99999

/-- A card whose fields lie in the ranges of R204. -/
def cardFits (c : Card) : Prop :=
  c.primary < 4 ∧ (∀ l, c.secondary = some l → l < 4) ∧ badgeFits c.badge ∧ c.lines.length ≤ 4 ∧ ∀ x ∈ c.lines, lineFits x

/-- In every sweep, the records of the segment that already hold the identity being assigned are at the address chosen for it. -/
def assignSound (s : State) : Prop :=
  ∀ g c i a n, (s.seg g).activity = .sweeping c (.assign i a n) →
    ∀ k, keySeg k = g → (s.display k).state ≠ .free → (s.display k).identity = some i → keyAddr k = a

/-- No two placements of a plan expect one identity (R13 check 7, R21). -/
def expectedDistinct (p : Plan) : Prop :=
  ∀ i j x y, Table.get p.placements i = some x → Table.get p.placements j = some y → x.expected.isSome →
    x.expected = y.expected → i = j

/-- The plans that are or become active expect no identity twice: the active one, the shadow plan of a commit write, and a bind
write is for a placement of the active plan and takes the identity from the placement that holds it (R13, R21, R145). -/
def plansDistinct (s : State) : Prop :=
  (∀ a, s.plan.active = some a → expectedDistinct a.plan) ∧
  (s.plan.edit = .committing → expectedDistinct s.plan.shadow) ∧
  ∀ p i l, s.store.inFlight = some (.bind p i l) →
    ∃ a, s.plan.active = some a ∧ Table.has a.plan.placements p = true ∧ l = bindLoser a.plan p i

/-- A record bound to a placement has the identity that the active plan expects there (R145). -/
def boundAsExpected (s : State) : Prop :=
  ∀ k p, (s.display k).state.bound = some p →
    (s.display k).identity.isSome ∧
    ∃ pl, Table.get s.activePlan.placements p = some pl ∧ pl.expected = (s.display k).identity

/-- Each placement is bound to at most one record (R145). -/
def placementsDistinct (s : State) : Prop :=
  ∀ j k p, (s.display j).state.bound = some p → (s.display k).state.bound = some p → j = k

/-- Each identity belongs to at most one record that is not FREE (R145). -/
def identitiesDistinct (s : State) : Prop :=
  ∀ j k i, (s.display j).state ≠ .free → (s.display k).state ≠ .free → (s.display j).identity = some i →
    (s.display k).identity = some i → j = k

end Sys2Proof.Machine
end

