-- ==== Sys2Proof/Certificates/Slice0/Obligations.lean ====
section
/-! DEFINITION. The statements for the provers. Each says what a command or the machine does, by the rules of spec/ it names.
`requestTaken l s` is `s` with a valid frame taken on link `l`: receiver HUNTING, silence timer restarted, link LIVE, and on
the safety link no confirm sequence in progress (R36, R184, R185). -/

open Sys2Proof Sys2Proof.Machine

/-! ## Steps, frames on the links, and requests in general -/

/-- A step takes the command at the front of the queue and runs it with the queue's rest. -/
def Obligations.StepRunsTheFrontCommand : Prop :=
  ∀ (c : Instr) (rest : List Instr) (s : State), s.pending = c :: rest → step s = exec c { s with pending := rest }

/-- With no command waiting one second of the timebase passes (log 2, the model's choice): every running timer loses a second, a
running clock gains one up to 59, and the queue then holds the expiries that come due and nothing else. Beside that no display
record, segment, port or block changes. The refresh limits are told of a directory whose records have valid addresses. -/
def Obligations.IdleStepQueuesWhatComesDue : Prop :=
  ∀ s : State, s.pending = [] →
    ∃ t, step s = .next t ∧ SameBut [.prog, .muster, .dir, .segs, .bus, .ports, .pending] s t ∧ t.sent = [] ∧
      (.minuteEvent ∈ t.pending ↔ ∃ c, s.prog.clock = some c ∧ c.run = .running ∧ 59 ≤ c.seconds ∧ c.minute < 65535) ∧
      (.clockRunStateHeld ∈ t.pending ↔ ∃ c, s.prog.clock = some c ∧ c.run = .running ∧ 58 ≤ c.seconds ∧ c.minute = 65535) ∧
      (.generalAlarmEvent ∈ t.pending ↔ ∃ n, s.muster.watch = .timing n ∧ n ≤ 1) ∧
      (.overdueTimerExpiry ∈ t.pending ↔ ∃ n, s.muster.overdue = .running n ∧ n ≤ 1) ∧
      (.standDownHoldExpiry ∈ t.pending ↔ ∃ n, s.muster.hold = some n ∧ n ≤ 1) ∧
      (.creditRefill ∈ t.pending ↔ s.bus.refill ≤ 1) ∧
      (∀ g, .automaticSweepTimerExpiry g ∈ t.pending ↔ ∃ n, (s.seg g).autoTimer = some n ∧ n ≤ 1) ∧
      (∀ l, .silenceTimerExpiry l ∈ t.pending ↔ ∃ n, (s.port l).silence = .running n ∧ n ≤ 1) ∧
      (addressesValid s → ∀ g a, isAddress a →
        (.refreshLimitExpiry g a ∈ t.pending ↔ ∃ n, (s.display (recKey g a)).refreshLimit = some n ∧ n ≤ 1)) ∧
      (∀ c ∈ t.pending, isExpiry c) ∧
      t.prog = { s.prog with
        clock := s.prog.clock.map fun c =>
          { c with seconds := if c.run = .running ∧ c.seconds < 59 then c.seconds + 1 else c.seconds } } ∧
      t.muster = { s.muster with
        watch := match s.muster.watch with
          | .timing n => .timing (n - 1)
          | x => x
        overdue := match s.muster.overdue with
          | .running n => .running (n - 1)
          | x => x
        hold := s.muster.hold.map (· - 1) } ∧
      (∀ k, t.display k = { s.display k with refreshLimit := (s.display k).refreshLimit.map (· - 1) }) ∧
      t.bus = { s.bus with refill := s.bus.refill - 1 } ∧
      (∀ g, t.seg g = { s.seg g with autoTimer := (s.seg g).autoTimer.map (· - 1) }) ∧
      ∀ l, t.port l = { s.port l with
        silence := match (s.port l).silence with
          | .running n => .running (n - 1)
          | x => x }

/-- What every command leaves alone: each block's state but the parts `touches` lists for the command. -/
def Obligations.EveryCommandKeepsTheRest : Prop :=
  ∀ (c : Instr) (s t : State), exec c s = .next t → SameBut (touches c) s t

/-- R186: a frame that completes while the port is HANDLING or ANSWERING is discarded. As a valid frame it still
restarts the silence timer and makes the link LIVE (R185), and nothing else changes, a confirm sequence included (R36). -/
def Obligations.BusyPortDiscardsEveryFrame : Prop :=
  ∀ (l : LinkId) (tag kind : Byte) (body : List Byte) (s : State), ¬ portReady s l →
    exec (Instr.ofFrame l tag kind body) s = .next (frameTaken l s) ∧
    exec (.frameWhileBusy l tag kind body) s = .next (frameTaken l s) ∧
    (frameTaken l s).port l =
      { s.port l with
        receiver := .hunting
        live := .live
        silence := if (s.port l).silence = SilenceTimer.held then .held else .running (s.port l).timeout } ∧
    SameBut [.ports] s (frameTaken l s) ∧ (frameTaken l s).port l.peer = s.port l.peer

/-- R187, the port's checks before the block's own: a kind that is not a request kind is refused with UNKNOWN_KIND; a kind of
the other link's area with DENIED (R192); a body too short for its fields with BAD_FIELD, reason LENGTH, whatever the state
(the kinds listed carry fields; an empty body is shown). Nothing but the port, and on the safety link the confirm sequence,
changes. -/
def Obligations.PortChecksComeBeforeTheBlocks : Prop :=
  ∀ (l : LinkId) (tag kind : Byte) (body : List Byte) (s : State), portReady s l →
    (knownKind kind = false →
      exec (.unknownKind l tag kind body) s = .next ((requestTaken l s).answer l tag kind (.refuse .unknownKind))) ∧
    (knownKind kind = true → (kindArea kind).barred l →
      exec (Instr.ofFrame l tag kind body) s = .next ((requestTaken l s).answer l tag kind (.refuse .denied))) ∧
    (¬ (kindArea kind).barred l →
      kind.toNat ∈ [0x10, 0x11, 0x14, 0x15, 0x16, 0x17, 0x18, 0x19, 0x1A, 0x1C, 0x1E, 0x1F, 0x20, 0x21, 0x22, 0x23, 0x24, 0x25,
        0x30, 0x31, 0x32, 0x33, 0x34, 0x35, 0x36, 0x37, 0x38, 0x39, 0x3A, 0x3B, 0x3C, 0x40, 0x41, 0x42, 0x43, 0x44, 0x48, 0x49,
        0x4A, 0x51, 0x53, 0x55, 0x57, 0x58, 0x59, 0x5A, 0x5B, 0x5C, 0x5E, 0x60, 0x61, 0x62] →
      exec (Instr.ofFrame l tag kind []) s = .next ((requestTaken l s).answer l tag kind (.bad .length)))

/-- R184, R185: the last byte completes a frame, however its bytes came. A frame whose CRC is wrong has no effect but that the
receiver hunts again; one whose CRC is right is the request of its kind, by whichever name it reaches the port
(the model's choice of what such a command carries: log 1). -/
def Obligations.CompleteFramesReachTheirRequest : Prop :=
  ∀ (l : LinkId) (tag kind : Byte) (body : List Byte) (crc : BitVec 16) (c : Byte) (got : List Byte) (s : State),
    exec (.badCrcFrame l tag kind body crc) s =
      (if crc = frameCheck tag kind body then exec (Instr.ofFrame l tag kind body) s
        else .next ({ s with sent := [] }.setPort l { s.port l with receiver := .hunting })) ∧
    exec (.frameWhileBusy l tag kind body) s = exec (Instr.ofFrame l tag kind body) s ∧
    exec (.unknownKind l tag kind body) s = exec (Instr.ofFrame l tag kind body) s ∧
    ((s.port l).receiver = .receiving (byte (body.length + 2) :: got) → body.length ≤ 248 →
      got ++ [c] = tag :: kind :: body ++ be2 (frameCheck tag kind body).toNat →
      exec (.lengthOutOfRange l c) s = exec (Instr.ofFrame l tag kind body) s)

/-- The receiver's table (R184): the start byte in HUNTING begins a frame, a length out of 2..250 ends it, and so do a
gap and a missing stop bit. Nothing but the receiver changes. When an answer's last byte is sent the port is READY, and a
HELD silence timer runs from the full timeout (R186, R190).
R194: an expired silence timer makes its link LOST and stops; a link that was LIVE raises PEER_LOST on the other
link; on the safety link a confirm sequence is abandoned (R36). A link stays READY or busy as it was. The expiry is taken at every
time remaining of a running timer (the model's choice: log 21). -/
def Obligations.PortEventsFollowTheirTables : Prop :=
  (∀ (l : LinkId) (n : Byte) (s : State),
      ((s.port l).receiver = .hunting →
        exec (.startByte l) s = .next ({ s with sent := [] }.setPort l { s.port l with receiver := .receiving [] })) ∧
      ((s.port l).receiver = .receiving [] → (n.toNat < 2 ∨ 250 < n.toNat) →
        exec (.lengthOutOfRange l n) s = .next ({ s with sent := [] }.setPort l { s.port l with receiver := .hunting })) ∧
      exec (.receiveGap l) s = .next ({ s with sent := [] }.setPort l { s.port l with receiver := .hunting }) ∧
      exec (.missingStopBit l) s = .next ({ s with sent := [] }.setPort l { s.port l with receiver := .hunting }) ∧
      (∀ a, (s.port l).state = .answering a →
        exec (.answerSent l) s = .next ({ s with sent := [] }.setPort l
          { s.port l with
            state := .ready
            silence := if (s.port l).silence = SilenceTimer.held then .running (s.port l).timeout else (s.port l).silence }))) ∧
  (∀ (l : LinkId) (n : Nat) (s : State), (s.port l).silence = .running n →
      ∃ t, exec (.silenceTimerExpiry l) s = .next t ∧
        t.port l = { s.port l with live := .lost, silence := .stopped } ∧
        t.port l.peer =
          { s.port l.peer with
            pendingSet := if (s.port l).live = .live then
                (sourceList l.peer).filter fun x => x == .peerLost || (s.port l.peer).pendingSet.contains x
              else (s.port l.peer).pendingSet } ∧
        t.cond = (if l = .safety then { s.cond with progress := 0, fields := none } else s.cond) ∧
        SameBut [.ports, .cond] s t)

/-! ## The deck plan (chapter 1) -/

/-- R9, the whole rule. -/
def Obligations.PlanOpenFollowsItsChecks : Prop :=
  ∀ (tag : Byte) (f : Byte) (rest : List Byte) (s : State), portReady s .safety → (f = 0#8 ∨ f = 1#8) →
    let t := requestTaken .safety s
    exec (.planOpen .safety tag (f :: rest)) s = .next
      (if s.muster.state ≠ .quiet then t.answer .safety tag 0x10#8 (.refuse .state)
       else if s.plan.edit ≠ .closed then t.answer .safety tag 0x10#8 (.refuse .busy)
       else match s.store.inFlight with
         | some (.bind _ _ _) => t.answer .safety tag 0x10#8 (.refuse .busy)
         | _ =>
           { t with
             plan := { s.plan with edit := .editing, shadow := if f = 0#8 then s.activePlan else .empty } }.answer .safety tag
               0x10#8 .ok)

/-- R10: in EDITING a decoded PLAN WRITE is answered OK; the record it names reads back as written, or as undefined after a
remove, every other record of the shadow plan reads as before, and the active plan is not touched. In CLOSED it is refused
with STATE and in COMMITTING with BUSY. What a decoded PLAN WRITE carries has its index and its fields in range, lengths
clamped, bearings taken modulo 16 and labels cut (R1 to R7). -/
def Obligations.PlanWritesReadBack : Prop :=
  ∀ (tag : Byte) (body : List Byte) (w : PlanWriteBody) (s : State), portReady s .safety → bodyPlanWrite body = .ok w →
    (s.plan.edit = .closed → exec (.planWrite .safety tag body) s =
      .next ((requestTaken .safety s).answer .safety tag 0x11#8 (.refuse .state))) ∧
    (s.plan.edit = .committing → exec (.planWrite .safety tag body) s =
      .next ((requestTaken .safety s).answer .safety tag 0x11#8 (.refuse .busy))) ∧
    (s.plan.edit = .editing → ∃ p : Plan,
      exec (.planWrite .safety tag body) s =
        .next ({ requestTaken .safety s with plan := { s.plan with shadow := p } }.answer .safety tag 0x11#8 .ok) ∧
      ∀ k i, p.read k i = if k = w.kind ∧ i = w.index then w.record else s.plan.shadow.read k i) ∧
    w.index < w.kind.capacity ∧
    (∀ r, w.record = some (.node r) → r.zone < 8 ∧ ∀ v, r.venue = some v → v < 32) ∧
    (∀ r, w.record = some (.edge r) → r.a < 96 ∧ r.b < 96 ∧ r.zone < 8 ∧ r.bearing < 16 ∧ 1 ≤ r.length ∧ r.length ≤ 4095) ∧
    (∀ r, w.record = some (.zone r) → r.station < 8) ∧
    (∀ r, w.record = some (.station r) → 1 ≤ r.label.length ∧ r.label.length ≤ 3 ∧ ∀ n, r.loc = .node n → n < 96) ∧
    (∀ r, w.record = some (.venue r) → 1 ≤ r.label.length ∧ r.label.length ≤ 16 ∧ ∀ n, r.loc = .node n → n < 96) ∧
    (∀ r, w.record = some (.portal r) → r.node < 96 ∧ r.bearing < 16) ∧
    (∀ r, w.record = some (.cabin r) → 1 ≤ r.number ∧ r.number ≤ 99999 ∧ r.door < 96 ∧ r.station < 8) ∧
    (∀ r, w.record = some (.placement r) → r.node < 96 ∧ r.facing < 16 ∧ r.expected ≠ some 0#48 ∧
      (∀ c, r.role = .door c → c < 160) ∧ (∀ v, r.role = .venue v → v < 32) ∧
      (∀ vs, r.role = .corridor vs → vs.length ≤ 3 ∧ vs.Nodup ∧ ∀ v ∈ vs, v < 32))

/-- R11, the whole rule. -/
def Obligations.PlanAbandonClosesTheEdit : Prop :=
  ∀ (tag : Byte) (body : List Byte) (s : State), portReady s .safety →
    let t := requestTaken .safety s
    exec (.planAbandon .safety tag body) s = .next
      (match s.plan.edit with
        | .editing => { t with plan := { s.plan with edit := .closed, shadow := .empty } }.answer .safety tag 0x12#8 .ok
        | .closed => t.answer .safety tag 0x12#8 (.refuse .state)
        | .committing => t.answer .safety tag 0x12#8 (.refuse .busy))

/-- Acceptance of a commit (R13): the edit state, the store, then validation decide; an accepted commit makes the edit
COMMITTING, starts the commit write with the next serial, and joins the in-flight list (R189). During a bind write the edit is
CLOSED and the answer is BUSY, as R23 says (where R13 alone would say STATE, the model's choice: log 35).
Validation lets a plan through exactly when none of the eight checks of R13 fails for any of its records; the check and the record
it reports are the first that fail, in the order of R13's table, kinds and indices. -/
def Obligations.CommitsAreValidated : Prop :=
  (∀ (tag : Byte) (body : List Byte) (s : State), portReady s .safety →
      let t := requestTaken .safety s
      exec (.planCommit .safety tag body) s = .next
        (match s.plan.edit with
          | .closed => t.answer .safety tag 0x13#8 (.refuse (match s.store.inFlight with
              | some (.bind _ _ _) => .busy
              | _ => .state))
          | .committing => t.answer .safety tag 0x13#8 (.refuse .busy)
          | .editing =>
            if s.store.inFlight.isSome ∨ s.store.waiting.isSome then t.answer .safety tag 0x13#8 (.refuse .busy)
            else match validatePlan s.plan.shadow with
              | some (r, k, i) => t.answer .safety tag 0x13#8 ⟨.badField, .refusal (some r) (.record k i)⟩
              | none =>
                ({ t with
                  plan := { s.plan with edit := .committing }
                  store := { s.store with
                    inFlight := some (.commit (if s.serial = 65535 then 1 else s.serial + 1)) } }.beginOp .safety
                  ⟨.planCommit, tag, none⟩).answer .safety tag 0x13#8 .accepted)) ∧
  (∀ p : Plan, validatePlan p = none ↔
      -- REFERENCE
      ((∀ i r, (i, r) ∈ p.nodes → Table.has p.zones r.zone ∧ ∀ v, r.venue = some v → Table.has p.venues v) ∧
       (∀ i r, (i, r) ∈ p.edges → Table.has p.nodes r.a ∧ Table.has p.nodes r.b ∧ Table.has p.zones r.zone) ∧
       (∀ i r, (i, r) ∈ p.stations → ∀ n, r.loc = .node n → Table.has p.nodes n) ∧
       (∀ i r, (i, r) ∈ p.venues → ∀ n, r.loc = .node n → Table.has p.nodes n) ∧
       (∀ i r, (i, r) ∈ p.portals → Table.has p.nodes r.node) ∧
       (∀ i r, (i, r) ∈ p.cabins → Table.has p.nodes r.door ∧ Table.has p.stations r.station) ∧
       (∀ i r, (i, r) ∈ p.placements → Table.has p.nodes r.node ∧
         (∀ c, r.role = .door c → Table.has p.cabins c) ∧ (∀ v, r.role = .venue v → Table.has p.venues v) ∧
         ∀ vs, r.role = .corridor vs → ∀ v ∈ vs, Table.has p.venues v)) ∧
      -- ZONE_STATION and SELF_LOOP
      (∀ i r, (i, r) ∈ p.zones → Table.has p.stations r.station) ∧ (∀ i r, (i, r) ∈ p.edges → r.a ≠ r.b) ∧
      -- VENUE_NODE
      ((∀ i r, (i, r) ∈ p.nodes → ∀ v x, r.venue = some v → Table.get p.venues v = some x → x.loc = .node i) ∧
       (∀ i r, (i, r) ∈ p.venues → ∀ n, r.loc = .node n → ∃ x, Table.get p.nodes n = some x ∧ x.venue = some i)) ∧
      -- DOOR_NODE
      (∀ i r, (i, r) ∈ p.placements → ∀ c x, r.role = .door c → Table.get p.cabins c = some x → x.door = r.node) ∧
      -- CABIN_NUMBER and DUPLICATE_IDENTITY
      (∀ i j r x, (i, r) ∈ p.cabins → (j, x) ∈ p.cabins → j < i → x.number ≠ r.number) ∧
      (∀ i j r x, (i, r) ∈ p.placements → (j, x) ∈ p.placements → j < i → r.expected.isSome → x.expected ≠ r.expected) ∧
      -- SIGN_VENUES
      (p.placements.flatMap fun x => match x.2.role with
        | .corridor vs => vs
        | _ => []).dedup.length ≤ 12) ∧
  (∀ p : Plan, planWf p → ∀ r k i, validatePlan p = some (r, k, i) ↔
      failsCheck p r k i ∧ ∀ q l j, failsCheck p q l j → checkedBefore r k i q l j)

/-- The completion of a commit (R14 to R17): the shadow plan is the active and the retained plan, the edit is CLOSED, the
condition table and the route engine start again, cabins, zone overrides and parked texts are carried over, the tally follows
(R113, R114), next on board is chosen against the new plan (R89), every record is matched again and composed, a record that lost
its placement raises ORPHAN_SEEN, and RELOAD and OPERATION_DONE are raised. With no destination in the new plan the computation is
complete at once and its generation reaches the stranded list (R57, R118). -/
def Obligations.CommitCompletionInstallsThePlan : Prop :=
  ∀ (n : Nat) (s : State), s.store.inFlight = some (.commit n) →
    ∃ t, exec .commitCompletion s = .next t ∧
      t.plan = { active := some ⟨s.plan.shadow, n⟩, shadow := .empty, edit := .closed } ∧
      t.store = { s.store with
        plan := some ⟨s.plan.shadow, n⟩, fixed := [], inFlight := s.store.waiting.map Write.latch, waiting := none } ∧
      t.cond = { edges := [], slots := [], writing := s.cond.writing, progress := 0, fields := none, remainders := [] } ∧
      computationStarted ⟨s.plan.shadow, n⟩ { s.route with dests := t.destList, published := none } t ∧
      strandedFollows True s t ∧
      t.muster.cabins = Table.mapVals (fun _ c =>
        match cabinIndex s.activePlan c.number with
        | none => CabinState.initial
        | some i =>
          { s.cabin i with stationOverride := (s.cabin i).stationOverride.filter fun st => Table.has s.plan.shadow.stations st })
        s.plan.shadow.cabins ∧
      t.muster.zoneOverrides = Table.keep (fun z st => Table.has s.plan.shadow.zones z && Table.has s.plan.shadow.stations st)
        s.muster.zoneOverrides ∧
      t.muster = { s.muster with
        cabins := t.muster.cabins, zoneOverrides := t.muster.zoneOverrides, tally := t.muster.tally
        tallySerial := t.muster.tallySerial, stranded := t.muster.stranded, strandedGen := t.muster.strandedGen } ∧
      tallyFollows s t ∧
      t.resolver = { s.resolver with
        parked := Table.keep (fun p _ => Table.has s.plan.shadow.placements p) s.resolver.parked } ∧
      t.prog = { s.prog with venues := t.prog.venues, onBoard := t.prog.onBoard } ∧
      (∀ now, s.now = some now → Table.wf s.prog.events = true →
        isEarliest (fun e => Table.has s.plan.shadow.venues e.venue = true ∧ comesUp s now e) s.prog.events t.prog.onBoard) ∧
      (∀ k, cardsOnly
        { s.display k with
          state := (s.display k).state.rebind ((s.display k).identity.bind (matchIdentity s.plan.shadow)) } (t.display k)) ∧
      (∀ g, queueOnly (s.seg g) (t.seg g)) ∧
      (∀ k, (s.display k).state ≠ .free → isComposed t k) ∧
      (Table.wf s.dir = true → orphansSeen s t) ∧
      .reload ∈ (t.port .safety).pendingSet ∧ .reload ∈ (t.port .hotel).pendingSet ∧
      .operationDone ∈ (t.port .safety).pendingSet ∧
      opEntered .planCommit none (.commit n) (s.port .safety) (t.port .safety) ∧
      t.port .safety = { s.port .safety with
        pendingSet := (t.port .safety).pendingSet, inFlight := (t.port .safety).inFlight, lastDone := (t.port .safety).lastDone } ∧
      t.port .hotel = { s.port .hotel with pendingSet := (t.port .hotel).pendingSet } ∧
      SameBut [.store, .plan, .cond, .route, .prog, .muster, .resolver, .dir, .segs, .ports] s t

/-- Acceptance of a bind (R21), its checks 2 to 6 in order.
The completion of a bind (R22) in a plan without equal expected identities (R13 check 7): the placement expects the
bind identity in both copies of the plan and no other placement does; the record that holds the identity is bound to it, a
record of another identity that was bound to it, or to the placement that lost the identity, is bound no more, and every other
record stays whole. The records whose binding changed are composed; one that is bound no more raises ORPHAN_SEEN; the outcome
names the placement, the identity and the record PLACED on it (R189). A HELD record that holds the bind identity stays HELD, and
the outcome then names none (the model's choice: log 40).
A refusal whose rule reports no record and no position has subject none (the model's choice: log 37). -/
def Obligations.BindGivesThePlacementItsIdentity : Prop :=
  (∀ (tag : Byte) (body : List Byte) (p : Nat) (g : Seg) (a : Nat) (s : State), portReady s .safety →
      bodyBind body = .ok (p, g, a) →
      let t := requestTaken .safety s
      let d := s.display (recKey g a)
      exec (.bind .safety tag body) s = .next
        (if s.plan.edit ≠ .closed ∨ s.store.inFlight.isSome ∨ s.store.waiting.isSome then
           t.answer .safety tag 0x14#8 (.refuse .busy)
         else match Table.get s.activePlan.placements p, d.identity with
           | some pl, some i =>
             if d.state = .free then t.answer .safety tag 0x14#8 (.refuse .notFound)
             else if pl.expected = some i then t.answer .safety tag 0x14#8 .ok
             else
               ({ t with store := { s.store with inFlight := some (.bind p i (bindLoser s.activePlan p i)) } }.beginOp .safety
                 ⟨.bind, tag, none⟩).answer .safety tag 0x14#8 .accepted
           | _, _ => t.answer .safety tag 0x14#8 (.refuse .notFound))) ∧
  (∀ (p : Nat) (i : Identity) (a : ActivePlan) (pl : Placement) (s : State),
      s.store.inFlight = some (.bind p i (bindLoser a.plan p i)) → s.plan.active = some a → s.store.plan = some a →
      Table.wf a.plan.placements = true → Table.wf s.dir = true → Table.get a.plan.placements p = some pl →
      (∀ q r x y, Table.get a.plan.placements q = some x → Table.get a.plan.placements r = some y → x.expected.isSome →
        x.expected = y.expected → q = r) →
      let gives : Nat → Prop := fun q => q = p ∨ ∃ x, Table.get a.plan.placements q = some x ∧ x.expected = some i
      ∃ t b r, exec .bindCompletion s = .next t ∧ t.plan = { s.plan with active := some b } ∧
        t.store = { s.store with plan := some b, inFlight := s.store.waiting.map Write.latch, waiting := none } ∧
        b.serial = a.serial ∧ b.plan = { a.plan with placements := b.plan.placements } ∧
        Table.get b.plan.placements p = some { pl with expected := some i } ∧
        (∀ q, q ≠ p → Table.get b.plan.placements q = (Table.get a.plan.placements q).map fun x =>
          if x.expected = some i then { x with expected := none } else x) ∧
        (∀ k, (s.display k).identity = some i →
          cardsOnly { s.display k with state := (s.display k).state.rebind (some p) } (t.display k)) ∧
        (∀ k q, (s.display k).identity ≠ some i → (s.display k).state.bound = some q → gives q →
          cardsOnly { s.display k with state := (s.display k).state.rebind none } (t.display k)) ∧
        (∀ k, (s.display k).identity ≠ some i → (∀ q, (s.display k).state.bound = some q → ¬ gives q) →
          t.display k = s.display k) ∧
        (∀ k, (t.display k).state ≠ (s.display k).state → isComposed t k) ∧
        (∀ g, queueOnly (s.seg g) (t.seg g)) ∧ orphansSeen s t ∧
        opEntered .bind none (.bind p i r) (s.port .safety) (t.port .safety) ∧
        (r = none ↔ ∀ k, (t.display k).state ≠ .placed p) ∧
        (addressesValid s → ∀ g e, r = some (g, e) → (t.display (recKey g e)).state = .placed p) ∧
        .operationDone ∈ (t.port .safety).pendingSet ∧ t.port .hotel = s.port .hotel ∧
        t.port .safety = { s.port .safety with
          pendingSet := (t.port .safety).pendingSet, inFlight := (t.port .safety).inFlight
          lastDone := (t.port .safety).lastDone } ∧
        SameBut [.store, .plan, .dir, .segs, .ports] s t)

/-! ## Conditions, detours and remainders (chapter 2) -/

/-- R31: the checks of detour fields, in their order.
A refusal whose rule reports no record and no position has subject none (the model's choice: log 37). -/
def Obligations.DetourFieldsAreChecked : Prop :=
  ∀ (p : Plan) (f : DetourFields),
    checkDetour p f =
      if 8 ≤ f.zone ∨ 160 ≤ f.blocked ∨ 160 ≤ f.opened then some ⟨.badField, .refusal (some .range) .none⟩
      else if f.blocked = f.opened then some ⟨.badField, .refusal (some .sameEdge) .none⟩
      else match Table.get p.zones f.zone, Table.get p.edges f.blocked, Table.get p.edges f.opened with
        | some _, some b, some o =>
          if o.cls ≠ .crew then some ⟨.badField, .refusal (some .notCrew) .none⟩
          else if b.zone ≠ f.zone ∨ o.zone ≠ f.zone then some ⟨.badField, .refusal (some .zoneMismatch) .none⟩
          else none
        | _, _, _ => some ⟨.notFound, .refusal none .none⟩

/-- SET CONDITION (R29). A list of 1 to 16 pairs that all pass the checks is answered OK: each edge named has the condition of
the last pair that names it, every other edge keeps its own, and the trigger of R59 comes exactly when an edge's condition
changed. A list of no pair or more than 16 is refused with RANGE, and else the first pair that fails a check decides, with its
position and the check's answer; a refused list changes nothing else. That positions count from 0 is the model's reading, not
R29's (log 10). -/
def Obligations.ConditionsAreStoredTogether : Prop :=
  ∀ (tag : Byte) (body : List Byte) (ps : List (Nat × Nat)) (s : State), portReady s .safety → bodyPairs body = .ok ps →
    let t := requestTaken .safety s
    let fits : Nat × Nat → Prop := fun x => x.1 < 160 ∧ x.2 < 4 ∧ Table.has s.activePlan.edges x.1 = true
    (1 ≤ ps.length → ps.length ≤ 16 → (∀ x ∈ ps, fits x) →
      ∃ es : Table Condition,
        let u := { t with cond := { t.cond with edges := es } }
        exec (.setCondition .safety tag body) s =
          .next ((if ps.any fun x => u.condition x.1 != s.condition x.1 then u.trigger else u).answer .safety tag 0x15#8 .ok) ∧
        ∀ e, some (u.condition e) =
          match ps.reverse.find? fun x => x.1 == e with
          | some x => conditionOf x.2
          | none => some (s.condition e)) ∧
    (ps.length = 0 ∨ 16 < ps.length →
      exec (.setCondition .safety tag body) s = .next (t.answer .safety tag 0x15#8 (.bad .range))) ∧
    (∀ good x rest, ps = good ++ x :: rest → ps.length ≤ 16 → (∀ y ∈ good, fits y) →
      (160 ≤ x.1 ∨ 4 ≤ x.2 → exec (.setCondition .safety tag body) s =
        .next (t.answer .safety tag 0x15#8 ⟨.badField, .refusal (some .range) (.position good.length)⟩)) ∧
      (x.1 < 160 → x.2 < 4 → Table.has s.activePlan.edges x.1 = false → exec (.setCondition .safety tag body) s =
        .next (t.answer .safety tag 0x15#8 ⟨.notFound, .refusal none (.position good.length)⟩)))

/-- SOFT DETOUR SET (R33): the checks of R31 answer first, then the zone's slot decides.
A refusal whose rule reports no record and no position has subject none (the model's choice: log 37). -/
def Obligations.SoftDetourSetFollowsTheSlot : Prop :=
  ∀ (tag : Byte) (body : List Byte) (f : DetourFields) (s : State), portReady s .safety → bodyDetour body = .ok f →
    let t := requestTaken .safety s
    exec (.softDetourSet .safety tag body) s = .next
      (match checkDetour s.activePlan f, Table.get s.cond.slots f.zone with
        | some r, _ => t.answer .safety tag 0x16#8 r
        | none, some ⟨_, _, true⟩ => t.answer .safety tag 0x16#8 (.refuse .taken)
        | none, d =>
          if d = some ⟨f.blocked, f.opened, false⟩ then t.answer .safety tag 0x16#8 .ok
          else ({ t with
            cond := { t.cond with
              slots := Table.put s.cond.slots f.zone ⟨f.blocked, f.opened, false⟩ } }.trigger).answer .safety tag 0x16#8 .ok)

/-- R34, the whole rule: the hotel link is DENIED; on the safety link the zone and then its slot decide.
A refusal whose rule reports no record and no position has subject none (the model's choice: log 37). -/
def Obligations.SoftDetourClearFollowsTheSlot : Prop :=
  ∀ (tag : Byte) (z : Byte) (rest : List Byte) (s : State),
    (portReady s .hotel → exec (.softDetourClear .hotel tag (z :: rest)) s =
      .next ((requestTaken .hotel s).answer .hotel tag 0x17#8 (.refuse .denied))) ∧
    (portReady s .safety →
      let t := requestTaken .safety s
      exec (.softDetourClear .safety tag (z :: rest)) s = .next
        (if 8 ≤ z.toNat then t.answer .safety tag 0x17#8 (.bad .range)
         else if Table.has s.activePlan.zones z.toNat = false then t.answer .safety tag 0x17#8 (.refuse .notFound)
         else match Table.get s.cond.slots z.toNat with
           | some d =>
             if d.fixed then t.answer .safety tag 0x17#8 (.refuse .taken)
             else ({ t with cond := { t.cond with slots := Table.del s.cond.slots z.toNat } }.trigger).answer .safety tag
               0x17#8 .ok
           | none => t.answer .safety tag 0x17#8 (.refuse .notFound)))

/-- The table of R35. Every CONFIRM that does not continue the sequence ends it (R36).
A refusal whose rule reports no record and no position has subject none (the model's choice: log 37). -/
def Obligations.ConfirmFollowsItsTable : Prop :=
  ∀ (tag : Byte) (body : List Byte) (k : Nat) (f : DetourFields) (s : State), portReady s .safety →
    bodyConfirm body = .ok (k, f) →
    let t := frameTaken .safety s
    let ended := requestTaken .safety s
    exec (.confirm .safety tag body) s = .next
      (if k = 0 ∨ 4 < k then ended.answer .safety tag 0x18#8 (.bad .range)
       else if k = 1 ∧ s.cond.progress = 0 then
         match checkDetour s.activePlan f with
         | some r => ended.answer .safety tag 0x18#8 r
         | none =>
           if (Table.get s.cond.slots f.zone).any (·.fixed) then ended.answer .safety tag 0x18#8 (.refuse .taken)
           else { t with cond := { s.cond with progress := 1, fields := some f } }.answer .safety tag 0x18#8 .ok
       else if k ≠ 1 ∧ s.cond.progress + 1 = k ∧ s.cond.fields = some f then
         { t with cond := { s.cond with progress := k } }.answer .safety tag 0x18#8 .ok
       else ended.answer .safety tag 0x18#8 ⟨.state, .steps s.cond.progress⟩)

/-- FIXED DETOUR (R37): it ends the sequence whatever its answer; four confirmed steps with equal fields, the checks, the slot
and the store decide.
The completion of a fixed-detour write (R38): the detour is in the zone's slot and in the retained area, in place of a soft
one; the write is over and a waiting latch write starts (R25); the trigger of R59 comes; the outcome is entered.
A refusal whose rule reports no record and no position has subject none (the model's choice: log 37). -/
def Obligations.FixedDetourIsWrittenOnce : Prop :=
  (∀ (tag : Byte) (body : List Byte) (f : DetourFields) (s : State), portReady s .safety → bodyDetour body = .ok f →
      let t := requestTaken .safety s
      exec (.fixedDetour .safety tag body) s = .next
        (if s.cond.progress < 4 ∨ s.cond.fields ≠ some f then
           t.answer .safety tag 0x19#8 ⟨.incomplete, .steps (if s.cond.fields = some f then s.cond.progress else 0)⟩
         else match checkDetour s.activePlan f with
           | some r => t.answer .safety tag 0x19#8 r
           | none =>
             if (Table.get s.cond.slots f.zone).any (·.fixed) then t.answer .safety tag 0x19#8 (.refuse .taken)
             else if s.store.inFlight.isSome ∨ s.store.waiting.isSome then t.answer .safety tag 0x19#8 (.refuse .busy)
             else ({ t with
               cond := { t.cond with writing := some f }
               store := { s.store with inFlight := some (.fixedDetour f) } }.beginOp .safety
                 ⟨.fixedDetour, tag, none⟩).answer .safety tag 0x19#8 .accepted)) ∧
  (∀ (f : DetourFields) (s : State), s.store.inFlight = some (.fixedDetour f) →
      let d : Detour := ⟨f.blocked, f.opened, true⟩
      exec .fixedDetourCompletion s = .next
        (({ s with
          sent := []
          store := { s.store with
            fixed := Table.put s.store.fixed f.zone d, inFlight := s.store.waiting.map Write.latch, waiting := none }
          cond := { s.cond with slots := Table.put s.cond.slots f.zone d, writing := none } }.trigger).completeOp .fixedDetour
            none (.fixedDetour f)))

/-- REMAINDER SET (R41). A list of 1 to 16 items that all pass the checks, each naming a column of its own link (R40), is answered
OK: each entry named holds what the last item that names it gives, every other entry keeps its content, and the trigger of R59 comes
exactly when an entry changed. A list of no item or more than 16 is refused with RANGE, and else the first item that fails decides,
with its position and the answer of its first failing check: RANGE, DENIED for a column of the other link, NOT_FOUND.
REMAINDER CLEAR (R42): the entries of the link's own columns, of one portal or of all, become absent; the other link's entries and
the other portals' stay; the trigger comes exactly when an entry was present. A portal out of range is refused with RANGE; one that
is not defined is NOT_FOUND, and so is every request in PLANLESS operation.
The model's readings, not the rules': positions of list items count from 0 (log 10); REMAINDER CLEAR without a portal carries
the byte FFh (log 9); a refusal whose rule reports no record and no position has subject none (log 37). -/
def Obligations.RemaindersAreStoredByColumn : Prop :=
  ∀ (l : LinkId) (tag : Byte) (s : State), portReady s l →
    let t := requestTaken l s
    let dest : DestKind := match l with
      | .safety => .station
      | .hotel => .venue
    let own : Nat := match l with
      | .safety => 0
      | .hotel => 1
    let inRange : RemainderItem → Prop := fun x =>
      x.form < 2 ∧ x.portal < 8 ∧ x.kind < 2 ∧ x.index < if x.kind = 0 then 8 else 32
    let defined : RemainderItem → Prop := fun x => Table.has s.activePlan.portals x.portal = true ∧
      (match l with
        | .safety => Table.has s.activePlan.stations x.index = true
        | .hotel => Table.has s.activePlan.venues x.index = true)
    let fits : RemainderItem → Prop := fun x => inRange x ∧ x.kind = own ∧ defined x
    (∀ body xs, bodyRemainders body = .ok xs →
      (1 ≤ xs.length → xs.length ≤ 16 → (∀ x ∈ xs, fits x) →
        ∃ rs : Table Remainder,
          let u := { t with cond := { t.cond with remainders := rs } }
          exec (.remainderSet l tag body) s =
            .next ((if xs.any fun x => Table.get rs (remainderKey x.portal dest x.index) !=
                Table.get s.cond.remainders (remainderKey x.portal dest x.index) then u.trigger else u).answer l tag 0x40#8 .ok) ∧
          ∀ key, Table.get rs key =
            match xs.reverse.find? fun x => remainderKey x.portal dest x.index == key with
            | some x => if x.form = 1 ∨ x.cost = 65535 then none else some ⟨x.cost, min x.walked 65534⟩
            | none => Table.get s.cond.remainders key) ∧
      (xs.length = 0 ∨ 16 < xs.length →
        exec (.remainderSet l tag body) s = .next (t.answer l tag 0x40#8 (.bad .range))) ∧
      (∀ good x rest, xs = good ++ x :: rest → xs.length ≤ 16 → (∀ y ∈ good, fits y) →
        let refused : Status → Option Reason → State := fun st r =>
          t.answer l tag 0x40#8 ⟨st, .refusal r (.position good.length)⟩
        (¬ inRange x → exec (.remainderSet l tag body) s = .next (refused .badField (some .range))) ∧
        (inRange x → x.kind ≠ own → exec (.remainderSet l tag body) s = .next (refused .denied none)) ∧
        (inRange x → x.kind = own → ¬ defined x → exec (.remainderSet l tag body) s = .next (refused .notFound none)))) ∧
    (∀ (n : Byte) (rest : List Byte),
      let named : Prop := n ≠ 0xFF#8
      (named → 8 ≤ n.toNat → exec (.remainderClear l tag (n :: rest)) s = .next (t.answer l tag 0x41#8 (.bad .range))) ∧
      (¬ named ∨ n.toNat < 8 → s.plan.active = none ∨ (named ∧ Table.has s.activePlan.portals n.toNat = false) →
        exec (.remainderClear l tag (n :: rest)) s = .next (t.answer l tag 0x41#8 (.refuse .notFound))) ∧
      (∀ a, s.plan.active = some a → Table.wf s.cond.remainders = true →
        ¬ named ∨ (n.toNat < 8 ∧ Table.has a.plan.portals n.toNat = true) →
        let clears : Nat → Bool := fun key =>
          (match l with
            | .safety => decide (key % 40 < 8)
            | .hotel => decide (8 ≤ key % 40)) && (n == 0xFF#8 || key / 40 == n.toNat)
        ∃ rs : Table Remainder,
          let u := { t with cond := { t.cond with remainders := rs } }
          exec (.remainderClear l tag (n :: rest)) s =
            .next ((if s.cond.remainders.any fun x => clears x.1 then u.trigger else u).answer l tag 0x41#8 .ok) ∧
          ∀ key, Table.get rs key = if clears key then none else Table.get s.cond.remainders key))

/-! ## Routes (chapter 3) -/

/-- Base weights (R47), weights and passability (R48), and costs rounded up (R49), the whole rules. -/
def Obligations.EdgeWeightsAndCosts : Prop :=
  ∀ (sn : Snapshot) (i : Nat) (e : Edge),
    let opened := ∃ d ∈ sn.detours, d.2.opened = i
    let blocked := ∃ d ∈ sn.detours, d.2.blocked = i
    let c := (Table.get sn.conditions i).getD .openEdge
    ((edgeWeight sn i e).isSome ↔
      ¬ (e.cls = .lift ∧ sn.profile = .safety) ∧ (e.cls = .crew → opened) ∧ c ≠ .closed ∧ ¬ blocked) ∧
    (∀ w, edgeWeight sn i e = some w →
      w = (match e.cls with
          | .corridor => 4
          | .stair => 6
          | .lift => 8
          | .crew => 4) +
        (match c with
          | .crowded => 4
          | .smoke => 24
          | _ => 0) ∧
      4 ≤ w ∧ w ≤ 32 ∧
      ∃ k, edgeCost sn i e = some k ∧ e.length * w ≤ 4 * k ∧ 4 * k < e.length * w + 4 ∧
        (1 ≤ e.length → e.length ≤ 4095 → 1 ≤ k ∧ k ≤ 32760)) ∧
    (edgeWeight sn i e = none → edgeCost sn i e = none)

/-- R59, what a trigger does: a computation from a fresh snapshot in IDLE, the pending mark during one, nothing in PLANLESS
operation. A computation with no destination is complete at once (R57), and its generation is handed on at once (R58).
The completion of a computation (R58): one generation with the next number and the snapshot's profile, serial, destinations and
routes replaces the published one; the records on a placement whose card is ALERT, MUSTER or WAYFIND are composed (R138); the
stranded list follows under SAFETY (R118); then the next computation starts if the mark is set. -/
def Obligations.CompletionPublishesTheGeneration : Prop :=
  (∀ s : State, Table.wf s.dir = true →
      (s.plan.active = none → s.trigger = s) ∧
      (∀ a, s.plan.active = some a → s.route.activity = .idle → computationRuns a s s.trigger) ∧
      (∀ a sn, s.plan.active = some a → s.route.activity = .computing sn →
        s.trigger = { s with route := { s.route with pending := true } })) ∧
  (∀ (sn : Snapshot) (s : State), Table.wf s.dir = true → s.route.activity = .computing sn →
      ∃ v w g, exec .computationCompletion s = .next v ∧
        g.number = numberAfter s.route.number ∧ g.profile = sn.profile ∧ g.serial = sn.serial ∧ g.dests = sn.dests ∧
        g.results = sn.dests.map (routePass sn) ∧
        generationHanded g { s with
          sent := [], route := { s.route with activity := .idle, number := g.number, published := some g } } w ∧
        (s.route.pending = false → v = w) ∧
        (s.route.pending = true → match s.plan.active with
          | some a => computationRuns a w v
          | none => v = { w with route := { w.route with pending := false } }) ∧
        composedOnly s v ∧ SameBut [.route, .muster, .dir, .segs, .ports] s v)

/-- R63, the whole rule, of the generation a computation publishes. `rank` falls along every next-hop edge, so following
next-hops revisits no node and ends at HERE or PORTAL. -/
def Obligations.PublishedRoutesAreSound : Prop :=
  ∀ (sn : Snapshot) (s : State), s.route.activity = .computing sn →
    ∃ t g, exec .computationCompletion s = .next t ∧ t.route.published = some g ∧
      ∀ (d : Dest) (rs : List RouteResult), (d, rs) ∈ g.dests.zip g.results →
        ∃ rank : Nat → Nat, ∀ n r, rs[n]? = some r →
          (r.hop = .none → r.dist = 65535) ∧ (r.hop ≠ .none → r.dist < 65535) ∧
          (r.hop = .here → d.loc = .node n ∧ r.dist = 0 ∧ r.walked = 0) ∧
          (∀ i, r.hop = .portal i → ∃ p x, (i, p) ∈ sn.portals ∧ p.node = n ∧ ¬ (sn.profile = .safety ∧ p.cls = .lift) ∧
            Table.get sn.remainders (remainderKey i d.kind d.index) = some x ∧ r.dist = x.cost ∧ r.walked = x.walked) ∧
          (∀ i, r.hop = .edge i → ∃ e m q c, (i, e) ∈ sn.edges ∧ otherEnd e n = some m ∧ rs[m]? = some q ∧
            edgeCost sn i e = some c ∧ q.dist < 65535 ∧ r.dist = min (q.dist + c) 65534 ∧
            r.walked = min (q.walked + e.length) 65534 ∧ rank m < rank n ∧
            ¬ (sn.profile = .safety ∧ e.cls = .lift) ∧ (e.cls = .crew → isOpened sn.detours i = true))

/-- No walk is cheaper than the route published (R55, R56): across every passable edge a node's dist is at most its
neighbour's plus the edge's cost, saturated; and it is at most each offer made at the node. -/
def Obligations.NoWalkBeatsTheRoute : Prop :=
  ∀ (sn : Snapshot) (d : Dest),
    let rs := routePass sn d
    rs.length = 96 ∧
    (∀ n, d.loc = .node n → n < 96 → rs[n]? = some ⟨0, 0, .here⟩) ∧
    (∀ i p x r, (i, p) ∈ sn.portals → ¬ (sn.profile = .safety ∧ p.cls = .lift) →
      Table.get sn.remainders (remainderKey i d.kind d.index) = some x → rs[p.node]? = some r → r.dist ≤ x.cost) ∧
    (∀ i e c n m q r, (i, e) ∈ sn.edges → edgeCost sn i e = some c → otherEnd e m = some n → rs[m]? = some q →
      rs[n]? = some r → q.dist < 65535 → r.dist ≤ min (q.dist + c) 65534)

/-- The route lookup (R64), the arrow (R65) and the metres and minutes (R66), the whole rules. -/
def Obligations.LookupGivesArrowAndDistance : Prop :=
  ∀ (s : State) (pl : Placement) (k : DestKind) (i : Nat),
    ((∀ g, s.route.published = some g → g.profile ≠ s.route.profile ∨ s.route.dests.any (sameDest k i) = false ∨
        g.resultsFor k i = none) → routeLookup s pl k i = .none) ∧
    (∀ g rs r, s.route.published = some g → g.profile = s.route.profile → s.route.dests.any (sameDest k i) = true →
      g.resultsFor k i = some rs → rs[pl.node]? = some r →
      let m := min ((r.walked + 5) / 10) 999
      let arrow : Nat → Nat := fun b => (((((b : Int) - pl.facing) % 16).toNat + 1) / 2) % 8
      (65535 ≤ r.dist → routeLookup s pl k i = .noRoute) ∧
      (r.dist < 65535 →
        (r.hop = .here → routeLookup s pl k i = .here) ∧
        (∀ j e, r.hop = .edge j → Table.get s.activePlan.edges j = some e → e.bearing < 16 →
          routeLookup s pl k i =
            .route (arrow (if e.a = pl.node then e.bearing else (e.bearing + 8) % 16)) m ((m + 59) / 60)) ∧
        (∀ j p, r.hop = .portal j → Table.get s.activePlan.portals j = some p → p.bearing < 16 →
          routeLookup s pl k i = .route (arrow p.bearing) m ((m + 59) / 60))) ∧
      (m + 59) / 60 ≤ 17)

/-- The destination list under the NORMAL profile (R50, R52): the venues that a corridor placement names and the plan defines, in
rising id, then the other programme venues the plan defines, in programme order, 24 entries at most; no venue twice; every entry
with its location and origin. Under the SAFETY profile (R51) every station. -/
def Obligations.DestinationListsFollowTheProfile : Prop :=
  ∀ (s : State) (a : ActivePlan), s.plan.active = some a →
    (s.route.profile = .safety → s.destList = a.plan.stations.map fun x => ⟨.station, x.1, x.2.loc, .station⟩) ∧
    (signVenues a.plan).Pairwise (· < ·) ∧
    (∀ v, v ∈ signVenues a.plan ↔ v < 32 ∧ ∃ x ∈ a.plan.placements, ∃ vs, x.2.role = .corridor vs ∧ v ∈ vs) ∧
    (s.route.profile = .normal →
      let defined : Nat → Bool := fun v => Table.has a.plan.venues v
      let rest := s.prog.programme.filter fun v => defined v && !(signVenues a.plan).contains v
      s.destList.map (·.index) = ((signVenues a.plan).filter defined ++ rest).take 24 ∧
      (s.prog.programme.Nodup → (s.destList.map (·.index)).Nodup) ∧
      (∀ d ∈ s.destList, d.kind = .venue ∧ ∃ v, Table.get a.plan.venues d.index = some v ∧ d.loc = v.loc ∧
        (d.origin = .sign ∨ d.origin = .programme) ∧
        (d.origin = .sign ↔ d.index ∈ signVenues a.plan)))

/-! ## Reads on both links -/

/-- The reads without operands (R20, R44, R67, R91, R120, R142, R191, R199): each is answered OK with the state as it
stands. Nothing but the port, and on the safety link the confirm sequence, changes. That LINK STATUS gives an enable for each source
in the order of its list, and the attention set in that order, is the model's choice (log 18). -/
def Obligations.StatusReadsReportTheState : Prop :=
  ∀ (l : LinkId) (tag : Byte) (body : List Byte) (s : State), portReady s l →
    let t := requestTaken l s
    exec (.lastOperation l tag body) s =
      .next (t.answer l tag 0x4B#8 (.results (.lastOperation (s.port l).inFlight (s.port l).lastDone))) ∧
    exec (.linkStatus l tag body) s = .next (t.answer l tag 0x4C#8 (.results (.linkStatus
      { safety := if l = .safety then .live else (s.port .safety).live
        hotel := if l = .hotel then .live else (s.port .hotel).live
        safetyTimeout := (s.port .safety).timeout
        hotelTimeout := (s.port .hotel).timeout
        silence := if (s.port l).silence = SilenceTimer.held then .held else .running (s.port l).timeout
        enables := (sourceList l).map fun x => (x, (s.port l).mask.contains x)
        pending := (s.port l).pendingSet }))) ∧
    exec (.planStatus l tag body) s = .next (t.answer l tag 0x50#8 (.results (.planStatus
      { edit := s.plan.edit
        hasPlan := s.plan.active.isSome
        serial := s.serial
        activeCounts := s.activePlan.counts
        shadowCounts := if s.plan.edit = .closed then none else some s.plan.shadow.counts
        writing := s.store.inFlight.map Write.kind
        latchWaiting := s.store.waiting.isSome }))) ∧
    exec (.detourRead l tag body) s = .next (t.answer l tag 0x52#8 (.results (.detours
      ((List.range 8).map fun z => if s.planless then none else Table.get s.cond.slots z) s.cond.writing))) ∧
    exec (.routeStatus l tag body) s = .next (t.answer l tag 0x54#8 (.results (.routeStatus
      { profile := s.route.profile
        computing := s.route.activity != .idle
        pending := s.route.pending
        number := s.route.number
        published := s.route.published.map fun g => (g.profile, g.serial)
        dests := s.route.dests.map fun d => (d, s.route.published.any fun g => g.dests.any (sameDest d.kind d.index)) }))) ∧
    exec (.programmeStatus l tag body) s = .next (t.answer l tag 0x56#8 (.results (.programmeStatus
      { clock := s.prog.clock.map fun c => (c, (((c.minute : Int) + s.prog.offset) % 1440).toNat)
        offset := s.prog.offset
        lookahead := s.prog.lookahead
        primary := s.prog.primary
        secondary := s.prog.secondary
        scheduled := (s.prog.events.filter fun e => e.2.state == .scheduled).length
        running := (s.prog.events.filter fun e => e.2.state == .running).length
        ended := (s.prog.events.filter fun e => e.2.state == .ended).length
        cancelled := (s.prog.events.filter fun e => e.2.state == .cancelled).length
        texts := s.prog.texts.length
        programme := s.prog.programme
        onBoard := s.prog.onBoard
        venues := (List.range 32).map s.choice }))) ∧
    exec (.musterStatus l tag body) s = .next (t.answer l tag 0x5D#8 (.results (.musterStatus
      { state := s.muster.state
        drill := s.muster.drill
        latchCopy := s.muster.latchCopy
        latchInFlight := s.latchInFlight
        latchWaiting := s.store.waiting
        overdue := s.muster.overdue
        hold := s.muster.hold
        overdueTime := s.muster.overdueTime
        holdTime := s.muster.holdTime
        line := s.alarmLine
        watch := s.muster.watch
        counts := s.muster.tally.map fun x => (x.occupied, x.vacated, x.outstanding)
        serial := s.muster.tallySerial
        strandedLength := s.muster.stranded.length
        strandedGen := s.muster.strandedGen }))) ∧
    exec (.noticeRead l tag body) s = .next (t.answer l tag 0x5F#8 (.results (.notices
      { slots := (List.range 32).map fun i => (Table.get s.resolver.notices i).map fun n => (n, s.targetCount n.target)
        instructions := (List.range 8).map (Table.get s.resolver.instructions)
        parked := (List.range 192).map (Table.get s.resolver.parked) })))

/-- The reads of plan, condition, remainder and route records (R20, R44, R68), with their checks in order. Nothing but the port,
and on the safety link the confirm sequence, changes.
The reads of events, texts, cabins, the outstanding and the stranded list (R83, R91, R97, R115, R119). An event list in
rising ids is read from the first id on, and says whether more remain. Nothing but the port, and on the safety link the confirm
sequence, changes.
The reads of a display record's card and fields, of a segment and of its refresh queue (R142, R161, R182). Nothing but the
port, and on the safety link the confirm sequence, changes.
A refusal whose rule reports no record and no position has subject none (the model's choice: log 37).
In QUEUE READ an EPAPER record without credits stands as NO_CREDIT when its card is not exempt, a SAFETY card or one of cause PRESS
being exempt (R165, R182); a record busy and without a credit stands as BUSY (the model's choice: log 39). -/
def Obligations.TableReadsFollowTheirChecks : Prop :=
  (∀ (l : LinkId) (tag : Byte) (body : List Byte) (s : State), portReady s l →
      let t := requestTaken l s
      (∀ b, bodyPlanRead body = .ok b → exec (.planRead l tag body) s = .next (t.answer l tag 0x44#8
        (if b.shadow = true ∧ l = .hotel then .refuse .denied
         else if b.shadow = true ∧ s.plan.edit = .closed then .refuse .state
         else match (if b.shadow then s.plan.shadow else s.activePlan).read b.kind b.index with
           | some r => .results (.planRecord r)
           | none => .refuse .notFound))) ∧
      (∀ first count, bodyTwoBytes body = .ok (first, count) → exec (.conditionRead l tag body) s = .next (t.answer l tag 0x51#8
        (if 160 ≤ first ∨ count = 0 then .bad .range
         else .results (.conditions ((List.range (min (min count 32) (160 - first))).map fun j =>
           (Table.get s.activePlan.edges (first + j)).map fun _ => (Table.get s.cond.edges (first + j)).getD .openEdge))))) ∧
      (∀ portal, bodyOne body = .ok portal → exec (.remainderRead l tag body) s = .next (t.answer l tag 0x53#8
        (if 8 ≤ portal then .bad .range
         else .results (.remainders
           (((List.range 8).map fun i => if s.planless then none else
               Table.get s.cond.remainders (remainderKey portal .station i)) ++
             (List.range 32).map fun i => if s.planless then none else
               Table.get s.cond.remainders (remainderKey portal .venue i)))))) ∧
      (∀ k i first count, bodyRouteRead body = .ok (.nodes k i first count) → exec (.routeRead l tag body) s =
        .next (t.answer l tag 0x55#8
          (match s.route.published with
            | none => .refuse .state
            | some g => match g.resultsFor k i with
              | none => .refuse .notFound
              | some rs => .results (.routeNodes g.number g.profile ((rs.drop first).take count))))) ∧
      (∀ k i p, bodyRouteRead body = .ok (.placement k i p) → exec (.routeRead l tag body) s =
        .next (t.answer l tag 0x55#8
          (match s.route.published with
            | none => .refuse .state
            | some g => match Table.get s.activePlan.placements p with
              | none => .refuse .notFound
              | some pl => .results (.routePlacement g.number g.profile (routeLookup s pl k i)))))) ∧
  (∀ (l : LinkId) (tag : Byte) (body : List Byte) (s : State), portReady s l →
      let t := requestTaken l s
      (∀ id, bodyEventId body = .ok id → exec (.eventRead l tag body) s = .next (t.answer l tag 0x57#8
        (match Table.get s.prog.events id with
          | some e => .results (.event id e)
          | none => .refuse .notFound))) ∧
      (∀ first count, bodyEventList body = .ok (first, count) → 1 ≤ first ∧ 1 ≤ count ∧ count ≤ 16 ∧
        ∃ es more, exec (.eventList l tag body) s = .next (t.answer l tag 0x58#8 (.results (.events es more))) ∧
          es.length ≤ count ∧
          ∃ tail, s.prog.events.filter (fun x => decide (first ≤ x.1)) = es ++ tail ∧ (more = true ↔ tail ≠ []) ∧
            (tail ≠ [] → es.length = count)) ∧
      (∀ id lang, bodyTextKey body = .ok (id, lang) → exec (.textRead l tag body) s = .next (t.answer l tag 0x59#8
        (match Table.get s.prog.texts (textKey id lang) with
          | some x => .results (.text x)
          | none => .refuse .notFound))) ∧
      (∀ n, bodyCabin body = .ok n → (n = 0 ∨ 99999 < n) →
        exec (.cabinRead l tag body) s = .next (t.answer l tag 0x5A#8 (.bad .range))) ∧
      (∀ n, bodyCabin body = .ok n → 1 ≤ n → n ≤ 99999 → cabinIndex s.activePlan n = none →
        exec (.cabinRead l tag body) s = .next (t.answer l tag 0x5A#8 (.refuse .notFound))) ∧
      (∀ n i c, bodyCabin body = .ok n → 1 ≤ n → n ≤ 99999 → cabinIndex s.activePlan n = some i →
        Table.get s.activePlan.cabins i = some c →
        exec (.cabinRead l tag body) s = .next (t.answer l tag 0x5A#8 (.results (.cabin
          { index := i, door := c.door, defaultStation := c.station, cabin := s.cabin i
            station := ((s.cabin i).stationOverride).getD c.station
            counted := (s.cabin i).aboard != .count 0 })))) ∧
      (∀ st start, bodyTwoBytes body = .ok (st, start) → exec (.readOutstanding l tag body) s = .next (t.answer l tag 0x5B#8
        (if 8 ≤ st ∨ 160 ≤ start then .bad .range
         else match Table.get s.activePlan.stations st with
           | none => .refuse .notFound
           | some _ =>
             let y := s.muster.tally.getD st ⟨0, 0, 0, []⟩
             .results (.outstanding
               { occupied := y.occupied, vacated := y.vacated, outstanding := y.outstanding, serial := s.muster.tallySerial
                 cabins := (y.list.drop start).take 32 })))) ∧
      (∀ start, bodyWord body = .ok start → exec (.readStranded l tag body) s = .next (t.answer l tag 0x5C#8
        (if 352 ≤ start then .bad .range
         else .results (.stranded ⟨s.muster.stranded.length, s.muster.strandedGen, (s.muster.stranded.drop start).take 32⟩))))) ∧
  (∀ (l : LinkId) (tag : Byte) (body : List Byte) (s : State), portReady s l →
      let t := requestTaken l s
      (∀ x y, bodyTwoBytes body = .ok (x, y) → (4 ≤ x ∨ y = 0 ∨ 48 < y) →
        exec (.cardRead l tag body) s = .next (t.answer l tag 0x5E#8 (.bad .range)) ∧
        exec (.displayRead l tag body) s = .next (t.answer l tag 0x60#8 (.bad .range))) ∧
      (∀ x, bodyOne body = .ok x → 4 ≤ x →
        exec (.segmentStatus l tag body) s = .next (t.answer l tag 0x61#8 (.bad .range)) ∧
        exec (.queueRead l tag body) s = .next (t.answer l tag 0x62#8 (.bad .range))) ∧
      (∀ (g : Seg) a, bodyTwoBytes body = .ok (g.val, a) → isAddress a →
        let d := s.display (recKey g a)
        exec (.cardRead l tag body) s = .next (t.answer l tag 0x5E#8 (.results (.card
          { state := d.state
            cls := if d.state = .free then none else some (s.classOf d, (s.draft d).2.card.kind)
            front := d.buffers.frontCard.map (·.card)
            back := d.buffers.backCard
            inQueue := decide (a ∈ (s.seg g).queue)
            inTransit := decide ((s.seg g).exchange = some (.card a))
            recompose := d.recompose }))) ∧
        exec (.displayRead l tag body) s = .next (t.answer l tag 0x60#8 (.results (.display
          { state := d.state, identity := d.identity, capability := d.capability, placement := d.state.bound
            cabin := s.doorCabin d, credits := d.credits, attempts := d.attempts, busy := d.busy, toggle := d.toggle
            inQueue := decide (a ∈ (s.seg g).queue) })))) ∧
      (∀ (g : Seg), bodyOne body = .ok g.val →
        let x := s.seg g
        exec (.segmentStatus l tag body) s = .next (t.answer l tag 0x61#8 (.results (.segment
          { activity := x.activity, again := x.again, outstanding := x.requested != .absent, autoTimer := x.autoTimer
            lastSweep := x.lastSweep, free := s.countStates g (· == .free), placed := s.countStates g RecState.isPlaced
            orphan := s.countStates g (· == .orphan), held := s.countStates g RecState.isHeld
            queueLength := x.queue.length }))) ∧
        let item : Nat → Option QueueItem := fun a =>
          let d := s.display (recKey g a)
          d.buffers.backCard.map fun c =>
            { addr := a, cls := c.cls, cause := c.cause
              standing :=
                if d.busy = true then .busy
                else if d.isEpaper = true ∧ (d.credits = none ∨ d.credits = some 0) ∧ c.cls ≠ .safety ∧ c.cause ≠ .press then
                  .noCredit
                else .ready }
        exec (.queueRead l tag body) s = .next (t.answer l tag 0x62#8 (.results (.queue
          { items := (s.queueOrder g).filterMap item, turn := x.turn, exchange := x.exchange
            rotation := x.rotation, inbound := s.bus.inbound.length, reservations := s.reservations
            guests := s.bus.guests.length, overflow := s.bus.overflow, lossNote := s.bus.lossNote
            refill := s.bus.refill })))))

/-! ## Attention and settings (chapter 9) -/

/-- READ ATTENTION (R198), SET ATTENTION MASK and the attention line (R197) on either link's own set. The line of a port is asserted
exactly while a source is both pending and enabled. Without a code (byte FFh, log 9) the
highest-priority source pending and enabled is reported and cleared; with a code that source, enabled or not. A mask request
whose codes are all of the link's list enables and disables the sources it names, the last item that names one deciding
(log 17). A mask request with an item whose code is not of the list, or whose enable is above 1, is refused with BAD_FIELD and
the mask stays (R197). That its subject is the position of the first such item and its reason RANGE is the model's choice
(logs 17 and 18), and that positions count from 0 is its reading (log 10). That the answer of READ ATTENTION lists the set in the
priority order of R196 is its choice (log 18). -/
def Obligations.AttentionFollowsSetAndMask : Prop :=
  ∀ (l : LinkId) (tag : Byte) (body : List Byte) (s : State), portReady s l →
    let t := requestTaken l s
    let p := t.port l
    let rest : Source → List Source := fun x => (sourceList l).filter fun y => y != x && (s.port l).pendingSet.contains y
    (∀ q : Port, q.line = true ↔ ∃ x, x ∈ q.pendingSet ∧ x ∈ q.mask) ∧
    (∀ n, bodyOne body = .ok n → exec (.readAttention l tag body) s = .next
      (if n = 255 then
         match (sourceList l).find? fun x => (s.port l).pendingSet.contains x && (s.port l).mask.contains x with
         | none => t.answer l tag 0x48#8 (.results (.attention 0 (s.port l).pendingSet))
         | some x => (t.setPort l { p with pendingSet := rest x }).answer l tag 0x48#8 (.results (.attention x.code (rest x)))
       else match (sourceList l).find? fun x => x.code == n with
         | none => t.answer l tag 0x48#8 (.bad .range)
         | some x => (t.setPort l { p with pendingSet := rest x }).answer l tag 0x48#8
             (.results (.attention (if x ∈ (s.port l).pendingSet then n else 0) (rest x))))) ∧
    (∀ xs, bodyPairs body = .ok xs → (∀ x ∈ xs, (∃ y ∈ sourceList l, y.code = x.1) ∧ x.2 < 2) →
      ∃ m, exec (.setAttentionMask l tag body) s = .next ((t.setPort l { p with mask := m }).answer l tag 0x49#8 .ok) ∧
        m.Sublist (sourceList l) ∧
        ∀ y ∈ sourceList l, (y ∈ m ↔
          match xs.reverse.find? fun x => x.1 == y.code with
          | some x => x.2 = 1
          | none => y ∈ (s.port l).mask)) ∧
    (∀ good x bad, bodyPairs body = .ok (good ++ x :: bad) →
      (∀ y ∈ good, (∃ z ∈ sourceList l, z.code = y.1) ∧ y.2 < 2) → ((∀ y ∈ sourceList l, y.code ≠ x.1) ∨ 2 ≤ x.2) →
      exec (.setAttentionMask l tag body) s =
        .next (t.answer l tag 0x49#8 ⟨.badField, .refusal (some .range) (.position good.length)⟩))

/-- R117, R190, R195: with the store busy a settings request is refused with BUSY; else its write starts with clamped values,
its entry joins the in-flight list and the port stays HANDLING with its silence timer HELD. At the completion the values take
effect, the store goes on, the held answer is sent with them and the entry moves from the in-flight list to the last completed
operation; the port is otherwise as before, and so is the other link's (log 22). -/
def Obligations.SettingsAreAnsweredAtTheirCompletion : Prop :=
  ∀ (l : LinkId) (tag : Byte) (body : List Byte) (s : State),
    (portReady s l →
      let t := requestTaken l s
      let p := t.port l
      let held : Byte → Write → State := fun kind w =>
        { t with store := { s.store with inFlight := some w } }.setPort l
          { p with inFlight := p.inFlight ++ [(⟨.settings, tag, none⟩ : OpEntry)], state := .handling tag kind, silence := .held }
      (∀ n, bodyOne body = .ok n → exec (.setLinkTimeout l tag body) s = .next
        (if s.store.inFlight.isSome ∨ s.store.waiting.isSome then t.answer l tag 0x4A#8 (.refuse .busy)
         else held 0x4A#8 (.settings (.silence l (max 2 (min 60 n)))))) ∧
      (∀ a b, l = .safety → bodyTwoBytes body = .ok (a, b) → exec (.setMusterTimers .safety tag body) s = .next
        (if s.store.inFlight.isSome ∨ s.store.waiting.isSome then t.answer l tag 0x21#8 (.refuse .busy)
         else held 0x21#8 (.settings (.timers (max 1 (min 60 a)) (max 1 (min 30 b))))))) ∧
    let answered : Reply → Port → Port → Prop := fun r p q =>
        q = { p with
          timeout := q.timeout, inFlight := q.inFlight, lastDone := q.lastDone
          state := match p.state with
            | .handling u kind => .answering ⟨u, kind, r⟩
            | x => x }
    (∀ n, s.store.inFlight = some (.settings (.silence l n)) → ∃ t, exec .settingsWriteCompletion s = .next t ∧
      t.store = (match l with
        | .safety => { s.store with silenceSafety := n, inFlight := s.store.waiting.map Write.latch, waiting := none }
        | .hotel => { s.store with silenceHotel := n, inFlight := s.store.waiting.map Write.latch, waiting := none }) ∧
      (t.port l).timeout = n ∧ answered (.results (.timeout n)) (s.port l) (t.port l) ∧
      opEntered .settings none (.settings (.silence l n)) (s.port l) (t.port l) ∧
      t.port l.peer = s.port l.peer ∧ SameBut [.store, .ports] s t) ∧
    (∀ a b, s.store.inFlight = some (.settings (.timers a b)) → ∃ t, exec .settingsWriteCompletion s = .next t ∧
      t.store = { s.store with
        overdueTime := a, holdTime := b, inFlight := s.store.waiting.map Write.latch, waiting := none } ∧
      t.muster = { s.muster with overdueTime := a, holdTime := b } ∧
      (t.port .safety).timeout = (s.port .safety).timeout ∧
      answered (.results (.timers a b)) (s.port .safety) (t.port .safety) ∧
      opEntered .settings none (.settings (.timers a b)) (s.port .safety) (t.port .safety) ∧
      t.port .hotel = s.port .hotel ∧ SameBut [.store, .ports, .muster] s t)

/-! ## The muster (chapter 5) -/

/-- The request columns of R102 and the cases of R103. A request that leaves state and drill flag as they were changes nothing
else.
What the accepted requests of R102 do to cabins, tally, timers and latch: a MUSTER entry (R104), a resume (R105), a cleared
drill flag (R103), an entry into ALERT or its end (R104), and STANDDOWN (R106). The stranded list stays, unless a profile change
published at once. -/
def Obligations.MusterRequestsFollowTheTable : Prop :=
  (∀ (tag : Byte) (body : List Byte) (s : State), portReady s .safety →
      let t := requestTaken .safety s
      let ends : Instr → Byte → Reply × MusterState × Bool → Prop := fun c kind x =>
        ∃ u, exec c s = .next (u.answer .safety tag kind x.1) ∧ u.muster.state = x.2.1 ∧ u.muster.drill = x.2.2 ∧
          (x.2.1 = s.muster.state → x.2.2 = s.muster.drill → u = t)
      let refused : Reply × MusterState × Bool := (.refuse .state, s.muster.state, s.muster.drill)
      (∀ d, bodyFlag body = .ok d → ends (.alert .safety tag body) 0x1A#8
        (match s.muster.state with
          | .quiet => (.ok, .alert, d)
          | .alert => if d = true ∧ s.muster.drill = false then refused else (.ok, .alert, d)
          | _ => refused)) ∧
      ends (.cancelAlert .safety tag body) 0x1B#8
        (match s.muster.state with
          | .alert => (.ok, .quiet, false)
          | _ => refused) ∧
      (∀ d, bodyFlag body = .ok d → ends (.muster .safety tag body) 0x1C#8
        (if s.muster.state ≠ .quiet ∧ d = true ∧ s.muster.drill = false then refused else (.ok, .muster, d))) ∧
      ends (.standdown .safety tag body) 0x1D#8
        (match s.muster.state with
          | .muster => (.ok, .standdown .holding, s.muster.drill)
          | _ => refused)) ∧
  (∀ (tag : Byte) (body : List Byte) (d : Bool) (s : State), portReady s .safety → bodyFlag body = .ok d →
      let t := requestTaken .safety s
      let allowed := d = false ∨ s.muster.drill = true
      ∃ u v w x, exec (.muster .safety tag body) s = .next u ∧
        (s.muster.state = .quiet ∨ (s.muster.state = .alert ∧ allowed) → musterEntered d t u) ∧
        (∀ p, s.muster.state = .standdown p → allowed → musterResumed p d t u) ∧
        (s.muster.state = .muster → d = false → s.muster.drill = true →
          musterBecame { s.muster with drill := false } t u ∧
          u.store = if s.latchHeld then latchAsked s.store (.set false) else s.store) ∧
        exec (.alert .safety tag body) s = .next v ∧
        (s.muster.state = .quiet → musterBecame { s.muster with state := .alert, drill := d } t v ∧ v.store = s.store) ∧
        (s.muster.state = .alert → allowed → musterBecame { s.muster with drill := d } t v ∧
          v.store = if d = false ∧ s.muster.drill = true ∧ s.latchHeld then latchAsked s.store (.set false) else s.store) ∧
        exec (.standdown .safety tag []) s = .next w ∧
        (s.muster.state = .muster → w.store = s.store ∧ musterBecame
          { s.muster with
            state := .standdown .holding, overdue := .stopped, hold := some (s.muster.holdTime * 60) } t w) ∧
        exec (.cancelAlert .safety tag []) s = .next x ∧
        (s.muster.state = .alert → x.store = s.store ∧ musterBecame { s.muster with state := .quiet, drill := false } t x))

/-- R108 whole-machine: whatever command it is, RESET apart, that changes the muster state between QUIET, ALERT, MUSTER and
STANDDOWN, or the drill flag, the change has reached the five neighbours of R108: the plan store, the route engine with the stranded
list, the content resolver with every display record, the panel bus controller with the order of the refresh queues, and the hotel
link. At an entry into ALERT or MUSTER, with valid addresses in the directory, the records whose back card changed take their places
in the order of R167; that a record in transit is noted, to move at the end of its transit, is the model's choice (log 36). At
another change every queue keeps its order and may grow at its end. The phase of STANDDOWN is no other state (R102). -/
def Obligations.MusterChangesReachEveryBlock : Prop :=
  ∀ (c : Instr) (s t : State), c ≠ .reset → exec c s = .next t →
    ¬ sameMuster s.muster.state t.muster.state ∨ t.muster.drill ≠ s.muster.drill → musterHanded s t

/-- The general-alarm line and event (R101, R102): assertion starts the 2 s count in IDLE alone, deassertion returns the watch
to IDLE, and the count's completion gives one event, which raises MUSTER_BY_LINE and enters, resumes or confirms MUSTER with
the drill flag clear; a drill flag that it clears in MUSTER is written to a latch held or asked for (R103). The event is taken
at every time remaining of the count (the model's choice: log 21). -/
def Obligations.GeneralAlarmEntersMuster : Prop :=
  ∀ (s : State),
    exec .generalAlarmAsserted s = .next { s with
      sent := [], alarmLine := true
      muster := { s.muster with watch := if s.muster.watch = .idle then .timing 2 else s.muster.watch } } ∧
    exec .generalAlarmDeasserted s = .next { s with
      sent := [], alarmLine := false, muster := { s.muster with watch := .idle } } ∧
    ∀ n, s.muster.watch = .timing n → ∃ t, exec .generalAlarmEvent s = .next t ∧ t.muster.watch = .given ∧
      .musterByLine ∈ (t.port .safety).pendingSet ∧ t.muster.state = .muster ∧ t.muster.drill = false ∧
      (match s.muster.state with
        | .quiet | .alert => musterEntered false s t
        | .muster => musterBecame { s.muster with drill := false, watch := .given } s t ∧
            (s.muster.drill = false → SameBut [.muster, .ports] s t) ∧
            (s.muster.drill = true → t.store = if s.latchHeld then latchAsked s.store (.set false) else s.store)
        | .standdown p => musterResumed p false s t)

/-- The muster timers and the latch (R107, R109, R116): overdue expiry in MUSTER, hold expiry in HOLDING, and the completions of
latch writes. A latch-clear write that completes in CLEARING with no latch write waiting returns the part to QUIET. An expiry is
taken at every time remaining of its timer (the model's choice: log 21). -/
def Obligations.TimersAndLatchEndTheMuster : Prop :=
  ∀ (s : State),
    (∀ n, s.muster.overdue = .running n → s.muster.state = .muster →
      let u := { s with sent := [], muster := { s.muster with overdue := .expired } }
      exec .overdueTimerExpiry s =
        .next (if 1 ≤ (s.muster.tally.map (·.outstanding)).sum then u.raise .safety .overdue else u)) ∧
    (∀ n, s.muster.hold = some n → s.muster.state = .standdown .holding →
      exec .standDownHoldExpiry s = .next { s with
        sent := [], store := latchAsked s.store .clear
        muster := { s.muster with state := .standdown .clearing, hold := none } }) ∧
    (∀ d, s.store.inFlight = some (.latch (.set d)) →
      exec .latchSetCompletion s = .next { s with
        sent := [], muster := { s.muster with latchCopy := ⟨true, d⟩ }
        store := { s.store with latch := ⟨true, d⟩, inFlight := s.store.waiting.map Write.latch, waiting := none } }) ∧
    (s.store.inFlight = some (.latch .clear) → ∃ t, exec .latchClearCompletion s = .next t ∧
      t.store = { s.store with latch := ⟨false, false⟩, inFlight := s.store.waiting.map Write.latch, waiting := none } ∧
      t.muster.latchCopy = ⟨false, false⟩ ∧
      (if s.muster.state = .standdown .clearing ∧ s.store.waiting = none then
        vacatedCleared s t ∧ tallyFollows s t ∧ musterBecame { s.muster with
          state := .quiet, drill := false, latchCopy := ⟨false, false⟩, cabins := t.muster.cabins, tally := t.muster.tally
          tallySerial := t.muster.tallySerial, overdue := .stopped, hold := none } s t
      else t.muster = { s.muster with latchCopy := ⟨false, false⟩ } ∧ SameBut [.store, .muster] s t))

/-- ASSIGN CABIN STATION (R99), MARK CABIN (R112) and CABIN GUESTS (R95): their checks, and the cabin's record as the request gives
it. A change of the cabin's station rebuilds the stranded list (R118).
ASSIGN ZONE STATION (R98, R100): the zone's override is stored or removed; when its station changed, every corridor and venue
record of the zone is composed and the stranded list rebuilt. Cabins, tally and the other zones stay.
That MARK CABIN checks its fields before the muster state and the state before the cabin, and that ASSIGN CABIN STATION and ASSIGN
ZONE STATION refuse fields out of range before NOT_FOUND, a cabin unknown or PLANLESS operation included, is the model's choice
(log 11).
A refusal whose rule reports no record and no position has subject none (the model's choice: log 37). -/
def Obligations.StationsAndCabinsStoreTheirFields : Prop :=
  (∀ (tag : Byte) (body : List Byte) (n x : Nat) (s : State), bodyCabinByte body = .ok (n, x) →
      let found := cabinIndex s.activePlan n
      let unfit := n = 0 ∨ 99999 < n
      (portReady s .safety →
        let t := requestTaken .safety s
        let st : Option Nat := if x = 255 then none else some x
        (∃ u r, exec (.assignCabinStation .safety tag body) s = .next (u.answer .safety tag 0x1E#8 r) ∧
          (if unfit ∨ (8 ≤ x ∧ x ≠ 255) then u = t ∧ r = .bad .range
           else match found with
             | none => u = t ∧ r = .refuse .notFound
             | some i =>
               if st.any fun y => Table.get s.activePlan.stations y = none then u = t ∧ r = .refuse .notFound
               else r = .ok ∧ cabinStored i { s.cabin i with stationOverride := st } none t u)) ∧
        ∃ u r, exec (.markCabin .safety tag body) s = .next (u.answer .safety tag 0x20#8 r) ∧
          (if unfit ∨ 2 ≤ x then u = t ∧ r = .bad .range
           else if s.muster.state = .quiet ∨ s.muster.state = .alert then u = t ∧ r = .refuse .state
           else match found with
             | none => u = t ∧ r = .refuse .notFound
             | some i => r = .ok ∧ cabinStored i { s.cabin i with vacated := if x = 0 then .crew else .no } none t u)) ∧
      (portReady s .hotel → ∀ (b : CabinGuestsBody) (gb : List Byte), bodyCabinGuests gb = .ok b →
        let t := requestTaken .hotel s
        ∃ u r, exec (.cabinGuests .hotel tag gb) s = .next (u.answer .hotel tag 0x3A#8 r) ∧
          match cabinIndex s.activePlan b.number with
          | none => u = t ∧ r = .refuse .notFound
          | some i => r = .ok ∧ cabinStored i
            { s.cabin i with
              aboard := b.aboard.getD (s.cabin i).aboard
              language := b.language.getD (s.cabin i).language
              name := b.name.getD (s.cabin i).name
              dnd := b.dnd.getD (s.cabin i).dnd
              service := if b.serviceClear then false else (s.cabin i).service } none t u)) ∧
  (∀ (tag : Byte) (body : List Byte) (z x : Nat) (s : State), portReady s .safety → bodyTwoBytes body = .ok (z, x) →
      let t := requestTaken .safety s
      let st : Option Nat := if x = 255 then none else some x
      ∃ u r, exec (.assignZoneStation .safety tag body) s = .next (u.answer .safety tag 0x1F#8 r) ∧
        (if 8 ≤ z ∨ (8 ≤ x ∧ x ≠ 255) then u = t ∧ r = .bad .range
         else if Table.get s.activePlan.zones z = none ∨ (st.any fun y => Table.get s.activePlan.stations y = none) then
           u = t ∧ r = .refuse .notFound
         else
           r = .ok ∧ (∀ y, Table.get u.muster.zoneOverrides y = if y = z then st else Table.get s.muster.zoneOverrides y) ∧
           u.muster = { s.muster with
             zoneOverrides := u.muster.zoneOverrides, stranded := u.muster.stranded, strandedGen := u.muster.strandedGen } ∧
           SameBut [.muster, .ports, .dir, .segs] t u ∧ composedOnly t u ∧
           let moved := zoneStation s.activePlan u.muster.zoneOverrides z ≠ zoneStation s.activePlan s.muster.zoneOverrides z
           strandedRebuilt moved t u ∧
           (moved → ∀ k p pl, s.standing (s.display k) = some (p, pl) → (∀ c, pl.role ≠ .door c) →
               placementZone s.activePlan pl = some z → isComposed u k)))

/-! ## The clock and the programme (chapter 4) -/

/-- SET CLOCK (R71), the minute event (R70, R73) and the clock's stop at minute 65535 (R70). A venue list that changed is handed to
the route engine, which rebuilds its destination list and triggers when that list changed (R53, R59, R90). The two events are taken whatever the
seconds are (the model's choice: log 21). -/
def Obligations.ClockEventsEvaluateTheProgramme : Prop :=
  ∀ (tag : Byte) (body : List Byte) (m sec : Nat) (c : Clock) (s : State),
    Table.wf s.prog.events = true → Table.wf s.resolver.notices = true →
    (portReady s .hotel → bodySetClock body = .ok (m, sec) →
      ∃ u, exec (.setClock .hotel tag body) s = .next (u.answer .hotel tag 0x30#8 .ok) ∧
        u.prog.clock = some ⟨m, min sec 59, if m = 65535 ∧ 59 ≤ sec then .held else .running⟩ ∧
        minuteEvaluated m (requestTaken .hotel s) u) ∧
    (s.prog.clock = some c → c.run = .running → c.minute < 65535 →
      ∃ u, exec .minuteEvent s = .next u ∧ u.prog.clock = some ⟨c.minute + 1, 0, .running⟩ ∧
        minuteEvaluated (c.minute + 1) s u) ∧
    (s.prog.clock = some c → c.minute = 65535 →
      exec .clockRunStateHeld s = .next { s with sent := [], prog := { s.prog with clock := some ⟨65535, 59, .held⟩ } })

/-- SET OFFSET (R72), SET LANGUAGES (R85) and SET LOOKAHEAD (R86): clamped or checked, stored, and handed on only when a value
changed; a look-ahead that changes the venue list reaches the route engine as R53 and R59 give.
A refusal whose rule reports no record and no position has subject none (the model's choice: log 37). -/
def Obligations.ProgrammeSettingsAreStored : Prop :=
  ∀ (tag : Byte) (body : List Byte) (s : State), portReady s .hotel →
    let t := requestTaken .hotel s
    (∀ v, bodySetOffset body = .ok v →
      let o := max (-720) (min 840 v)
      exec (.setOffset .hotel tag body) s = .next ((if o = s.prog.offset then t
        else { t with prog := { s.prog with offset := o } }.composePlacements fun _ pl => match pl.role with
          | .door _ => false
          | _ => true).answer .hotel tag 0x31#8 .ok)) ∧
    (∀ p q, bodyTwoBytes body = .ok (p, q) →
      exec (.setLanguages .hotel tag body) s = .next
        (if 4 ≤ p ∨ 4 ≤ q then t.answer .hotel tag 0x32#8 (.bad .range)
         else (if p = s.prog.primary ∧ q = s.prog.secondary then t
          else { t with prog := { s.prog with primary := p, secondary := q } }.composeWhere fun _ d => match s.standing d with
            | some (_, pl) => match pl.role with
              | .door _ => false
              | _ => true
            | none => true).answer .hotel tag 0x32#8 .ok)) ∧
    (∀ n, bodyOne body = .ok n → Table.wf s.prog.events = true →
      ∃ u, exec (.setLookahead .hotel tag body) s = .next (u.answer .hotel tag 0x33#8 .ok) ∧
        (max 30 (min 240 n) = s.prog.lookahead → u = t) ∧
        (max 30 (min 240 n) ≠ s.prog.lookahead → choiceHanded t u ∧ SameBut [.prog, .route, .muster, .dir, .segs] t u ∧
          u.prog = { s.prog with
            lookahead := max 30 (min 240 n), venues := u.prog.venues, onBoard := u.prog.onBoard
            programme := u.prog.programme }))

/-- EVENT ADD (R77), EVENT MODIFY (R78, R79), EVENT CANCEL and EVENT DELETE (R80): their checks in order and the event they
store, change or remove. A venue list that changed with them is handed to the route engine, which rebuilds its destination list and
triggers when that list changed (R53, R59, R90).
A refusal whose rule reports no record and no position has subject none (the model's choice: log 37). -/
def Obligations.EventRequestsFollowTheirChecks : Prop :=
  ∀ (tag : Byte) (body : List Byte) (s : State), portReady s .hotel → Table.wf s.prog.events = true →
    let t := requestTaken .hotel s
    let fits : Nat → Nat → Prop := fun a b => a < b ∧ b ≤ a + 1440
    let ends : Instr → Byte → Reply → Option (Nat × Option Event) → Prop := fun c kind r x =>
      ∃ u, exec c s = .next (u.answer .hotel tag kind r) ∧
        match x with
        | none => u = t
        | some (id, e) => eventStored id e t u
    (∀ b, bodyEventAdd body = .ok b →
      ((¬ fits b.start b.stop → ends (.eventAdd .hotel tag body) 0x34#8 (.bad .times) none) ∧
       (fits b.start b.stop →
        (Table.has s.prog.events b.id → ends (.eventAdd .hotel tag body) 0x34#8 (.refuse .exists) none) ∧
        (¬ Table.has s.prog.events b.id → 128 ≤ s.prog.events.length →
          ends (.eventAdd .hotel tag body) 0x34#8 (.refuse .full) none) ∧
        (¬ Table.has s.prog.events b.id → s.prog.events.length < 128 →
          ends (.eventAdd .hotel tag body) 0x34#8 .ok (some (b.id, some (judged s.now
            { venue := b.venue, start := b.start, stop := b.stop, category := b.category, titles := b.titles
              state := .scheduled, moved := false }))))))) ∧
    (∀ b, bodyEventModify body = .ok b →
      (Table.get s.prog.events b.id = none → ends (.eventModify .hotel tag body) 0x35#8 (.refuse .notFound) none) ∧
      ∀ e, Table.get s.prog.events b.id = some e →
        let m : Event := { e with
          venue := b.venue.getD e.venue, start := b.start.getD e.start, stop := b.stop.getD e.stop
          titles := b.titles.getD e.titles }
        (e.state = .ended ∨ e.state = .cancelled ∨ (e.state = .running ∧ (b.venue.isSome ∨ b.start.isSome)) →
          ends (.eventModify .hotel tag body) 0x35#8 (.refuse .state) none) ∧
        (e.state = .scheduled ∨ (e.state = .running ∧ b.venue = none ∧ b.start = none) →
          (¬ fits m.start m.stop → ends (.eventModify .hotel tag body) 0x35#8 (.bad .times) none) ∧
          (fits m.start m.stop → ends (.eventModify .hotel tag body) 0x35#8 .ok (some (b.id, some (judged s.now
            { m with moved := e.moved || (e.state == .scheduled &&
              (e.venue != m.venue || e.start != m.start || e.stop != m.stop)) })))))) ∧
    (∀ id, bodyEventId body = .ok id →
      (Table.get s.prog.events id = none → ends (.eventCancel .hotel tag body) 0x36#8 (.refuse .notFound) none ∧
        ends (.eventDelete .hotel tag body) 0x37#8 (.refuse .notFound) none) ∧
      ∀ e, Table.get s.prog.events id = some e →
        ends (.eventDelete .hotel tag body) 0x37#8 .ok (some (id, none)) ∧
        (e.state = .ended ∨ e.state = .cancelled → ends (.eventCancel .hotel tag body) 0x36#8 (.refuse .state) none) ∧
        (e.state = .scheduled ∨ e.state = .running →
          ends (.eventCancel .hotel tag body) 0x36#8 .ok (some (id, some { e with state := .cancelled }))))

/-- R75: no event that stays in the table returns to an earlier state, whatever command arrives but RESET. -/
def Obligations.EventStatesNeverReturn : Prop :=
  ∀ (c : Instr) (id : Nat) (a b : Event) (s t : State), c ≠ .reset → Table.wf s.prog.events = true → exec c s = .next t →
    Table.get s.prog.events id = some a → Table.get t.prog.events id = some b → eventFollows a.state b.state

/-- TEXT PUT (R82) and TEXT DELETE (R83): the pool's 1024 entries, one for each text id and language. A change alone is
handed to the resolver, with its text id.
SET INSTRUCTION (R126) and SET PARKED TEXT (R131): their checks, and the records a change composes (R138).
A refusal whose rule reports no record and no position has subject none (the model's choice: log 37). -/
def Obligations.TextsAndInstructionsAreStored : Prop :=
  (∀ (tag : Byte) (body : List Byte) (s : State), portReady s .hotel →
      let t := requestTaken .hotel s
      (∀ id lang x, bodyTextPut body = .ok (id, lang, x) → 1 ≤ id ∧ lang < 4 ∧ 1 ≤ x.length ∧ x.length ≤ 64 ∧
        exec (.textPut .hotel tag body) s = .next
          (match Table.get s.prog.texts (textKey id lang) with
            | none =>
              if 1024 ≤ s.prog.texts.length then t.answer .hotel tag 0x38#8 (.refuse .full)
              else ({ t with prog := { s.prog with texts := Table.put s.prog.texts (textKey id lang) x } }.composeText id).answer
                .hotel tag 0x38#8 .ok
            | some y =>
              (if y = x then t
               else { t with prog := { s.prog with texts := Table.put s.prog.texts (textKey id lang) x } }.composeText id).answer
                .hotel tag 0x38#8 .ok)) ∧
      (∀ id lang, bodyTextKey body = .ok (id, lang) → 1 ≤ id ∧ lang < 4 ∧
        exec (.textDelete .hotel tag body) s = .next
          (match Table.get s.prog.texts (textKey id lang) with
            | none => t.answer .hotel tag 0x39#8 (.refuse .notFound)
            | some _ =>
              ({ t with prog := { s.prog with texts := Table.del s.prog.texts (textKey id lang) } }.composeText id).answer .hotel
                tag 0x39#8 .ok)) ∧
      ∀ i j k l, k < 4 → l < 4 → textKey i k = textKey j l → i = j ∧ k = l) ∧
  (∀ (tag : Byte) (body : List Byte) (s : State),
      (portReady s .safety → ∀ st x, bodyTwoBytes body = .ok (st, x) →
        let t := requestTaken .safety s
        let set : Option InstructionCode → State := fun c =>
          if Table.get s.resolver.instructions st = c then t
          else { t with resolver := { s.resolver with instructions := Table.set s.resolver.instructions st c } }.composePlacements
            fun _ pl => s.placementStation pl == some st
        exec (.setInstruction .safety tag body) s = .next
          (if 8 ≤ st ∨ (6 ≤ x ∧ x ≠ 255) then t.answer .safety tag 0x22#8 (.bad .range)
           else (set ([InstructionCode.useStairs, .avoidLifts, .keepRight, .keepLeft, .waitForCrew, .bringLifejacket][x]?)).answer
             .safety tag 0x22#8 .ok)) ∧
      (portReady s .hotel → ∀ p x, bodyParkedText body = .ok (p, x) →
        let t := requestTaken .hotel s
        p < 192 ∧ x ≠ some 0 ∧
        exec (.setParkedText .hotel tag body) s = .next
          (match Table.get s.activePlan.placements p with
            | none => t.answer .hotel tag 0x3B#8 (.refuse .notFound)
            | some _ =>
              (if Table.get s.resolver.parked p = x then t
               else { t with resolver := { s.resolver with parked := Table.set s.resolver.parked p x } }.composePlacements
                fun i _ => i == p).answer .hotel tag 0x3B#8 .ok)))

/-! ## Content resolution (chapter 6) -/

/-- POST NOTICE (R134) and WITHDRAW NOTICE (R135), their checks in order: a notice takes the lowest empty slot and a withdrawn
one leaves its slot empty; the records it targets are composed.
A refusal whose rule reports no record and no position has subject none (the model's choice: log 37). -/
def Obligations.NoticesTakeTheLowestSlot : Prop :=
  ∀ (l : LinkId) (tag : Byte) (body : List Byte) (s : State), portReady s l →
    let t := requestTaken l s
    (∀ b, bodyPostNotice body = .ok b →
      (∀ n e, s.now = some n → b.expiry = some e → e ≤ n →
        exec (.postNotice l tag body) s = .next (t.answer l tag 0x42#8 (.bad .expiry))) ∧
      (s.now = none ∨ b.expiry = none ∨ (∃ n e, s.now = some n ∧ b.expiry = some e ∧ n < e) →
        ((∀ i, i < 32 → Table.has s.resolver.notices i) →
          exec (.postNotice l tag body) s = .next (t.answer l tag 0x42#8 (.refuse .full))) ∧
        ∀ i, i < 32 → Table.has s.resolver.notices i = false → (∀ j, j < i → Table.has s.resolver.notices j) →
          let n : Notice :=
            { origin := l, target := b.target, text := b.text, urgent := b.urgent, expiry := b.expiry, posted := s.now }
          exec (.postNotice l tag body) s = .next
            (({ t with resolver := { s.resolver with notices := Table.put s.resolver.notices i n } }.composeTargets
              [b.target]).answer l tag 0x42#8 (.results (.slot i))))) ∧
    (∀ i, bodyOne body = .ok i → exec (.withdrawNotice l tag body) s = .next
      (if 32 ≤ i then t.answer l tag 0x43#8 (.bad .range)
       else match Table.get s.resolver.notices i with
         | none => t.answer l tag 0x43#8 (.refuse .notFound)
         | some n =>
           if n.origin ≠ l then t.answer l tag 0x43#8 (.refuse .denied)
           else ({ t with resolver := { s.resolver with notices := Table.del s.resolver.notices i } }.composeTargets
             [n.target]).answer l tag 0x43#8 .ok))

/-- R138 to R141: a hand-off composes the records it names and no other: those on the placements it names, those that looked a text
id up or would, those its notices target, those of a cabin. A record with a card in transit gets its recompose
mark; every other one will show the card its content class gives, and is in its segment's refresh queue when it is PLACED or
ORPHAN and got a new back card. At ALERT or MUSTER entry every record is composed, and the records in service whose back card
changed take their places at the end of the joining order, those on corridor and venue placements first, then those on doors, then
those on none, each group by address (R167); a record in transit is noted in its recompose mark, to move at the end of its transit
(the note is the model's own: log 36). -/
def Obligations.CompositionsShowTheCards : Prop :=
  ∀ (p : Nat → Display → Bool) (s : State), Table.wf s.dir = true →
    handedOff p s (s.composeWhere p) ∧ handedOff (fun _ _ => true) s s.composeEntry ∧
    (∀ q : Nat → Placement → Bool, handedOff (fun _ d => (s.standing d).any fun x => q x.1 x.2) s (s.composePlacements q)) ∧
    (∀ id, handedOff (fun _ d => d.looked.contains id || (s.compose d).2.2.contains id) s (s.composeText id)) ∧
    (∀ ts, handedOff (fun _ d => ts.any fun t => s.targets t d) s (s.composeTargets ts)) ∧
    (∀ c pressed, handedOff (fun _ d => match s.standing d with
        | some (_, pl) => pl.role == .door c
        | none => false) s (s.composeCabin c pressed) ∧
      ∀ k x, ((s.composeCabin c pressed).display k).buffers.backCard = some x →
        (s.display k).buffers.backCard ≠ some x → x.cause = if pressed = some k then .press else .other) ∧
    (∀ k, ((s.composeWhere p).display k).buffers ≠ (s.display k).buffers → ((s.display k).state.inService →
        keyAddr k ∈ ((s.composeWhere p).seg (keySeg k)).queue) ∧
      ((s.composeWhere p).display k).buffers.frontCard = (s.display k).buffers.frontCard) ∧
    (addressesValid s → entryPlaced s s.composeEntry)

/-- R122, R133, R137: in ALERT, MUSTER and STANDDOWN every record's class is SAFETY; in QUIET the notice that targets it, the first by
the four keys, then the duty content of its placement, then the parked card decide. The targets, standings and stations (R98).
R123, R125 to R131: the card of every kind with its languages, badge, marks, phase and lines, fitted to the display (R132), and the
text ids looked up for it (R84, R121). A title is looked up by its own id for the language, or by its id for language 0 in language
0; its secondary rendering is that id in the secondary language, and a label with no title found keeps its space (log 16). -/
def Obligations.ClassFollowsStateNoticeAndDuty : Prop :=
  (∀ (s : State) (d : Display), d.state ≠ .free →
      (s.classOf d = .safety ↔ s.muster.state ≠ .quiet) ∧
      (s.classOf d = .notice ↔ s.muster.state = .quiet ∧ ∃ x ∈ s.resolver.notices, s.targets x.2.target d = true) ∧
      (s.classOf d = .duty ↔ s.muster.state = .quiet ∧ (∀ x ∈ s.resolver.notices, s.targets x.2.target d = false) ∧
        ∃ p pl y, s.standing d = some (p, pl) ∧ s.dutyDraft pl = some y) ∧
      (∀ p pl, s.standing d = some (p, pl) ↔
        (d.state = .placed p ∨ ∃ c, d.state = .held (some p) c) ∧ Table.get s.activePlan.placements p = some pl) ∧
      s.targets .wholeSection d = true ∧
      (∀ p, s.targets (.placement p) d = true ↔ ∃ pl, s.standing d = some (p, pl)) ∧
      (∀ n, s.targets (.cabin n) d = true ↔ ∃ p pl c x,
        s.standing d = some (p, pl) ∧ pl.role = .door c ∧ Table.get s.activePlan.cabins c = some x ∧ x.number = n) ∧
      (∀ z, s.targets (.zone z) d = true ↔ ∃ p pl x,
        s.standing d = some (p, pl) ∧ Table.get s.activePlan.nodes pl.node = some x ∧ x.zone = z) ∧
      (Table.wf s.resolver.notices = true → ∀ n, s.shownNotice d = some n ↔
        ∃ i, Table.get s.resolver.notices i = some n ∧ s.targets n.target d = true ∧
          ∀ j m, j ≠ i → Table.get s.resolver.notices j = some m → s.targets m.target d = true → noticeFirst i n j m) ∧
      lineTotal (s.compose d).2.1.lines ≤ max d.cap.lines (s.compose d).2.1.lines.length) ∧
  (∀ (s : State) (pl : Placement), s.placementStation pl = match pl.role with
      | .door c => (s.cabin c).stationOverride.or ((Table.get s.activePlan.cabins c).map (·.station))
      | _ => (Table.get s.activePlan.nodes pl.node).bind fun x =>
        (Table.get s.muster.zoneOverrides x.zone).or ((Table.get s.activePlan.zones x.zone).map (·.station))) ∧
  (∀ (s : State) (d : Display), d.state ≠ .free →
      let timeline : Nat × Option Nat :=
        (s.prog.primary, if s.prog.secondary = s.prog.primary then none else some s.prog.secondary)
      let langs : Option Role → Nat × Option Nat := fun r => match r with
        | some (.door c) => ((s.cabin c).language, none)
        | _ => timeline
      let badge : Option Role → Badge := fun r => match r with
        | some (.door c) => ((Table.get s.activePlan.cabins c).map fun x => Badge.cabin x.number).getD .none
        | some (.venue v) => ((Table.get s.activePlan.venues v).map fun x => Badge.venue x.label).getD .none
        | _ => .none
      let drill : Marks := { Marks.clear with drill := s.muster.drill }
      let label : Nat → Text := fun v => ((Table.get s.activePlan.venues v).map (·.label)).getD []
      let time : Nat → Nat := fun v => (((v : Int) + s.prog.offset) % 1440).toNat
      let title : Event → Text × Text := fun e => match e.titles.get s.prog.primary, e.titles.get 0 with
        | some id, _ => s.rendered id s.prog.primary timeline.2
        | none, some id => s.rendered id 0 timeline.2
        | none, none => ([], [])
      let titleId : Event → List Nat := fun e => ((e.titles.get s.prog.primary).or (e.titles.get 0)).toList
      let events : Option Nat → List Event := fun x => (x.bind (Table.get s.prog.events)).toList
      let shows : CardKind → Nat × Option Nat → Badge → Marks → List Line → List Nat → Prop := fun kind ls b m lines ids =>
        cardIs d.cap kind ls b m none lines (s.compose d).2.1 ∧ (s.compose d).2.2 = ids
      (s.muster.state ≠ .quiet → s.standing d = none → (s.compose d).2.2 = [] ∧
        let phase : CardPhase := match s.muster.state with
          | .muster => .muster
          | .standdown _ => .standdown
          | _ => .alert
        cardIs d.cap .musterGeneric timeline .none drill (some phase)
          [.message (if phase = .standdown then .allClear else .followCrew)] (s.compose d).2.1) ∧
      (∀ p pl, s.standing d = some (p, pl) →
        let ls := langs (some pl.role)
        (∀ q, s.muster.state = .standdown q → shows .standdown ls .none drill [.message .allClear] []) ∧
        (∀ st x, s.placementStation pl = some st → Table.get s.activePlan.stations st = some x →
          let way : Line := .route (routeLookup s pl .station st)
          (s.muster.state = .alert → shows .alert ls (.station x.label) drill [way, .message .standBy] []) ∧
          (s.muster.state = .muster → shows .muster ls (.station x.label)
            (match pl.role with
              | .door c => { drill with
                  vacatedGuest := decide ((s.cabin c).vacated = .guest), vacatedCrew := decide ((s.cabin c).vacated = .crew) }
              | _ => drill)
            (way :: (Table.get s.resolver.instructions st).toList.map fun i => Line.message (.instruction i)) []))) ∧
      (s.muster.state = .quiet →
        (∀ n, s.shownNotice d = some n →
          let ls := langs (s.roleOf d)
          let t := s.rendered n.text ls.1 ls.2
          shows .notice ls (badge (s.roleOf d)) { Marks.clear with urgent := n.urgent } [.notice t.1 t.2] [n.text]) ∧
        (s.shownNotice d = none →
          (s.standing d = none → shows .parked timeline .none Marks.clear [.message .unassigned] []) ∧
          ∀ p pl, s.standing d = some (p, pl) →
            let ls := langs (some pl.role)
            let ids := (Table.get s.resolver.parked p).toList
            let welcome : List Line := match pl.role with
              | .door _ => []
              | _ => [.message .welcome]
            let parked := shows .parked ls (badge (some pl.role)) Marks.clear
              (welcome ++ ids.map fun id => .parked (s.rendered id ls.1 ls.2).1 (s.rendered id ls.1 ls.2).2) ids
            match pl.role with
            | .door c =>
              let r := s.cabin c
              if r.aboard = .count 0 then parked
              else shows .cabin ls (badge (some pl.role)) { Marks.clear with dnd := r.dnd, service := r.service }
                (r.name.toList.map fun id => .name (s.rendered id r.language none).1 []) r.name.toList
            | .corridor vs =>
              let board := events s.prog.onBoard
              if vs = [] ∧ board = [] then parked
              else shows .wayfind ls .none Marks.clear
                (vs.map (fun v => .sign (routeLookup s pl .venue v) (label v)) ++ board.map fun e =>
                  .onBoard e.category e.moved (time e.start) (routeLookup s pl .venue e.venue)
                    (label e.venue ++ [0x0020#16] ++ (title e).1) (title e).2)
                (board.flatMap titleId)
            | .venue v =>
              let now := events (s.choice v).now
              let next := events (s.choice v).next
              if now = [] ∧ next = [] then parked
              else shows .venue ls (badge (some pl.role)) Marks.clear
                (now.map (fun e => .now e.category (time e.start) (time e.stop) (title e).1 (title e).2) ++
                  next.map fun e => .next e.category e.moved (time e.start) (title e).1 (title e).2)
                ((now ++ next).flatMap titleId))))

/-! ## Enrolment (chapter 7) -/

/-- How sweeps are asked for and started (R148, R156): SWEEP, the automatic timer, and the start of a sweep that waits or has
been taken, with SWEEP OPEN and PRESENCE (which step sends them is the model's choice, log 15). The automatic timer's expiry is
taken at every time remaining (the model's choice: log 21). -/
def Obligations.SweepsStartAsAsked : Prop :=
  ∀ (g : Seg) (c : SweepCause) (tag : Byte) (body : List Byte) (s : State),
    let x := s.seg g
    let opened := { s with sent := [⟨g, .sweepOpen⟩, ⟨g, .presence⟩] }
    (portReady s .safety → bodySeg body = .ok g →
      let t := requestTaken .safety s
      exec (.sweep .safety tag body) s = .next
        (if x.requested ≠ .absent then t.answer .safety tag 0x23#8 (.refuse .busy)
         else
          let y := sweepAsked .request { x with requested := match x.activity with
            | .sweeping _ _ => .next
            | _ => .present }
          ((t.setSeg g y).setPort .safety
            { t.port .safety with inFlight := (s.port .safety).inFlight ++ [⟨.sweep, tag, some g⟩] }).answer .safety tag 0x23#8
              .accepted)) ∧
    (∀ n, x.autoTimer = some n → exec (.automaticSweepTimerExpiry g) s = .next
      (if ∃ a ∈ x.queue, s.backClass g a = some .safety then { s with sent := [] }.setSeg g { x with autoTimer := some 60 }
       else { s with sent := [] }.setSeg g (sweepAsked .automatic { x with autoTimer := none }))) ∧
    (x.activity = .waiting c → x.exchange = none →
      exec (.sweepStart g) s = .next (opened.setSeg g { sweepBegun c x with activity := .sweeping c .presence })) ∧
    (x.activity = .sweeping c .opening →
      exec (.sweepStart g) s = .next (opened.setSeg g { x with activity := .sweeping c .presence }))

/-- The rounds of a sweep (R149 to R151, R155): a presence query that finds no participant closes the sweep, and one that finds
some begins the 48 isolation rounds and the 8 check rounds, whose bits come most significant first. A wrong check or the identity 0
abandons the round, and the third in a row closes the sweep with CHECK FAILED. A SWEEP request that the sweep completes is entered
with the segment, the step code and the tallies (R155, R189). A sweep that the sweep-again mark starts at the close sends its
SWEEP OPEN in the step SWEEP_START (the
model's choice: log 15). -/
def Obligations.SweepRoundsFollowTheLine : Prop :=
  ∀ (g : Seg) (c : SweepCause) (b : Bool) (s : State),
    let x := s.seg g
    let sends : BusFrame → State := fun f => { s with sent := [⟨g, f⟩] }
    (x.activity = .sweeping c .presence →
      exec (.presence g true) s = .next ((sends (.bit 1)).setSeg g { x with activity := .sweeping c (.isolation 0 0#48) }) ∧
      ∃ t, exec (.presence g false) s = .next t ∧ onlySegment g s t ∧
        sweepClosed g c (if x.enrolled = 0 ∧ x.muted = 0 ∧ x.mismatch = 0 then .noneLeft else .complete) x s t) ∧
    (∀ n bits, x.activity = .sweeping c (.isolation n bits) →
      let y := BitVec.ofNat 48 (2 * bits.toNat + b.toNat)
      exec (.bit g b) s = .next
        (if n + 1 < 48 then (sends (.bit (n + 2))).setSeg g { x with activity := .sweeping c (.isolation (n + 1) y) }
         else (sends (.bit 49)).setSeg g { x with activity := .sweeping c (.check 0 y 0#8) })) ∧
    (∀ n i bits, x.activity = .sweeping c (.check n i bits) →
      let y := BitVec.ofNat 8 (2 * bits.toNat + b.toNat)
      (n + 1 < 8 → exec (.bit g b) s = .next
        ((sends (.bit (n + 50))).setSeg g { x with activity := .sweeping c (.check (n + 1) i y) })) ∧
      (8 ≤ n + 1 → (y ≠ identityCheck i ∨ i = 0#48) →
        (x.mismatch + 1 < 3 → exec (.bit g b) s = .next
          ((sends .presence).setSeg g { x with mismatch := x.mismatch + 1, activity := .sweeping c .presence })) ∧
        (3 ≤ x.mismatch + 1 → ∃ t, exec (.bit g b) s = .next t ∧ onlySegment g s t ∧
          sweepClosed g c .checkFailed { x with mismatch := x.mismatch + 1 } s t)))

/-- R150, both sides of the bus: with participants of distinct identities and a line free of faults, the 48 rounds isolate the
highest identity among them, the one display that holds it is the one that has not stood back, and the sweep enters CHECK. The
displays' side is the model's `DisplayUnit` (R147, log 23). -/
def Obligations.HighestIdentityIsIsolated : Prop :=
  ∀ (g : Seg) (c : SweepCause) (ds : List DisplayUnit) (s : State),
    (s.seg g).activity = .sweeping c (.isolation 0 0#48) →
    (ds.filter fun d => d.sweep == .participant) ≠ [] →
    ((ds.filter fun d => d.sweep == .participant).map (·.identity)).Nodup →
    ∃ t es m e, isolationRounds g 48 1 ds s = some (t, es) ∧ (t.seg g).activity = .sweeping c (.check 0 m 0#8) ∧
      (∃ d ∈ ds, d.sweep = .participant ∧ d.identity = m) ∧
      (∀ d ∈ ds, d.sweep = .participant → d.identity.toNat ≤ m.toNat) ∧
      (es.filter fun d => d.sweep == .participant) = [e] ∧ e.identity = m ∧ t.sent = [⟨g, .bit 49⟩]

/-- The cases of R152 in their order, for an identity whose check passed in round 56. The toggle, busy flag and attempt count of a
record freed in case 4 are the model's choice (log 38). A sweep that the sweep-again mark starts at the close sends its SWEEP
OPEN in the step SWEEP_START (the
model's choice: log 15). -/
def Obligations.AddressesFollowTheCases : Prop :=
  ∀ (g : Seg) (c : SweepCause) (b : Bool) (i : Identity) (bits : BitVec 8) (s : State), Table.wf s.dir = true →
    (s.seg g).activity = .sweeping c (.check 7 i bits) → BitVec.ofNat 8 (2 * bits.toNat + b.toNat) = identityCheck i → i ≠ 0#48 →
    let x := { s.seg g with mismatch := 0 }
    let holds : Nat → Prop := fun k => (s.display k).state ≠ .free ∧ (s.display k).identity = some i
    let here := ∃ k, keySeg k = g ∧ holds k
    let elsewhere := ∃ k, keySeg k ≠ g ∧ holds k ∧ (s.display k).state.inService
    let free : Nat → Prop := fun a => isAddress a ∧ (s.display (recKey g a)).state = .free
    let remembered : Nat → Option Identity := fun a => (s.display (recKey g a)).identity
    (here → ∃ k, keySeg k = g ∧ holds k ∧
      exec (.bit g b) s = .next ({ s with sent := [⟨g, .assign i (keyAddr k)⟩] }.setSeg g
        { x with activity := .sweeping c (.assign i (keyAddr k) 0) })) ∧
    (¬ here → elsewhere →
      exec (.bit g b) s = .next (({ s with sent := [⟨g, .mute i⟩, ⟨g, .presence⟩] }.setSeg g
        { x with muted := x.muted + 1, activity := .sweeping c .presence }).raise .safety .duplicateIdentity)) ∧
    (¬ here → ¬ elsewhere → (∀ a, ¬ free a) → ∃ t, exec (.bit g b) s = .next t ∧ onlySegment g s t ∧
      t.sent = [⟨g, .mute i⟩, ⟨g, .sweepClose⟩] ∧ sweepClosed g c .full { x with muted := x.muted + 1 } s t) ∧
    (¬ here → ¬ elsewhere → (∃ a, free a) → ∃ t a, exec (.bit g b) s = .next t ∧ free a ∧
      t.sent = [⟨g, .assign i a⟩] ∧ t.seg g = { x with activity := .sweeping c (.assign i a 0) } ∧
      (∀ h, h ≠ g → t.seg h = s.seg h) ∧
      (remembered a = some i ∧ (∀ e, e < a → free e → remembered e ≠ some i) ∨
       remembered a = none ∧ (∀ e, free e → remembered e ≠ some i) ∧ (∀ e, e < a → free e → remembered e ≠ none) ∨
       (∀ e, free e → remembered e ≠ some i ∧ remembered e ≠ none ∧ a ≤ e)) ∧
      (∀ k, t.display k = s.display k ∨ (keySeg k ≠ g ∧ holds k ∧ t.display k = Display.freed (some i))) ∧
      (∀ k, keySeg k ≠ g → holds k → (∀ j, keySeg j ≠ g → holds j → j = k) → t.display k = Display.freed (some i)))

/-- R153 and R154: a capability reply of the assigned identity enrols the display at the chosen address; a reply of another
identity (log 13) and the 5 ms timeout fail the attempt, and after the third the part sends DROP and closes the sweep.
The model's readings and choices, not the rules': the identity is looked up again at the reply (log 14), so that a HELD record of
another segment that holds it is freed then, and a PLACED or ORPHAN one makes the reply a duplicate, answered as case 2 of R152;
the toggle, busy flag and attempt count of the freed record (log 38); a sweep that the sweep-again mark starts at the close sends
its SWEEP OPEN in the step SWEEP_START (log 15). -/
def Obligations.CapabilityRepliesEnrolDisplays : Prop :=
  ∀ (g : Seg) (c : SweepCause) (i j : Identity) (a failed : Nat) (panel capacity lines firmware : Byte) (s : State),
    Table.wf s.dir = true → isAddress a → (s.seg g).activity = .sweeping c (.assign i a failed) →
    let x := s.seg g
    let d := s.display (recKey g a)
    ((∀ k, keySeg k ≠ g → (s.display k).state.inService → (s.display k).identity ≠ some i) →
      ∃ t, exec (.capabilityReply g 0 i panel capacity lines firmware) s = .next t ∧
        let e := t.display (recKey g a)
        ((∃ p pl, e.state = .placed p ∧ (p, pl) ∈ s.activePlan.placements ∧ pl.expected = some i) ∨
         (e.state = .orphan ∧ (∀ y ∈ s.activePlan.placements, y.2.expected ≠ some i) ∧
          .orphanSeen ∈ (t.port .safety).pendingSet)) ∧
        e.identity = some i ∧
        e.capability = some { panel := if panel = 0#8 then .epaper else .lcd, capacity := max 24 (min 64 capacity.toNat)
                              lines := max 4 (min 12 lines.toNat), firmware := firmware.toNat } ∧
        e.toggle = false ∧ e.busy = false ∧ e.attempts = 0 ∧ e.refreshLimit = none ∧ e.buffers.frontCard = none ∧
        e.credits = (if panel ≠ 0#8 then none else if d.state = .free ∨ ¬ d.isEpaper then some 6 else d.credits) ∧
        isComposed t (recKey g a) ∧ (t.inTransit (recKey g a) = false → e.buffers.backCard.isSome ∧ a ∈ (t.seg g).queue) ∧
        t.seg g = { x with enrolled := x.enrolled + 1, activity := .sweeping c .presence, queue := (t.seg g).queue } ∧
        t.sent = [⟨g, .presence⟩] ∧ (∀ h, h ≠ g → t.seg h = s.seg h) ∧
        (∀ k, k ≠ recKey g a → t.display k = s.display k ∨
          (keySeg k ≠ g ∧ (s.display k).state.isHeld ∧ (s.display k).identity = some i ∧ t.display k = Display.freed (some i)))) ∧
    ((∃ k, keySeg k ≠ g ∧ (s.display k).state.inService ∧ (s.display k).identity = some i) →
      exec (.capabilityReply g 0 i panel capacity lines firmware) s =
        .next (({ s with sent := [⟨g, .mute i⟩, ⟨g, .presence⟩] }.setSeg g
          { x with muted := x.muted + 1, activity := .sweeping c .presence }).raise .safety .duplicateIdentity)) ∧
    (j ≠ i →
      (failed + 1 < 3 →
        let t := { s with sent := [⟨g, .assign i a⟩] }.setSeg g { x with activity := .sweeping c (.assign i a (failed + 1)) }
        exec (.capabilityReply g 0 j panel capacity lines firmware) s = .next t ∧ exec (.assignReplyTimeout g) s = .next t) ∧
      (3 ≤ failed + 1 → ∃ t, exec (.capabilityReply g 0 j panel capacity lines firmware) s = .next t ∧
        exec (.assignReplyTimeout g) s = .next t ∧ onlySegment g s t ∧ t.sent = [⟨g, .drop i⟩, ⟨g, .sweepClose⟩] ∧
        sweepClosed g c .noAssignReply x s t))

/-- SEGMENT RESET (R157) and REVIVE (R159). BUS RESET is the one frame of the reset; the SWEEP OPEN of the sweep it starts is sent in
the step SWEEP_START (the model's choice: log 15). That the segment keeps its turn, and that the toggle expected of a freed record is
at its initial value, is the model's choice (log 38).
A refusal whose rule reports no record and no position has subject none (the model's choice: log 37). -/
def Obligations.SegmentResetAndReviveActOnTheDirectory : Prop :=
  ∀ (tag : Byte) (body : List Byte) (s : State), portReady s .safety →
    let t := requestTaken .safety s
    (∀ g, bodySeg body = .ok g → ∃ u, exec (.segmentReset .safety tag body) s = .next (u.answer .safety tag 0x24#8 .ok) ∧
      u.seg g = sweepBegun .segmentReset { s.seg g with
        exchange := none, queue := [], again := false
        requested := if (s.seg g).requested = .absent then .absent else .present } ∧
      (∀ h, h ≠ g → u.seg h = s.seg h) ∧ u.sent = [⟨g, .busReset⟩] ∧
      (∀ k, u.display k =
        if keySeg k = g ∧ (s.display k).state ≠ .free then Display.freed (s.display k).identity else s.display k) ∧
      SameBut [.dir, .segs] t u) ∧
    (∀ g a, bodyDisplay body = .ok (g, a) →
      let k := recKey g a
      ((s.display k).state = .free →
        exec (.revive .safety tag body) s = .next (t.answer .safety tag 0x25#8 (.refuse .notFound))) ∧
      ((s.display k).state.inService →
        exec (.revive .safety tag body) s = .next (t.answer .safety tag 0x25#8 (.refuse .state))) ∧
      (∀ prior cause, (s.display k).state = .held prior cause →
        ∃ u, exec (.revive .safety tag body) s = .next (u.answer .safety tag 0x25#8 .ok) ∧
          (u.display k).state = (match prior with
            | some p => .placed p
            | none => .orphan) ∧
          (u.display k).attempts = 0 ∧ (u.display k).busy = false ∧ (u.display k).toggle = (s.display k).toggle ∧
          (u.display k).credits = (s.display k).credits ∧
          (u.display k).buffers.frontCard = (s.display k).buffers.frontCard ∧
          ((s.display k).buffers.backCard.isSome → (u.display k).buffers.backCard.isSome) ∧
          ((u.display k).buffers.backCard.isSome → a ∈ (u.seg g).queue) ∧ isComposed u k ∧
          onlyRecord g k s u ∧ queueOnly (s.seg g) (u.seg g) ∧ SameBut [.dir, .segs] t u))

/-- R145: each identity belongs to at most one record that is not FREE, and each placement is bound to at most one record. Every step
keeps both, together with what they rest on: no plan that is or becomes active expects an identity twice (R13, R21), and a record
is bound to a placement that expects its identity. -/
def Obligations.IdentitiesStayDistinct : Prop :=
  ∀ (s t : State), addressesValid s → assignSound s → identitiesDistinct s → step s = .next t →
    addressesValid t ∧ assignSound t ∧ identitiesDistinct t ∧
    (tablesWf s → planKept s → editOrder s → plansDistinct s → boundAsExpected s →
      plansDistinct t ∧ boundAsExpected t ∧ placementsDistinct t)

/-! ## Delivery and guest keys (chapter 8) -/

/-- The scanner's choice (R163 to R166). The queue is ordered by class and then by joining; the first record in that order whose
card can be sent is chosen; the poll takes the next PLACED or ORPHAN address after the rotation position, while the inbound
queue has an entry that is free and not reserved; the turn is tried first. A command for an exchange on a segment that is not
free has no effect (log 25). -/
def Obligations.ScannerStartsTheChosenExchange : Prop :=
  ∀ (g : Seg) (s : State),
    let x := s.seg g
    let rec_ : Nat → Display := fun a => s.display (recKey g a)
    let noCard := ∀ a ∈ s.queueOrder g, ¬ canSend (rec_ a)
    let room := s.bus.inbound.length + (([0, 1, 2, 3] : List Seg).filter fun h => match (s.seg h).exchange with
      | some (.poll _) => true
      | _ => false).length < 48
    let served : Nat → Prop := fun a => isAddress a ∧ (rec_ a).state.inService
    let noPoll := ¬ (room ∧ ∃ a, served a)
    ((∀ a ∈ x.queue, (rec_ a).buffers.backCard.isSome) → (s.queueOrder g).Perm x.queue) ∧
    (∀ pre a post b post' c e, s.queueOrder g = pre ++ a :: post → post = b ++ e :: post' →
      s.backClass g a = some c → ∀ c', s.backClass g e = some c' → classRank c ≤ classRank c' ∧
        (c = c' → x.queue.Nodup → ∃ l m r, x.queue = l ++ a :: m ++ e :: r)) ∧
    (x.exchange = none → x.activity = .idle →
      (∀ pre a post c, s.queueOrder g = pre ++ a :: post → (∀ e ∈ pre, ¬ canSend (rec_ e)) → canSend (rec_ a) →
        (rec_ a).buffers.backCard = some c → x.turn = .card ∨ noPoll →
        exec (.cardExchange g) s = .next ({ s with sent := [⟨g, .card a (rec_ a).toggle c.card⟩] }.setSeg g
          { x with exchange := some (.card a) })) ∧
      (∀ a, room → served a → x.turn = .poll ∨ noCard →
        (x.rotation < a ∧ (∀ e, served e → x.rotation < e → a ≤ e) ∨ (∀ e, served e → e ≤ x.rotation ∧ a ≤ e)) →
        exec (.pollExchange g) s = .next ({ s with sent := [⟨g, .poll a⟩] }.setSeg g
          { x with exchange := some (.poll a), rotation := a }))) ∧
    (x.exchange ≠ none ∨ x.activity ≠ .idle →
      exec (.cardExchange g) s = .next { s with sent := [] } ∧ exec (.pollExchange g) s = .next { s with sent := [] })

/-- The outcomes of a card exchange (R169 to R174) and the refresh limit (R172), for a record in service. After an ACK the card
sent is the front card, and a display that answers ACK shows it and expects the record's toggle (R168), whatever it showed
before. A record whose recompose mark was set is composed then (R141); after a NAK or a miss it keeps its joining order, but one
noted at an entry into ALERT or MUSTER moves behind the records placed there when its back card is replaced (R167, log 36).
A record HELD at the outcome takes the card at an ACK, with no refresh limit and out of the queue, its attempt count back at 0
(log 29); a NAK or a miss ends its transit or poll alone. To a FREE one nothing is applied but the end of its transit (R173).
The outcomes of a poll exchange (R171, R173, R176, R177): NONE, NAK and REPORT set the attempt count back to 0 (a NAK of a HELD
record does not), a listed report joins the inbound queue in its reserved place, and a missed answer of a record in service counts.
The refresh limit's expiry is taken at every time remaining (the model's choice: log 21). -/
def Obligations.ExchangeOutcomesAreApplied : Prop :=
  (∀ (g : Seg) (a : Nat) (s : State), isAddress a →
      let k := recKey g a
      let d := s.display k
      let old := (s.seg g).queue
      let outcome : Instr → (State → Prop) → Prop := fun c after =>
        ∃ t, exec c s = .next t ∧ onlyRecord g k s t ∧ exchangeOver .poll (s.seg g) (t.seg g) ∧
          (t.display k).recompose = .clear ∧ after t
      let composed : State → Prop := fun t => d.recompose ≠ .clear → isComposed t k
      let accepted : StoredCard → Display → Prop := fun c e =>
        e.state = d.state ∧ e.buffers.frontCard = some c ∧ (d.recompose = .clear → e.buffers.backCard = none) ∧
        e.toggle = (!d.toggle) ∧ e.attempts = 0 ∧ e.busy = (d.busy || d.isEpaper) ∧
        e.credits = if d.isEpaper ∧ c.cls ≠ .safety ∧ c.cause ≠ .press then d.credits.map (· - 1) else d.credits
      (d.state.inService →
        ((s.seg g).exchange = some (.card a) →
          let requeued : State → Prop := fun t => ∀ pressed entry, d.recompose = .set pressed entry → (t.seg g).queue =
            if (t.display k).buffers.backCard = d.buffers.backCard then old
            else if entry then old.filter (· ≠ a) ++ [a]
            else if a ∈ old then old else old ++ [a]
          let kept : State → Prop := fun t =>
            (t.display k).state = d.state ∧ (t.display k).toggle = d.toggle ∧ (t.display k).credits = d.credits ∧
            (d.recompose = .clear → (t.display k).buffers = d.buffers ∧ (t.seg g).queue = old) ∧ composed t ∧ requeued t
          (∀ c, d.buffers.backCard = some c → outcome (.ack g a) fun t => accepted c (t.display k) ∧ composed t ∧
            (t.display k).refreshLimit = (if d.isEpaper then some 15 else d.refreshLimit) ∧
            (t.seg g).queue = old.filter (· ≠ a) ++ (if (t.display k).buffers.backCard.isSome then [a] else []) ∧
            ∀ (u : DisplayUnit) (line : Bool), u.reply (.card a d.toggle c.card) = some .ack →
              (u.hear line (.card a d.toggle c.card)).shown = some c.card ∧
              (u.hear line (.card a d.toggle c.card)).toggle = (t.display k).toggle) ∧
          outcome (.nak g a) (fun t => kept t ∧ (t.display k).busy = true ∧ (t.display k).attempts = 0 ∧
            (t.display k).refreshLimit = some (d.refreshLimit.getD 15)) ∧
          (d.attempts + 1 < 3 → outcome (.panelReplyTimeout g) fun t => kept t ∧
            (t.display k).attempts = d.attempts + 1 ∧ (t.display k).busy = d.busy ∧
            (t.display k).refreshLimit = d.refreshLimit) ∧
          (3 ≤ d.attempts + 1 →
            outcome (.panelReplyTimeout g) fun t => enteredHeld g a .noReply s t ∧ composed t)) ∧
        ∀ n, d.refreshLimit = some n → ∃ t, exec (.refreshLimitExpiry g a) s = .next t ∧ onlyRecord g k s t ∧
          (if d.busy then enteredHeld g a .refreshTimeout s t
           else t.display k = { d with refreshLimit := none } ∧ t.segs = s.segs)) ∧
      ((s.seg g).exchange = some (.card a) → d.state.isHeld →
        (∀ c, d.buffers.backCard = some c → outcome (.ack g a) fun t => accepted c (t.display k) ∧ composed t ∧
          (t.display k).refreshLimit = d.refreshLimit ∧ (t.seg g).queue = old.filter (· ≠ a)) ∧
        ∀ c ∈ [Instr.nak g a, .panelReplyTimeout g], outcome c fun t => composed t ∧ (t.seg g).queue = old ∧
          t.display k = { d with
            recompose := .clear, buffers := (t.display k).buffers, looked := (t.display k).looked } ∧
          (d.recompose = .clear → t.display k = d)) ∧
      ((s.seg g).exchange = some (.card a) → d.state = .free →
        ∀ c ∈ [Instr.ack g a, .nak g a, .panelReplyTimeout g], outcome c fun t =>
          t.display k = { d with recompose := .clear } ∧ (t.seg g).queue = old)) ∧
  (∀ (g : Seg) (a : Nat) (s : State), isAddress a → (s.seg g).exchange = some (.poll a) →
      let k := recKey g a
      let d := s.display k
      let ends : Instr → Nat → List InboundEntry → Prop := fun c n es =>
        ∃ t, exec c s = .next t ∧ onlyRecord g k s t ∧ exchangeOver .card (s.seg g) (t.seg g) ∧
          (t.seg g).queue = (s.seg g).queue ∧ t.display k = { d with attempts := n } ∧
          t.bus = { s.bus with inbound := s.bus.inbound ++ es } ∧ SameBut [.dir, .segs, .bus] s t
      let valid := if d.state = .free then d.attempts else 0
      ends (.pollNone g a) valid [] ∧ ends (.pollNak g a) (if d.state.inService then 0 else d.attempts) [] ∧
      (∀ o : Bool,
        let ob : Byte := if o then 1#8 else 0#8
        ends (.report g a 0#8 0#8 ob) valid [⟨g, a, .press .vacated, o⟩] ∧
        ends (.report g a 0#8 1#8 ob) valid [⟨g, a, .press .dnd, o⟩] ∧
        ends (.report g a 0#8 2#8 ob) valid [⟨g, a, .press .service, o⟩] ∧
        ends (.report g a 1#8 0#8 ob) valid [⟨g, a, .refreshDone, o⟩] ∧
        ∀ c : Byte, c ≠ 0#8 → ends (.report g a 2#8 c ob) valid [⟨g, a, .fault c.toNat, o⟩]) ∧
      (¬ d.state.inService → ends (.panelReplyTimeout g) d.attempts []) ∧
      (d.state.inService → d.attempts + 1 < 3 → ends (.panelReplyTimeout g) (d.attempts + 1) []) ∧
      (d.state.inService → 3 ≤ d.attempts + 1 → ∃ t, exec (.panelReplyTimeout g) s = .next t ∧ onlyRecord g k s t ∧
        exchangeOver .card (s.seg g) (t.seg g) ∧ enteredHeld g a .noReply s t ∧ t.bus = s.bus))

/-- The dispatcher (R111, R177 to R180): the oldest entry is taken, its overrun mark first, and acted on by its kind against its
record as it stands. A press that changed its cabin gives a new card of the pressing record the cause PRESS, and one of the cabin's
other doors OTHER (R139).
READ GUEST REQUESTS (R181) and the credit refill (R175), which is taken at every time remaining of the refill timer (the model's
choice: log 21). -/
def Obligations.DispatcherActsOnTheOldestEntry : Prop :=
  (∀ (e : InboundEntry) (rest : List InboundEntry) (s : State), s.bus.inbound = e :: rest → isAddress e.addr →
      let k := recKey e.seg e.addr
      let d := s.display k
      let taken := { s with sent := [], bus := { s.bus with inbound := rest } }
      let u := if e.overrun = true ∧ d.state.inService = true then taken.setDisplay k { d with busy := false, refreshLimit := none }
        else taken
      let offered : State → Nat → GuestKind → State := fun v number kind =>
        if v.bus.guests.length < 16 then
          { v with bus := { v.bus with
              guests := v.bus.guests ++ [(⟨number, kind, v.now, v.bus.lossNote || e.overrun⟩ : GuestEntry)]
              lossNote := false } }.raise .hotel .guestRequest
        else { v with bus := { v.bus with overflow := true, lossNote := true } }
      (e.kind = .refreshDone → d.state.inService →
        exec .dispatch s = .next (u.setDisplay k { u.display k with busy := false, refreshLimit := none })) ∧
      (e.kind = .refreshDone → d.state.isHeld → exec .dispatch s = .next (u.setDisplay k { d with busy := false })) ∧
      (∀ n, e.kind = .fault n → d.state.inService → ∃ t, exec .dispatch s = .next t ∧
        enteredHeld e.seg e.addr .displayFault u t ∧ onlyRecord e.seg k u t ∧ t.bus = u.bus) ∧
      (∀ n, e.kind = .fault n → d.state.isHeld → exec .dispatch s = .next u) ∧
      ((∀ p c pl, d.state = .placed p → Table.get s.activePlan.placements p = some pl → pl.role ≠ .door c) →
        (∀ x, e.kind = .press x → exec .dispatch s = .next u)) ∧
      (d.state = .free → exec .dispatch s = .next taken) ∧
      (∀ p c pl cab x, d.state = .placed p → Table.get s.activePlan.placements p = some pl → pl.role = .door c →
        Table.get s.activePlan.cabins c = some cab → e.kind = .press x →
        let r := s.cabin c
        ∃ t v, exec .dispatch s = .next t ∧
          (match x with
            | .vacated =>
              if s.muster.state = .muster ∧ r.aboard ≠ .count 0 ∧ r.vacated = .no then
                cabinStored c { r with vacated := .guest } (some k) u t
              else t = u
            | .dnd =>
              if s.muster.state = .quiet ∨ s.muster.state = .alert then
                cabinStored c { r with dnd := !r.dnd } (some k) u v ∧ t = offered v cab.number (if r.dnd then .dndOff else .dndOn)
              else t = u
            | .service =>
              if s.muster.state = .quiet ∨ s.muster.state = .alert then
                cabinStored c { r with service := true } (some k) u v ∧ t = offered v cab.number .service
              else t = u))) ∧
  (∀ (tag : Byte) (body : List Byte) (s : State),
      (portReady s .hotel → ∀ n, bodyOne body = .ok n →
        let t := requestTaken .hotel s
        exec (.readGuestRequests .hotel tag body) s = .next
          (if n = 0 then t.answer .hotel tag 0x3C#8 (.bad .range)
           else { t with bus := { s.bus with guests := s.bus.guests.drop (min n 8), overflow := false } }.answer .hotel tag 0x3C#8
            (.results (.guestRequests (s.bus.guests.take (min n 8)) s.bus.overflow (s.bus.guests.length - min n 8))))) ∧
      ∃ t, exec .creditRefill s = .next t ∧ t.bus = { s.bus with refill := 600 } ∧ SameBut [.bus, .dir] s t ∧
        ∀ k, t.display k = { s.display k with credits := (s.display k).credits.map fun c => if c < 6 then c + 1 else c })

/-! ## Reset and invariants -/

/-- R26 and start-up: what a reset leaves in the retained store with each write in flight, and every block from it. Where R26 gives
old or new, either may be found (a free value, log 4); the areas that write does not carry keep their content, and a waiting latch
write is discarded. With no destination in the plan the first computation is complete at once
(R57, R62). That each segment's BUS RESET is sent within the RESET step is the model's choice (log 15), and so is that the level of
the alarm line and the waiting commands stay (log 30). -/
def Obligations.ResetKeepsTheRetainedAreas : Prop :=
  ∀ (s : State), ∃ t, exec .reset s = .next t ∧
    let kept : RetainedStore :=
      { s.store with fixed := if s.store.plan.isSome then s.store.fixed else [], inFlight := none, waiting := none }
    (match s.store.inFlight with
      | none => t.store = kept
      | some (.commit _) => t.store = { kept with plan := none, fixed := [] }
      | some (.bind p i loser) => ∃ x,
          (x = s.store.plan ∨ x = s.store.plan.map fun a => { a with plan := applyBind a.plan p i loser }) ∧
          t.store = { kept with plan := x }
      | some (.fixedDetour f) => ∃ x, (x = s.store.fixed ∨ x = Table.put s.store.fixed f.zone ⟨f.blocked, f.opened, true⟩) ∧
          t.store = { kept with fixed := if s.store.plan.isSome then x else [] }
      | some (.latch w) => ∃ x,
          (x = s.store.latch ∨ x = match w with
            | .set d => ⟨true, d⟩
            | .clear => ⟨false, false⟩) ∧
          t.store = { kept with latch := x }
      | some (.settings (.timers o h)) => ∃ x y, (x = s.store.overdueTime ∨ x = o) ∧ (y = s.store.holdTime ∨ y = h) ∧
          t.store = { kept with overdueTime := x, holdTime := y }
      | some (.settings (.silence .safety n)) => ∃ x, (x = s.store.silenceSafety ∨ x = n) ∧
          t.store = { kept with silenceSafety := x }
      | some (.settings (.silence .hotel n)) => ∃ x, (x = s.store.silenceHotel ∨ x = n) ∧
          t.store = { kept with silenceHotel := x }) ∧
    t.plan = { active := t.store.plan, shadow := .empty, edit := .closed } ∧
    t.cond = { edges := [], slots := t.store.fixed, writing := none, progress := 0, fields := none, remainders := [] } ∧
    (∀ a, t.plan.active = some a → computationStarted a
      { State.reset.route with profile := if t.store.latch.set then .safety else .normal, dests := t.destList } t) ∧
    (t.plan.active = none → t.route = { State.reset.route with profile := if t.store.latch.set then .safety else .normal }) ∧
    strandedFollows (t.plan.active.isSome = true) State.reset t ∧
    t.prog = State.reset.prog ∧ t.resolver = State.reset.resolver ∧ t.dir = [] ∧ t.segs = State.reset.segs ∧
    t.bus = State.reset.bus ∧ t.sent = State.reset.sent ∧ t.alarmLine = s.alarmLine ∧ t.pending = s.pending ∧
    t.ports = ⟨Port.initial .safety t.store.silenceSafety, Port.initial .hotel t.store.silenceHotel⟩ ∧
    t.muster.state = (if t.store.latch.set then .muster else .quiet) ∧
    t.muster.drill = (t.store.latch.set && t.store.latch.drill) ∧ t.muster.latchCopy = t.store.latch ∧
    t.muster.overdue = (if t.store.latch.set then .running (t.store.overdueTime * 60) else .stopped) ∧
    t.muster.hold = none ∧ t.muster.overdueTime = t.store.overdueTime ∧ t.muster.holdTime = t.store.holdTime ∧
    t.muster.watch = (if s.alarmLine then .timing 2 else .idle) ∧ t.muster.zoneOverrides = [] ∧ t.muster.stranded = [] ∧
    t.muster.tallySerial = 0 ∧ (∀ i, t.cabin i = CabinState.initial) ∧ tallyCounts t

/-- The retained store and the plan edit (R8, R12, R14, R22, R25, R37): every step keeps the active plan equal to the retained one, a
latch write waiting only behind a write in flight, a commit write in flight exactly in COMMITTING, no shadow plan in CLOSED, an
open edit in QUIET alone, and the condition table's fixed-detour write the one in flight. -/
def Obligations.StoreAndEditInvariantIsKept : Prop :=
  ∀ (s t : State), planKept s → writeOrder s → editOrder s → editQuiet s → detourWrite s → step s = .next t →
    planKept t ∧ writeOrder t ∧ editOrder t ∧ editQuiet t ∧ detourWrite t

/-- The muster (R46, R62, R93, R105, R106, R107, R109, R113, R116): every step keeps the latch copy equal to the retained latch, the
latch clear and no latch-set write about in QUIET and ALERT, the timers running in their states, the tally equal to the count of
the cabins, and the routing profile that of the muster state. -/
def Obligations.MusterInvariantIsKept : Prop :=
  ∀ (s t : State), latchQuiet s → latchKept s → timersInState s → tallyCounts s → profileFits s → planlessIdle s →
    markInFlight s → step s = .next t →
    latchQuiet t ∧ latchKept t ∧ timersInState t ∧ tallyCounts t ∧ profileFits t ∧ planlessIdle t ∧ markInFlight t

/-- The directory and the queues (R143, R164, R174, R177, R180): every step keeps records at valid addresses, each refresh queue
exactly the records in service whose back buffer holds a card, credits within 0..6, the inbound queue and its reservations
within 48 and the guest requests within 16.
Every step keeps the keys of every table strictly rising, those of the active, shadow and retained plans and of a running
computation's snapshot among them (the model's canonical form, log 33). -/
def Obligations.DeliveryInvariantIsKept : Prop :=
  (∀ (s t : State), addressesValid s → queueExact s → creditsBounded s → queuesBounded s → step s = .next t →
      addressesValid t ∧ queueExact t ∧ creditsBounded t ∧ queuesBounded t) ∧
  (∀ (s t : State), tablesWf s → step s = .next t → tablesWf t)

/-- The state right after reset meets every invariant stated. What no rule gives a value for (log 5) the invariants do not name. -/
def Obligations.ResetStateMeetsTheInvariants : Prop :=
  let s := State.reset
  planKept s ∧ writeOrder s ∧ editOrder s ∧ editQuiet s ∧ detourWrite s ∧ latchQuiet s ∧ latchKept s ∧ timersInState s ∧
  tallyCounts s ∧ profileFits s ∧ planlessIdle s ∧ markInFlight s ∧ addressesValid s ∧ queueExact s ∧ creditsBounded s ∧
  queuesBounded s ∧ tablesWf s ∧ assignSound s ∧ identitiesDistinct s ∧ plansDistinct s ∧ boundAsExpected s ∧ placementsDistinct s

/-! ## Formats (chapter 10) -/

/-- R204: two cards within the ranges of the layout have equal records exactly when they are equal, and no record is longer than
1127 bytes. -/
def Obligations.CardRecordsAreUnique : Prop :=
  ∀ (c d : Card), cardFits c → cardFits d → (c.encode = d.encode ↔ c = d) ∧ c.encode.length ≤ 1127

/-- R203: the frames of the displays' replies. Every reply reads back from its frame, with its address; a frame whose check fails
reads as none. A reply stands for its command, a NAK for the exchange in flight. A reply of another address, and one of a kind that
the exchange or the sweep phase does not await, changes nothing (that the reply timeout then follows is the model's choice:
log 13).
The displays' side (R147, R168, R176), the model's `DisplayUnit` (log 23): a display answers with its capability record the ASSIGN of
its identity that it takes, and CARD and POLL only at the address it holds; it answers no other frame. -/
def Obligations.PanelRepliesReadBack : Prop :=
  (∀ (r : PanelReply) (a : Nat), a < 256 → readReply (r.encode a) = some (byte a, r)) ∧
  (∀ (start a kind h l c : Byte) (payload : List Byte) (g : Seg) (s : State),
    c ≠ crc8 (checkedBytes a.toNat kind payload) →
    readReply (start :: a :: kind :: h :: l :: payload ++ [c]) = none ∧
    replyCommand s g (start :: a :: kind :: h :: l :: payload ++ [c]) = none) ∧
  (∀ (g : Seg) (a : Nat) (s : State), isAddress a →
    let stands : PanelReply → Nat → Option Instr := fun r e => replyCommand s g (r.encode e)
    (∀ i p cap l f, stands (.capability i p cap l f) 0 = some (.capabilityReply g 0 i p cap l f)) ∧
    stands .ack a = some (.ack g a) ∧ stands .nothing a = some (.pollNone g a) ∧
    (∀ k c o, stands (.report k c o) a = some (.report g a k c o)) ∧
    (∀ e, (s.seg g).exchange = some (.card e) → stands .nak a = some (.nak g a)) ∧
    (∀ e, (s.seg g).exchange = some (.poll e) → stands .nak a = some (.pollNak g a))) ∧
  (∀ (g : Seg) (a : Nat) (k c o : Byte) (s : State),
    let same : Host.Outcome State Fault Refusal := .next { s with sent := [] }
    ((s.seg g).exchange ≠ some (.card a) → exec (.ack g a) s = same ∧ exec (.nak g a) s = same) ∧
    ((s.seg g).exchange ≠ some (.poll a) →
      exec (.pollNone g a) s = same ∧ exec (.pollNak g a) s = same ∧ exec (.report g a k c o) s = same) ∧
    ((∀ x i e n, (s.seg g).activity ≠ .sweeping x (.assign i e n)) →
      ∀ i p cap l f, exec (.capabilityReply g a i p cap l f) s = same)) ∧
  (∀ (u : DisplayUnit) (f : BusFrame) (line : Bool),
    (∀ i a, let taken := i = u.identity ∧ (u.sweep = .participant ∨ u.sweep = .stoodBack ∨ u.sweep = .unaddressed)
      (f = .assign i a → taken → u.reply f = some (.capability u.identity u.panel u.capacity u.lines u.firmware) ∧
        u.hear line f = { u with sweep := .addressed a, toggle := false }) ∧
      (f = .assign i a → ¬ taken → u.reply f = none ∧ u.hear line f = u)) ∧
    (∀ a x c, f = .card a x c → (u.sweep = .addressed a → u.reply f = some .ack ∨ u.reply f = some .nak) ∧
      (u.sweep ≠ .addressed a → u.reply f = none ∧ u.hear line f = u)) ∧
    (∀ a, f = .poll a → ((u.reply f).isSome ↔ u.sweep = .addressed a) ∧ (u.sweep ≠ .addressed a → u.hear line f = u)) ∧
    ((∀ i a, f ≠ .assign i a) → (∀ a x c, f ≠ .card a x c) → (∀ a, f ≠ .poll a) → u.reply f = none))
end

