-- ==== Sys2Proof/Laws/State.lean ====
section
/-! SUPPORT. One lemma per field per update of the state (refs/LEAN_PROOF_STRATEGIES.md, 2.3). -/

namespace Sys2Proof.Machine

variable (s : State)

theorem PerLink.get_set {α : Type} (p : PerLink α) (l : LinkId) (v : α) : (p.set l v).get l = v := by cases l <;> rfl

theorem PerLink.get_set_peer {α : Type} (p : PerLink α) (l : LinkId) (v : α) : (p.set l v).get l.peer = p.get l.peer := by
  cases l <;> rfl

theorem PerLink.get_set_ne {α : Type} (p : PerLink α) (l m : LinkId) (v : α) (h : m ≠ l) : (p.set l v).get m = p.get m := by
  cases l <;> cases m <;> first | rfl | exact absurd rfl h

@[simp] theorem PerSeg.get_set {α : Type} (p : PerSeg α) (g : Seg) (v : α) : (p.set g v).get g = v := by
  match g with
  | 0 | 1 | 2 | 3 => rfl

theorem PerSeg.get_set_ne {α : Type} (p : PerSeg α) (g h : Seg) (v : α) (hne : h ≠ g) : (p.set g v).get h = p.get h := by
  match g, h with
  | 0, 0 | 1, 1 | 2, 2 | 3, 3 => exact absurd rfl hne
  | 0, 1 | 0, 2 | 0, 3 | 1, 0 | 1, 2 | 1, 3 | 2, 0 | 2, 1 | 2, 3 | 3, 0 | 3, 1 | 3, 2 => rfl

@[simp] theorem State.setPort_store (l : LinkId) (p : Port) : (s.setPort l p).store = s.store := rfl
@[simp] theorem State.setPort_plan (l : LinkId) (p : Port) : (s.setPort l p).plan = s.plan := rfl
@[simp] theorem State.setPort_cond (l : LinkId) (p : Port) : (s.setPort l p).cond = s.cond := rfl
@[simp] theorem State.setPort_route (l : LinkId) (p : Port) : (s.setPort l p).route = s.route := rfl
@[simp] theorem State.setPort_prog (l : LinkId) (p : Port) : (s.setPort l p).prog = s.prog := rfl
@[simp] theorem State.setPort_muster (l : LinkId) (p : Port) : (s.setPort l p).muster = s.muster := rfl
@[simp] theorem State.setPort_resolver (l : LinkId) (p : Port) : (s.setPort l p).resolver = s.resolver := rfl
@[simp] theorem State.setPort_dir (l : LinkId) (p : Port) : (s.setPort l p).dir = s.dir := rfl
@[simp] theorem State.setPort_segs (l : LinkId) (p : Port) : (s.setPort l p).segs = s.segs := rfl
@[simp] theorem State.setPort_bus (l : LinkId) (p : Port) : (s.setPort l p).bus = s.bus := rfl
@[simp] theorem State.setPort_alarmLine (l : LinkId) (p : Port) : (s.setPort l p).alarmLine = s.alarmLine := rfl
@[simp] theorem State.setPort_sent (l : LinkId) (p : Port) : (s.setPort l p).sent = s.sent := rfl
@[simp] theorem State.setPort_freeCount (l : LinkId) (p : Port) : (s.setPort l p).freeCount = s.freeCount := rfl
@[simp] theorem State.setPort_pending (l : LinkId) (p : Port) : (s.setPort l p).pending = s.pending := rfl

@[simp] theorem State.modPort_store (l : LinkId) (f : Port → Port) : (s.modPort l f).store = s.store := rfl
@[simp] theorem State.modPort_plan (l : LinkId) (f : Port → Port) : (s.modPort l f).plan = s.plan := rfl
@[simp] theorem State.modPort_cond (l : LinkId) (f : Port → Port) : (s.modPort l f).cond = s.cond := rfl
@[simp] theorem State.modPort_route (l : LinkId) (f : Port → Port) : (s.modPort l f).route = s.route := rfl
@[simp] theorem State.modPort_prog (l : LinkId) (f : Port → Port) : (s.modPort l f).prog = s.prog := rfl
@[simp] theorem State.modPort_muster (l : LinkId) (f : Port → Port) : (s.modPort l f).muster = s.muster := rfl
@[simp] theorem State.modPort_resolver (l : LinkId) (f : Port → Port) : (s.modPort l f).resolver = s.resolver := rfl
@[simp] theorem State.modPort_dir (l : LinkId) (f : Port → Port) : (s.modPort l f).dir = s.dir := rfl
@[simp] theorem State.modPort_segs (l : LinkId) (f : Port → Port) : (s.modPort l f).segs = s.segs := rfl
@[simp] theorem State.modPort_bus (l : LinkId) (f : Port → Port) : (s.modPort l f).bus = s.bus := rfl
@[simp] theorem State.modPort_alarmLine (l : LinkId) (f : Port → Port) : (s.modPort l f).alarmLine = s.alarmLine := rfl
@[simp] theorem State.modPort_sent (l : LinkId) (f : Port → Port) : (s.modPort l f).sent = s.sent := rfl
@[simp] theorem State.modPort_freeCount (l : LinkId) (f : Port → Port) : (s.modPort l f).freeCount = s.freeCount := rfl
@[simp] theorem State.modPort_pending (l : LinkId) (f : Port → Port) : (s.modPort l f).pending = s.pending := rfl

@[simp] theorem State.setSeg_store (g : Seg) (x : Segment) : (s.setSeg g x).store = s.store := rfl
@[simp] theorem State.setSeg_plan (g : Seg) (x : Segment) : (s.setSeg g x).plan = s.plan := rfl
@[simp] theorem State.setSeg_cond (g : Seg) (x : Segment) : (s.setSeg g x).cond = s.cond := rfl
@[simp] theorem State.setSeg_route (g : Seg) (x : Segment) : (s.setSeg g x).route = s.route := rfl
@[simp] theorem State.setSeg_prog (g : Seg) (x : Segment) : (s.setSeg g x).prog = s.prog := rfl
@[simp] theorem State.setSeg_muster (g : Seg) (x : Segment) : (s.setSeg g x).muster = s.muster := rfl
@[simp] theorem State.setSeg_resolver (g : Seg) (x : Segment) : (s.setSeg g x).resolver = s.resolver := rfl
@[simp] theorem State.setSeg_dir (g : Seg) (x : Segment) : (s.setSeg g x).dir = s.dir := rfl
@[simp] theorem State.setSeg_bus (g : Seg) (x : Segment) : (s.setSeg g x).bus = s.bus := rfl
@[simp] theorem State.setSeg_ports (g : Seg) (x : Segment) : (s.setSeg g x).ports = s.ports := rfl
@[simp] theorem State.setSeg_alarmLine (g : Seg) (x : Segment) : (s.setSeg g x).alarmLine = s.alarmLine := rfl
@[simp] theorem State.setSeg_sent (g : Seg) (x : Segment) : (s.setSeg g x).sent = s.sent := rfl
@[simp] theorem State.setSeg_freeCount (g : Seg) (x : Segment) : (s.setSeg g x).freeCount = s.freeCount := rfl
@[simp] theorem State.setSeg_pending (g : Seg) (x : Segment) : (s.setSeg g x).pending = s.pending := rfl

@[simp] theorem State.modSeg_store (g : Seg) (f : Segment → Segment) : (s.modSeg g f).store = s.store := rfl
@[simp] theorem State.modSeg_plan (g : Seg) (f : Segment → Segment) : (s.modSeg g f).plan = s.plan := rfl
@[simp] theorem State.modSeg_cond (g : Seg) (f : Segment → Segment) : (s.modSeg g f).cond = s.cond := rfl
@[simp] theorem State.modSeg_route (g : Seg) (f : Segment → Segment) : (s.modSeg g f).route = s.route := rfl
@[simp] theorem State.modSeg_prog (g : Seg) (f : Segment → Segment) : (s.modSeg g f).prog = s.prog := rfl
@[simp] theorem State.modSeg_muster (g : Seg) (f : Segment → Segment) : (s.modSeg g f).muster = s.muster := rfl
@[simp] theorem State.modSeg_resolver (g : Seg) (f : Segment → Segment) : (s.modSeg g f).resolver = s.resolver := rfl
@[simp] theorem State.modSeg_dir (g : Seg) (f : Segment → Segment) : (s.modSeg g f).dir = s.dir := rfl
@[simp] theorem State.modSeg_bus (g : Seg) (f : Segment → Segment) : (s.modSeg g f).bus = s.bus := rfl
@[simp] theorem State.modSeg_ports (g : Seg) (f : Segment → Segment) : (s.modSeg g f).ports = s.ports := rfl
@[simp] theorem State.modSeg_alarmLine (g : Seg) (f : Segment → Segment) : (s.modSeg g f).alarmLine = s.alarmLine := rfl
@[simp] theorem State.modSeg_sent (g : Seg) (f : Segment → Segment) : (s.modSeg g f).sent = s.sent := rfl
@[simp] theorem State.modSeg_freeCount (g : Seg) (f : Segment → Segment) : (s.modSeg g f).freeCount = s.freeCount := rfl
@[simp] theorem State.modSeg_pending (g : Seg) (f : Segment → Segment) : (s.modSeg g f).pending = s.pending := rfl

@[simp] theorem State.setDisplay_store (k : Nat) (d : Display) : (s.setDisplay k d).store = s.store := rfl
@[simp] theorem State.setDisplay_plan (k : Nat) (d : Display) : (s.setDisplay k d).plan = s.plan := rfl
@[simp] theorem State.setDisplay_cond (k : Nat) (d : Display) : (s.setDisplay k d).cond = s.cond := rfl
@[simp] theorem State.setDisplay_route (k : Nat) (d : Display) : (s.setDisplay k d).route = s.route := rfl
@[simp] theorem State.setDisplay_prog (k : Nat) (d : Display) : (s.setDisplay k d).prog = s.prog := rfl
@[simp] theorem State.setDisplay_muster (k : Nat) (d : Display) : (s.setDisplay k d).muster = s.muster := rfl
@[simp] theorem State.setDisplay_resolver (k : Nat) (d : Display) : (s.setDisplay k d).resolver = s.resolver := rfl
@[simp] theorem State.setDisplay_segs (k : Nat) (d : Display) : (s.setDisplay k d).segs = s.segs := rfl
@[simp] theorem State.setDisplay_bus (k : Nat) (d : Display) : (s.setDisplay k d).bus = s.bus := rfl
@[simp] theorem State.setDisplay_ports (k : Nat) (d : Display) : (s.setDisplay k d).ports = s.ports := rfl
@[simp] theorem State.setDisplay_alarmLine (k : Nat) (d : Display) : (s.setDisplay k d).alarmLine = s.alarmLine := rfl
@[simp] theorem State.setDisplay_sent (k : Nat) (d : Display) : (s.setDisplay k d).sent = s.sent := rfl
@[simp] theorem State.setDisplay_freeCount (k : Nat) (d : Display) : (s.setDisplay k d).freeCount = s.freeCount := rfl
@[simp] theorem State.setDisplay_pending (k : Nat) (d : Display) : (s.setDisplay k d).pending = s.pending := rfl

@[simp] theorem State.send_store (g : Seg) (f : BusFrame) : (s.send g f).store = s.store := rfl
@[simp] theorem State.send_plan (g : Seg) (f : BusFrame) : (s.send g f).plan = s.plan := rfl
@[simp] theorem State.send_cond (g : Seg) (f : BusFrame) : (s.send g f).cond = s.cond := rfl
@[simp] theorem State.send_route (g : Seg) (f : BusFrame) : (s.send g f).route = s.route := rfl
@[simp] theorem State.send_prog (g : Seg) (f : BusFrame) : (s.send g f).prog = s.prog := rfl
@[simp] theorem State.send_muster (g : Seg) (f : BusFrame) : (s.send g f).muster = s.muster := rfl
@[simp] theorem State.send_resolver (g : Seg) (f : BusFrame) : (s.send g f).resolver = s.resolver := rfl
@[simp] theorem State.send_dir (g : Seg) (f : BusFrame) : (s.send g f).dir = s.dir := rfl
@[simp] theorem State.send_segs (g : Seg) (f : BusFrame) : (s.send g f).segs = s.segs := rfl
@[simp] theorem State.send_bus (g : Seg) (f : BusFrame) : (s.send g f).bus = s.bus := rfl
@[simp] theorem State.send_ports (g : Seg) (f : BusFrame) : (s.send g f).ports = s.ports := rfl
@[simp] theorem State.send_alarmLine (g : Seg) (f : BusFrame) : (s.send g f).alarmLine = s.alarmLine := rfl
@[simp] theorem State.send_freeCount (g : Seg) (f : BusFrame) : (s.send g f).freeCount = s.freeCount := rfl
@[simp] theorem State.send_pending (g : Seg) (f : BusFrame) : (s.send g f).pending = s.pending := rfl

@[simp] theorem State.begin_store : (s.begin).store = s.store := rfl
@[simp] theorem State.begin_plan : (s.begin).plan = s.plan := rfl
@[simp] theorem State.begin_cond : (s.begin).cond = s.cond := rfl
@[simp] theorem State.begin_route : (s.begin).route = s.route := rfl
@[simp] theorem State.begin_prog : (s.begin).prog = s.prog := rfl
@[simp] theorem State.begin_muster : (s.begin).muster = s.muster := rfl
@[simp] theorem State.begin_resolver : (s.begin).resolver = s.resolver := rfl
@[simp] theorem State.begin_dir : (s.begin).dir = s.dir := rfl
@[simp] theorem State.begin_segs : (s.begin).segs = s.segs := rfl
@[simp] theorem State.begin_bus : (s.begin).bus = s.bus := rfl
@[simp] theorem State.begin_ports : (s.begin).ports = s.ports := rfl
@[simp] theorem State.begin_alarmLine : (s.begin).alarmLine = s.alarmLine := rfl
@[simp] theorem State.begin_freeCount : (s.begin).freeCount = s.freeCount := rfl
@[simp] theorem State.begin_pending : (s.begin).pending = s.pending := rfl

@[simp] theorem State.raise_store (l : LinkId) (x : Source) : (s.raise l x).store = s.store := rfl
@[simp] theorem State.raise_plan (l : LinkId) (x : Source) : (s.raise l x).plan = s.plan := rfl
@[simp] theorem State.raise_cond (l : LinkId) (x : Source) : (s.raise l x).cond = s.cond := rfl
@[simp] theorem State.raise_route (l : LinkId) (x : Source) : (s.raise l x).route = s.route := rfl
@[simp] theorem State.raise_prog (l : LinkId) (x : Source) : (s.raise l x).prog = s.prog := rfl
@[simp] theorem State.raise_muster (l : LinkId) (x : Source) : (s.raise l x).muster = s.muster := rfl
@[simp] theorem State.raise_resolver (l : LinkId) (x : Source) : (s.raise l x).resolver = s.resolver := rfl
@[simp] theorem State.raise_dir (l : LinkId) (x : Source) : (s.raise l x).dir = s.dir := rfl
@[simp] theorem State.raise_segs (l : LinkId) (x : Source) : (s.raise l x).segs = s.segs := rfl
@[simp] theorem State.raise_bus (l : LinkId) (x : Source) : (s.raise l x).bus = s.bus := rfl
@[simp] theorem State.raise_alarmLine (l : LinkId) (x : Source) : (s.raise l x).alarmLine = s.alarmLine := rfl
@[simp] theorem State.raise_sent (l : LinkId) (x : Source) : (s.raise l x).sent = s.sent := rfl
@[simp] theorem State.raise_freeCount (l : LinkId) (x : Source) : (s.raise l x).freeCount = s.freeCount := rfl
@[simp] theorem State.raise_pending (l : LinkId) (x : Source) : (s.raise l x).pending = s.pending := rfl

@[simp] theorem State.clearSource_store (l : LinkId) (x : Source) : (s.clearSource l x).store = s.store := rfl
@[simp] theorem State.clearSource_plan (l : LinkId) (x : Source) : (s.clearSource l x).plan = s.plan := rfl
@[simp] theorem State.clearSource_cond (l : LinkId) (x : Source) : (s.clearSource l x).cond = s.cond := rfl
@[simp] theorem State.clearSource_route (l : LinkId) (x : Source) : (s.clearSource l x).route = s.route := rfl
@[simp] theorem State.clearSource_prog (l : LinkId) (x : Source) : (s.clearSource l x).prog = s.prog := rfl
@[simp] theorem State.clearSource_muster (l : LinkId) (x : Source) : (s.clearSource l x).muster = s.muster := rfl
@[simp] theorem State.clearSource_resolver (l : LinkId) (x : Source) : (s.clearSource l x).resolver = s.resolver := rfl
@[simp] theorem State.clearSource_dir (l : LinkId) (x : Source) : (s.clearSource l x).dir = s.dir := rfl
@[simp] theorem State.clearSource_segs (l : LinkId) (x : Source) : (s.clearSource l x).segs = s.segs := rfl
@[simp] theorem State.clearSource_bus (l : LinkId) (x : Source) : (s.clearSource l x).bus = s.bus := rfl
@[simp] theorem State.clearSource_alarmLine (l : LinkId) (x : Source) : (s.clearSource l x).alarmLine = s.alarmLine := rfl
@[simp] theorem State.clearSource_sent (l : LinkId) (x : Source) : (s.clearSource l x).sent = s.sent := rfl
@[simp] theorem State.clearSource_freeCount (l : LinkId) (x : Source) : (s.clearSource l x).freeCount = s.freeCount := rfl
@[simp] theorem State.clearSource_pending (l : LinkId) (x : Source) : (s.clearSource l x).pending = s.pending := rfl

@[simp] theorem State.abandonConfirm_store : (s.abandonConfirm).store = s.store := rfl
@[simp] theorem State.abandonConfirm_plan : (s.abandonConfirm).plan = s.plan := rfl
@[simp] theorem State.abandonConfirm_route : (s.abandonConfirm).route = s.route := rfl
@[simp] theorem State.abandonConfirm_prog : (s.abandonConfirm).prog = s.prog := rfl
@[simp] theorem State.abandonConfirm_muster : (s.abandonConfirm).muster = s.muster := rfl
@[simp] theorem State.abandonConfirm_resolver : (s.abandonConfirm).resolver = s.resolver := rfl
@[simp] theorem State.abandonConfirm_dir : (s.abandonConfirm).dir = s.dir := rfl
@[simp] theorem State.abandonConfirm_segs : (s.abandonConfirm).segs = s.segs := rfl
@[simp] theorem State.abandonConfirm_bus : (s.abandonConfirm).bus = s.bus := rfl
@[simp] theorem State.abandonConfirm_ports : (s.abandonConfirm).ports = s.ports := rfl
@[simp] theorem State.abandonConfirm_alarmLine : (s.abandonConfirm).alarmLine = s.alarmLine := rfl
@[simp] theorem State.abandonConfirm_sent : (s.abandonConfirm).sent = s.sent := rfl
@[simp] theorem State.abandonConfirm_freeCount : (s.abandonConfirm).freeCount = s.freeCount := rfl
@[simp] theorem State.abandonConfirm_pending : (s.abandonConfirm).pending = s.pending := rfl

@[simp] theorem State.answer_store (l : LinkId) (tag kind : Byte) (r : Reply) : (s.answer l tag kind r).store = s.store := rfl
@[simp] theorem State.answer_plan (l : LinkId) (tag kind : Byte) (r : Reply) : (s.answer l tag kind r).plan = s.plan := rfl
@[simp] theorem State.answer_cond (l : LinkId) (tag kind : Byte) (r : Reply) : (s.answer l tag kind r).cond = s.cond := rfl
@[simp] theorem State.answer_route (l : LinkId) (tag kind : Byte) (r : Reply) : (s.answer l tag kind r).route = s.route := rfl
@[simp] theorem State.answer_prog (l : LinkId) (tag kind : Byte) (r : Reply) : (s.answer l tag kind r).prog = s.prog := rfl
@[simp] theorem State.answer_muster (l : LinkId) (tag kind : Byte) (r : Reply) : (s.answer l tag kind r).muster = s.muster := rfl
@[simp] theorem State.answer_resolver (l : LinkId) (tag kind : Byte) (r : Reply) : (s.answer l tag kind r).resolver = s.resolver := rfl
@[simp] theorem State.answer_dir (l : LinkId) (tag kind : Byte) (r : Reply) : (s.answer l tag kind r).dir = s.dir := rfl
@[simp] theorem State.answer_segs (l : LinkId) (tag kind : Byte) (r : Reply) : (s.answer l tag kind r).segs = s.segs := rfl
@[simp] theorem State.answer_bus (l : LinkId) (tag kind : Byte) (r : Reply) : (s.answer l tag kind r).bus = s.bus := rfl
@[simp] theorem State.answer_alarmLine (l : LinkId) (tag kind : Byte) (r : Reply) : (s.answer l tag kind r).alarmLine = s.alarmLine := rfl
@[simp] theorem State.answer_sent (l : LinkId) (tag kind : Byte) (r : Reply) : (s.answer l tag kind r).sent = s.sent := rfl
@[simp] theorem State.answer_freeCount (l : LinkId) (tag kind : Byte) (r : Reply) : (s.answer l tag kind r).freeCount = s.freeCount := rfl
@[simp] theorem State.answer_pending (l : LinkId) (tag kind : Byte) (r : Reply) : (s.answer l tag kind r).pending = s.pending := rfl

@[simp] theorem State.startWrite_plan (w : Write) : (s.startWrite w).plan = s.plan := rfl
@[simp] theorem State.startWrite_cond (w : Write) : (s.startWrite w).cond = s.cond := rfl
@[simp] theorem State.startWrite_route (w : Write) : (s.startWrite w).route = s.route := rfl
@[simp] theorem State.startWrite_prog (w : Write) : (s.startWrite w).prog = s.prog := rfl
@[simp] theorem State.startWrite_muster (w : Write) : (s.startWrite w).muster = s.muster := rfl
@[simp] theorem State.startWrite_resolver (w : Write) : (s.startWrite w).resolver = s.resolver := rfl
@[simp] theorem State.startWrite_dir (w : Write) : (s.startWrite w).dir = s.dir := rfl
@[simp] theorem State.startWrite_segs (w : Write) : (s.startWrite w).segs = s.segs := rfl
@[simp] theorem State.startWrite_bus (w : Write) : (s.startWrite w).bus = s.bus := rfl
@[simp] theorem State.startWrite_ports (w : Write) : (s.startWrite w).ports = s.ports := rfl
@[simp] theorem State.startWrite_alarmLine (w : Write) : (s.startWrite w).alarmLine = s.alarmLine := rfl
@[simp] theorem State.startWrite_sent (w : Write) : (s.startWrite w).sent = s.sent := rfl
@[simp] theorem State.startWrite_freeCount (w : Write) : (s.startWrite w).freeCount = s.freeCount := rfl
@[simp] theorem State.startWrite_pending (w : Write) : (s.startWrite w).pending = s.pending := rfl

@[simp] theorem State.finishWrite_plan : (s.finishWrite).plan = s.plan := rfl
@[simp] theorem State.finishWrite_cond : (s.finishWrite).cond = s.cond := rfl
@[simp] theorem State.finishWrite_route : (s.finishWrite).route = s.route := rfl
@[simp] theorem State.finishWrite_prog : (s.finishWrite).prog = s.prog := rfl
@[simp] theorem State.finishWrite_muster : (s.finishWrite).muster = s.muster := rfl
@[simp] theorem State.finishWrite_resolver : (s.finishWrite).resolver = s.resolver := rfl
@[simp] theorem State.finishWrite_dir : (s.finishWrite).dir = s.dir := rfl
@[simp] theorem State.finishWrite_segs : (s.finishWrite).segs = s.segs := rfl
@[simp] theorem State.finishWrite_bus : (s.finishWrite).bus = s.bus := rfl
@[simp] theorem State.finishWrite_ports : (s.finishWrite).ports = s.ports := rfl
@[simp] theorem State.finishWrite_alarmLine : (s.finishWrite).alarmLine = s.alarmLine := rfl
@[simp] theorem State.finishWrite_sent : (s.finishWrite).sent = s.sent := rfl
@[simp] theorem State.finishWrite_freeCount : (s.finishWrite).freeCount = s.freeCount := rfl
@[simp] theorem State.finishWrite_pending : (s.finishWrite).pending = s.pending := rfl

@[simp] theorem State.beginOp_store (l : LinkId) (e : OpEntry) : (s.beginOp l e).store = s.store := rfl
@[simp] theorem State.beginOp_plan (l : LinkId) (e : OpEntry) : (s.beginOp l e).plan = s.plan := rfl
@[simp] theorem State.beginOp_cond (l : LinkId) (e : OpEntry) : (s.beginOp l e).cond = s.cond := rfl
@[simp] theorem State.beginOp_route (l : LinkId) (e : OpEntry) : (s.beginOp l e).route = s.route := rfl
@[simp] theorem State.beginOp_prog (l : LinkId) (e : OpEntry) : (s.beginOp l e).prog = s.prog := rfl
@[simp] theorem State.beginOp_muster (l : LinkId) (e : OpEntry) : (s.beginOp l e).muster = s.muster := rfl
@[simp] theorem State.beginOp_resolver (l : LinkId) (e : OpEntry) : (s.beginOp l e).resolver = s.resolver := rfl
@[simp] theorem State.beginOp_dir (l : LinkId) (e : OpEntry) : (s.beginOp l e).dir = s.dir := rfl
@[simp] theorem State.beginOp_segs (l : LinkId) (e : OpEntry) : (s.beginOp l e).segs = s.segs := rfl
@[simp] theorem State.beginOp_bus (l : LinkId) (e : OpEntry) : (s.beginOp l e).bus = s.bus := rfl
@[simp] theorem State.beginOp_alarmLine (l : LinkId) (e : OpEntry) : (s.beginOp l e).alarmLine = s.alarmLine := rfl
@[simp] theorem State.beginOp_sent (l : LinkId) (e : OpEntry) : (s.beginOp l e).sent = s.sent := rfl
@[simp] theorem State.beginOp_freeCount (l : LinkId) (e : OpEntry) : (s.beginOp l e).freeCount = s.freeCount := rfl
@[simp] theorem State.beginOp_pending (l : LinkId) (e : OpEntry) : (s.beginOp l e).pending = s.pending := rfl

@[simp] theorem State.completeOp_store (k : OpKind) (g : Option Seg) (o : OpOutcome) : (s.completeOp k g o).store = s.store := rfl
@[simp] theorem State.completeOp_plan (k : OpKind) (g : Option Seg) (o : OpOutcome) : (s.completeOp k g o).plan = s.plan := rfl
@[simp] theorem State.completeOp_cond (k : OpKind) (g : Option Seg) (o : OpOutcome) : (s.completeOp k g o).cond = s.cond := rfl
@[simp] theorem State.completeOp_route (k : OpKind) (g : Option Seg) (o : OpOutcome) : (s.completeOp k g o).route = s.route := rfl
@[simp] theorem State.completeOp_prog (k : OpKind) (g : Option Seg) (o : OpOutcome) : (s.completeOp k g o).prog = s.prog := rfl
@[simp] theorem State.completeOp_muster (k : OpKind) (g : Option Seg) (o : OpOutcome) : (s.completeOp k g o).muster = s.muster := rfl
@[simp] theorem State.completeOp_resolver (k : OpKind) (g : Option Seg) (o : OpOutcome) : (s.completeOp k g o).resolver = s.resolver := rfl
@[simp] theorem State.completeOp_dir (k : OpKind) (g : Option Seg) (o : OpOutcome) : (s.completeOp k g o).dir = s.dir := rfl
@[simp] theorem State.completeOp_segs (k : OpKind) (g : Option Seg) (o : OpOutcome) : (s.completeOp k g o).segs = s.segs := rfl
@[simp] theorem State.completeOp_bus (k : OpKind) (g : Option Seg) (o : OpOutcome) : (s.completeOp k g o).bus = s.bus := rfl
@[simp] theorem State.completeOp_alarmLine (k : OpKind) (g : Option Seg) (o : OpOutcome) : (s.completeOp k g o).alarmLine = s.alarmLine := rfl
@[simp] theorem State.completeOp_sent (k : OpKind) (g : Option Seg) (o : OpOutcome) : (s.completeOp k g o).sent = s.sent := rfl
@[simp] theorem State.completeOp_freeCount (k : OpKind) (g : Option Seg) (o : OpOutcome) : (s.completeOp k g o).freeCount = s.freeCount := rfl
@[simp] theorem State.completeOp_pending (k : OpKind) (g : Option Seg) (o : OpOutcome) : (s.completeOp k g o).pending = s.pending := rfl

@[simp] theorem State.setCabin_store (i : Nat) (c : CabinState) : (s.setCabin i c).store = s.store := rfl
@[simp] theorem State.setCabin_plan (i : Nat) (c : CabinState) : (s.setCabin i c).plan = s.plan := rfl
@[simp] theorem State.setCabin_cond (i : Nat) (c : CabinState) : (s.setCabin i c).cond = s.cond := rfl
@[simp] theorem State.setCabin_route (i : Nat) (c : CabinState) : (s.setCabin i c).route = s.route := rfl
@[simp] theorem State.setCabin_prog (i : Nat) (c : CabinState) : (s.setCabin i c).prog = s.prog := rfl
@[simp] theorem State.setCabin_resolver (i : Nat) (c : CabinState) : (s.setCabin i c).resolver = s.resolver := rfl
@[simp] theorem State.setCabin_dir (i : Nat) (c : CabinState) : (s.setCabin i c).dir = s.dir := rfl
@[simp] theorem State.setCabin_segs (i : Nat) (c : CabinState) : (s.setCabin i c).segs = s.segs := rfl
@[simp] theorem State.setCabin_bus (i : Nat) (c : CabinState) : (s.setCabin i c).bus = s.bus := rfl
@[simp] theorem State.setCabin_ports (i : Nat) (c : CabinState) : (s.setCabin i c).ports = s.ports := rfl
@[simp] theorem State.setCabin_alarmLine (i : Nat) (c : CabinState) : (s.setCabin i c).alarmLine = s.alarmLine := rfl
@[simp] theorem State.setCabin_sent (i : Nat) (c : CabinState) : (s.setCabin i c).sent = s.sent := rfl
@[simp] theorem State.setCabin_freeCount (i : Nat) (c : CabinState) : (s.setCabin i c).freeCount = s.freeCount := rfl
@[simp] theorem State.setCabin_pending (i : Nat) (c : CabinState) : (s.setCabin i c).pending = s.pending := rfl

@[simp] theorem State.joinQueue_store (k : Nat) : (s.joinQueue k).store = s.store := rfl
@[simp] theorem State.joinQueue_plan (k : Nat) : (s.joinQueue k).plan = s.plan := rfl
@[simp] theorem State.joinQueue_cond (k : Nat) : (s.joinQueue k).cond = s.cond := rfl
@[simp] theorem State.joinQueue_route (k : Nat) : (s.joinQueue k).route = s.route := rfl
@[simp] theorem State.joinQueue_prog (k : Nat) : (s.joinQueue k).prog = s.prog := rfl
@[simp] theorem State.joinQueue_muster (k : Nat) : (s.joinQueue k).muster = s.muster := rfl
@[simp] theorem State.joinQueue_resolver (k : Nat) : (s.joinQueue k).resolver = s.resolver := rfl
@[simp] theorem State.joinQueue_dir (k : Nat) : (s.joinQueue k).dir = s.dir := rfl
@[simp] theorem State.joinQueue_bus (k : Nat) : (s.joinQueue k).bus = s.bus := rfl
@[simp] theorem State.joinQueue_ports (k : Nat) : (s.joinQueue k).ports = s.ports := rfl
@[simp] theorem State.joinQueue_alarmLine (k : Nat) : (s.joinQueue k).alarmLine = s.alarmLine := rfl
@[simp] theorem State.joinQueue_sent (k : Nat) : (s.joinQueue k).sent = s.sent := rfl
@[simp] theorem State.joinQueue_freeCount (k : Nat) : (s.joinQueue k).freeCount = s.freeCount := rfl
@[simp] theorem State.joinQueue_pending (k : Nat) : (s.joinQueue k).pending = s.pending := rfl

@[simp] theorem State.leaveQueue_store (k : Nat) : (s.leaveQueue k).store = s.store := rfl
@[simp] theorem State.leaveQueue_plan (k : Nat) : (s.leaveQueue k).plan = s.plan := rfl
@[simp] theorem State.leaveQueue_cond (k : Nat) : (s.leaveQueue k).cond = s.cond := rfl
@[simp] theorem State.leaveQueue_route (k : Nat) : (s.leaveQueue k).route = s.route := rfl
@[simp] theorem State.leaveQueue_prog (k : Nat) : (s.leaveQueue k).prog = s.prog := rfl
@[simp] theorem State.leaveQueue_muster (k : Nat) : (s.leaveQueue k).muster = s.muster := rfl
@[simp] theorem State.leaveQueue_resolver (k : Nat) : (s.leaveQueue k).resolver = s.resolver := rfl
@[simp] theorem State.leaveQueue_dir (k : Nat) : (s.leaveQueue k).dir = s.dir := rfl
@[simp] theorem State.leaveQueue_bus (k : Nat) : (s.leaveQueue k).bus = s.bus := rfl
@[simp] theorem State.leaveQueue_ports (k : Nat) : (s.leaveQueue k).ports = s.ports := rfl
@[simp] theorem State.leaveQueue_alarmLine (k : Nat) : (s.leaveQueue k).alarmLine = s.alarmLine := rfl
@[simp] theorem State.leaveQueue_sent (k : Nat) : (s.leaveQueue k).sent = s.sent := rfl
@[simp] theorem State.leaveQueue_freeCount (k : Nat) : (s.leaveQueue k).freeCount = s.freeCount := rfl
@[simp] theorem State.leaveQueue_pending (k : Nat) : (s.leaveQueue k).pending = s.pending := rfl
@[simp] theorem State.moveLast_dir (k : Nat) : (s.moveLast k).dir = s.dir := rfl

@[simp] theorem State.startComputation_store : (s.startComputation).store = s.store := by
  unfold State.startComputation; split <;> [rfl; (dsimp only; split <;> rfl)]
@[simp] theorem State.startComputation_plan : (s.startComputation).plan = s.plan := by
  unfold State.startComputation; split <;> [rfl; (dsimp only; split <;> rfl)]
@[simp] theorem State.startComputation_cond : (s.startComputation).cond = s.cond := by
  unfold State.startComputation; split <;> [rfl; (dsimp only; split <;> rfl)]
@[simp] theorem State.startComputation_prog : (s.startComputation).prog = s.prog := by
  unfold State.startComputation; split <;> [rfl; (dsimp only; split <;> rfl)]
@[simp] theorem State.startComputation_muster : (s.startComputation).muster = s.muster := by
  unfold State.startComputation; split <;> [rfl; (dsimp only; split <;> rfl)]
@[simp] theorem State.startComputation_resolver : (s.startComputation).resolver = s.resolver := by
  unfold State.startComputation; split <;> [rfl; (dsimp only; split <;> rfl)]
@[simp] theorem State.startComputation_dir : (s.startComputation).dir = s.dir := by
  unfold State.startComputation; split <;> [rfl; (dsimp only; split <;> rfl)]
@[simp] theorem State.startComputation_segs : (s.startComputation).segs = s.segs := by
  unfold State.startComputation; split <;> [rfl; (dsimp only; split <;> rfl)]
@[simp] theorem State.startComputation_bus : (s.startComputation).bus = s.bus := by
  unfold State.startComputation; split <;> [rfl; (dsimp only; split <;> rfl)]
@[simp] theorem State.startComputation_ports : (s.startComputation).ports = s.ports := by
  unfold State.startComputation; split <;> [rfl; (dsimp only; split <;> rfl)]
@[simp] theorem State.startComputation_alarmLine : (s.startComputation).alarmLine = s.alarmLine := by
  unfold State.startComputation; split <;> [rfl; (dsimp only; split <;> rfl)]
@[simp] theorem State.startComputation_sent : (s.startComputation).sent = s.sent := by
  unfold State.startComputation; split <;> [rfl; (dsimp only; split <;> rfl)]
@[simp] theorem State.startComputation_freeCount : (s.startComputation).freeCount = s.freeCount := by
  unfold State.startComputation; split <;> [rfl; (dsimp only; split <;> rfl)]
@[simp] theorem State.startComputation_pending : (s.startComputation).pending = s.pending := by
  unfold State.startComputation; split <;> [rfl; (dsimp only; split <;> rfl)]

@[simp] theorem State.requestLatch_plan (w : LatchWrite) : (s.requestLatch w).plan = s.plan := by unfold State.requestLatch; split <;> rfl
@[simp] theorem State.requestLatch_cond (w : LatchWrite) : (s.requestLatch w).cond = s.cond := by unfold State.requestLatch; split <;> rfl
@[simp] theorem State.requestLatch_route (w : LatchWrite) : (s.requestLatch w).route = s.route := by unfold State.requestLatch; split <;> rfl
@[simp] theorem State.requestLatch_prog (w : LatchWrite) : (s.requestLatch w).prog = s.prog := by unfold State.requestLatch; split <;> rfl
@[simp] theorem State.requestLatch_muster (w : LatchWrite) : (s.requestLatch w).muster = s.muster := by unfold State.requestLatch; split <;> rfl
@[simp] theorem State.requestLatch_resolver (w : LatchWrite) : (s.requestLatch w).resolver = s.resolver := by unfold State.requestLatch; split <;> rfl
@[simp] theorem State.requestLatch_dir (w : LatchWrite) : (s.requestLatch w).dir = s.dir := by unfold State.requestLatch; split <;> rfl
@[simp] theorem State.requestLatch_segs (w : LatchWrite) : (s.requestLatch w).segs = s.segs := by unfold State.requestLatch; split <;> rfl
@[simp] theorem State.requestLatch_bus (w : LatchWrite) : (s.requestLatch w).bus = s.bus := by unfold State.requestLatch; split <;> rfl
@[simp] theorem State.requestLatch_ports (w : LatchWrite) : (s.requestLatch w).ports = s.ports := by unfold State.requestLatch; split <;> rfl
@[simp] theorem State.requestLatch_alarmLine (w : LatchWrite) : (s.requestLatch w).alarmLine = s.alarmLine := by unfold State.requestLatch; split <;> rfl
@[simp] theorem State.requestLatch_sent (w : LatchWrite) : (s.requestLatch w).sent = s.sent := by unfold State.requestLatch; split <;> rfl
@[simp] theorem State.requestLatch_freeCount (w : LatchWrite) : (s.requestLatch w).freeCount = s.freeCount := by unfold State.requestLatch; split <;> rfl
@[simp] theorem State.requestLatch_pending (w : LatchWrite) : (s.requestLatch w).pending = s.pending := by unfold State.requestLatch; split <;> rfl

@[simp] theorem State.raiseIf_true (l : LinkId) (x : Source) : s.raiseIf true l x = s.raise l x := rfl
@[simp] theorem State.raiseIf_false (l : LinkId) (x : Source) : s.raiseIf false l x = s := rfl

@[simp] theorem State.raiseIf_store (c : Bool) (l : LinkId) (x : Source) : (s.raiseIf c l x).store = s.store := by cases c <;> rfl
@[simp] theorem State.raiseIf_plan (c : Bool) (l : LinkId) (x : Source) : (s.raiseIf c l x).plan = s.plan := by cases c <;> rfl
@[simp] theorem State.raiseIf_cond (c : Bool) (l : LinkId) (x : Source) : (s.raiseIf c l x).cond = s.cond := by cases c <;> rfl
@[simp] theorem State.raiseIf_route (c : Bool) (l : LinkId) (x : Source) : (s.raiseIf c l x).route = s.route := by cases c <;> rfl
@[simp] theorem State.raiseIf_prog (c : Bool) (l : LinkId) (x : Source) : (s.raiseIf c l x).prog = s.prog := by cases c <;> rfl
@[simp] theorem State.raiseIf_muster (c : Bool) (l : LinkId) (x : Source) : (s.raiseIf c l x).muster = s.muster := by cases c <;> rfl
@[simp] theorem State.raiseIf_resolver (c : Bool) (l : LinkId) (x : Source) : (s.raiseIf c l x).resolver = s.resolver := by cases c <;> rfl
@[simp] theorem State.raiseIf_dir (c : Bool) (l : LinkId) (x : Source) : (s.raiseIf c l x).dir = s.dir := by cases c <;> rfl
@[simp] theorem State.raiseIf_segs (c : Bool) (l : LinkId) (x : Source) : (s.raiseIf c l x).segs = s.segs := by cases c <;> rfl
@[simp] theorem State.raiseIf_bus (c : Bool) (l : LinkId) (x : Source) : (s.raiseIf c l x).bus = s.bus := by cases c <;> rfl
@[simp] theorem State.raiseIf_alarmLine (c : Bool) (l : LinkId) (x : Source) : (s.raiseIf c l x).alarmLine = s.alarmLine := by cases c <;> rfl
@[simp] theorem State.raiseIf_sent (c : Bool) (l : LinkId) (x : Source) : (s.raiseIf c l x).sent = s.sent := by cases c <;> rfl
@[simp] theorem State.raiseIf_freeCount (c : Bool) (l : LinkId) (x : Source) : (s.raiseIf c l x).freeCount = s.freeCount := by cases c <;> rfl
@[simp] theorem State.raiseIf_pending (c : Bool) (l : LinkId) (x : Source) : (s.raiseIf c l x).pending = s.pending := by cases c <;> rfl

/-! ## Reading back -/

@[simp] theorem State.port_setPort (l : LinkId) (p : Port) : (s.setPort l p).port l = p := PerLink.get_set ..
@[simp] theorem State.port_modPort (l : LinkId) (f : Port → Port) : (s.modPort l f).port l = f (s.port l) := PerLink.get_set ..
@[simp] theorem State.port_modPort_peer (l : LinkId) (f : Port → Port) : (s.modPort l f).port l.peer = s.port l.peer :=
  PerLink.get_set_peer ..
theorem State.port_modPort_ne (l m : LinkId) (f : Port → Port) (h : m ≠ l) : (s.modPort l f).port m = s.port m :=
  PerLink.get_set_ne _ _ _ _ h
@[simp] theorem State.seg_setSeg (g : Seg) (x : Segment) : (s.setSeg g x).seg g = x := PerSeg.get_set ..
@[simp] theorem State.seg_modSeg (g : Seg) (f : Segment → Segment) : (s.modSeg g f).seg g = f (s.seg g) := PerSeg.get_set ..
theorem State.seg_modSeg_ne (g h : Seg) (f : Segment → Segment) (hne : h ≠ g) : (s.modSeg g f).seg h = s.seg h :=
  PerSeg.get_set_ne _ _ _ _ hne
@[simp] theorem State.begin_sent : s.begin.sent = [] := rfl
@[simp] theorem State.send_sent (g : Seg) (f : BusFrame) : (s.send g f).sent = s.sent ++ [⟨g, f⟩] := rfl

end Sys2Proof.Machine
end

