-- ==== Sys2Proof/Laws/Table.lean ====
section
/-! SUPPORT. Reading a table after an update, and the canonical form (keys strictly rising), which every table
operation keeps. -/

namespace Sys2Proof.Machine

variable {α β : Type}

/-! ## Reading back -/

@[simp] theorem Table.get_nil (k : Nat) : Table.get ([] : Table α) k = none := rfl

@[simp] theorem Table.get_put_same (t : Table α) (k : Nat) (v : α) : Table.get (Table.put t k v) k = some v := by
  induction t with
  | nil => simp [Table.put, Table.get]
  | cons x t ih =>
    obtain ⟨k', v'⟩ := x
    simp only [Table.put]
    split
    · simp [Table.get]
    · split
      · simp [Table.get]
      · simp [Table.get, *]

theorem Table.get_put_other (t : Table α) (k j : Nat) (v : α) (h : j ≠ k) : Table.get (Table.put t k v) j = Table.get t j := by
  induction t with
  | nil => simp [Table.put, Table.get, h]
  | cons x t ih =>
    obtain ⟨k', v'⟩ := x
    simp only [Table.put]
    split
    · simp [Table.get, h]
    · split
      · subst k'; simp [Table.get, h]
      · simp [Table.get, ih]

theorem Table.get_put (t : Table α) (k j : Nat) (v : α) :
    Table.get (Table.put t k v) j = if j = k then some v else Table.get t j := by
  split
  · subst k; simp
  · exact Table.get_put_other t k j v ‹_›

@[simp] theorem Table.get_del_same (t : Table α) (k : Nat) : Table.get (Table.del t k) k = none := by
  induction t with
  | nil => rfl
  | cons x t ih =>
    obtain ⟨k', v'⟩ := x
    simp only [Table.del]
    split
    · exact ih
    · simp [Table.get, *]

theorem Table.get_del_other (t : Table α) (k j : Nat) (h : j ≠ k) : Table.get (Table.del t k) j = Table.get t j := by
  induction t with
  | nil => rfl
  | cons x t ih =>
    obtain ⟨k', v'⟩ := x
    simp only [Table.del]
    split
    · subst k'; simp [Table.get, h, ih]
    · simp [Table.get, ih]

theorem Table.get_del (t : Table α) (k j : Nat) : Table.get (Table.del t k) j = if j = k then none else Table.get t j := by
  split
  · subst k; simp
  · exact Table.get_del_other t k j ‹_›

theorem Table.get_set (t : Table α) (k j : Nat) (v : Option α) :
    Table.get (Table.set t k v) j = if j = k then v else Table.get t j := by
  cases v with
  | none => simp [Table.set, Table.get_del]
  | some v => simp [Table.set, Table.get_put]

@[simp] theorem Table.get_mapVals (f : Nat → α → β) (t : Table α) (k : Nat) :
    Table.get (Table.mapVals f t) k = (Table.get t k).map (f k) := by
  induction t with
  | nil => rfl
  | cons x t ih =>
    obtain ⟨k', v'⟩ := x
    simp only [Table.mapVals, Table.get]
    split
    · subst k'; rfl
    · exact ih

@[simp] theorem Table.has_put (t : Table α) (k j : Nat) (v : α) :
    Table.has (Table.put t k v) j = (decide (j = k) || Table.has t j) := by
  by_cases h : j = k <;> simp [Table.has, Table.get_put, h]

/-! ## The canonical form -/

theorem Table.above_iff (k : Nat) (t : Table α) : Table.above k t = true ↔ ∀ x ∈ t, k < x.1 := by
  simp [Table.above]

theorem Table.above_trans {j k : Nat} {t : Table α} (hjk : j < k) (h : Table.above k t = true) : Table.above j t = true := by
  rw [Table.above_iff] at *
  exact fun x hx => Nat.lt_trans hjk (h x hx)

theorem Table.above_put {j k : Nat} {t : Table α} (v : α) (h : Table.above j t = true) (hk : j < k) :
    Table.above j (Table.put t k v) = true := by
  induction t with
  | nil => simp [Table.put, Table.above, hk]
  | cons x t ih =>
    obtain ⟨k', v'⟩ := x
    simp only [Table.above, List.all_cons, Bool.and_eq_true, decide_eq_true_eq] at h ih ⊢
    simp only [Table.put]
    split
    · simp [hk, h.1]; simpa using h.2
    · split
      · simp [hk]; simpa using h.2
      · simp [h.1]; simpa using ih h.2

theorem Table.wf_put {t : Table α} (k : Nat) (v : α) (h : Table.wf t = true) : Table.wf (Table.put t k v) = true := by
  induction t with
  | nil => simp [Table.put, Table.wf, Table.above]
  | cons x t ih =>
    obtain ⟨k', v'⟩ := x
    simp only [Table.wf, Bool.and_eq_true] at h
    simp only [Table.put]
    split
    · rename_i hlt
      simp only [Table.wf, Bool.and_eq_true]
      refine ⟨?_, h⟩
      rw [Table.above_iff]
      intro x hx
      rcases List.mem_cons.mp hx with rfl | hx
      · exact hlt
      · exact Nat.lt_trans hlt ((Table.above_iff _ _).mp h.1 x hx)
    · split
      · subst k'; simp [Table.wf, h]
      · simp only [Table.wf, Bool.and_eq_true]
        exact ⟨Table.above_put v h.1 (by omega), ih h.2⟩

theorem Table.mem_del {t : Table α} {k : Nat} {x : Nat × α} (h : x ∈ Table.del t k) : x ∈ t := by
  induction t with
  | nil => exact h
  | cons y t ih =>
    obtain ⟨k', v'⟩ := y
    simp only [Table.del] at h
    split at h
    · exact List.mem_cons_of_mem _ (ih h)
    · rcases List.mem_cons.mp h with rfl | h
      · exact List.mem_cons_self ..
      · exact List.mem_cons_of_mem _ (ih h)

theorem Table.wf_del {t : Table α} (k : Nat) (h : Table.wf t = true) : Table.wf (Table.del t k) = true := by
  induction t with
  | nil => rfl
  | cons x t ih =>
    obtain ⟨k', v'⟩ := x
    simp only [Table.wf, Bool.and_eq_true] at h
    simp only [Table.del]
    split
    · exact ih h.2
    · simp only [Table.wf, Bool.and_eq_true]
      refine ⟨?_, ih h.2⟩
      rw [Table.above_iff]
      exact fun x hx => (Table.above_iff _ _).mp h.1 x (Table.mem_del hx)

theorem Table.wf_set {t : Table α} (k : Nat) (v : Option α) (h : Table.wf t = true) : Table.wf (Table.set t k v) = true := by
  cases v with
  | none => exact Table.wf_del k h
  | some v => exact Table.wf_put k v h

theorem Table.mem_mapVals {f : Nat → α → β} {t : Table α} {x : Nat × β} (h : x ∈ Table.mapVals f t) :
    ∃ y ∈ t, x = (y.1, f y.1 y.2) := by
  induction t with
  | nil => cases h
  | cons y t ih =>
    obtain ⟨k', v'⟩ := y
    rcases List.mem_cons.mp h with rfl | h
    · exact ⟨_, List.mem_cons_self .., rfl⟩
    · obtain ⟨z, hz, rfl⟩ := ih h
      exact ⟨z, List.mem_cons_of_mem _ hz, rfl⟩

theorem Table.wf_mapVals (f : Nat → α → β) {t : Table α} (h : Table.wf t = true) : Table.wf (Table.mapVals f t) = true := by
  induction t with
  | nil => rfl
  | cons x t ih =>
    obtain ⟨k', v'⟩ := x
    simp only [Table.wf, Bool.and_eq_true] at h
    simp only [Table.mapVals, Table.wf, Bool.and_eq_true]
    refine ⟨?_, ih h.2⟩
    rw [Table.above_iff]
    intro x hx
    obtain ⟨y, hy, rfl⟩ := Table.mem_mapVals hx
    exact (Table.above_iff _ _).mp h.1 y hy

theorem Table.mem_keep {p : Nat → α → Bool} {t : Table α} {x : Nat × α} (h : x ∈ Table.keep p t) :
    x ∈ t ∧ p x.1 x.2 = true := by
  induction t with
  | nil => cases h
  | cons y t ih =>
    obtain ⟨k', v'⟩ := y
    simp only [Table.keep] at h
    split at h
    · rcases List.mem_cons.mp h with rfl | h
      · exact ⟨List.mem_cons_self .., ‹_›⟩
      · exact ⟨List.mem_cons_of_mem _ (ih h).1, (ih h).2⟩
    · exact ⟨List.mem_cons_of_mem _ (ih h).1, (ih h).2⟩

theorem Table.wf_keep (p : Nat → α → Bool) {t : Table α} (h : Table.wf t = true) : Table.wf (Table.keep p t) = true := by
  induction t with
  | nil => rfl
  | cons x t ih =>
    obtain ⟨k', v'⟩ := x
    simp only [Table.wf, Bool.and_eq_true] at h
    simp only [Table.keep]
    split
    · simp only [Table.wf, Bool.and_eq_true]
      refine ⟨?_, ih h.2⟩
      rw [Table.above_iff]
      exact fun x hx => (Table.above_iff _ _).mp h.1 x (Table.mem_keep hx).1
    · exact ih h.2

/-! ## Membership and reading agree in the canonical form -/

theorem Table.mem_of_get {t : Table α} {k : Nat} {v : α} (h : Table.get t k = some v) : (k, v) ∈ t := by
  induction t with
  | nil => simp at h
  | cons x t ih =>
    obtain ⟨k', v'⟩ := x
    simp only [Table.get] at h
    split at h
    · subst k'; cases h; exact List.mem_cons_self ..
    · exact List.mem_cons_of_mem _ (ih h)

theorem Table.get_of_mem {t : Table α} {k : Nat} {v : α} (hw : Table.wf t = true) (h : (k, v) ∈ t) :
    Table.get t k = some v := by
  induction t with
  | nil => cases h
  | cons x t ih =>
    obtain ⟨k', v'⟩ := x
    simp only [Table.wf, Bool.and_eq_true] at hw
    rcases List.mem_cons.mp h with he | h
    · cases he; simp [Table.get]
    · have hlt := (Table.above_iff _ _).mp hw.1 _ h
      simp only [Table.get]
      rw [if_neg (by simp only at hlt; omega)]
      exact ih hw.2 h

theorem Table.get_keep {p : Nat → α → Bool} {t : Table α} (hw : Table.wf t = true) (k : Nat) :
    Table.get (Table.keep p t) k = (Table.get t k).filter (p k) := by
  induction t with
  | nil => rfl
  | cons x t ih =>
    obtain ⟨k', v'⟩ := x
    simp only [Table.wf, Bool.and_eq_true] at hw
    simp only [Table.keep, Table.get]
    by_cases hk : k = k'
    · subst hk
      by_cases hp : p k v' = true
      · simp [hp, Table.get, Option.filter]
      · simp only [hp, Bool.false_eq_true, ↓reduceIte, ih hw.2, Option.filter]
        cases hg : Table.get t k with
        | none => rfl
        | some v =>
          have := (Table.above_iff _ _).mp hw.1 _ (Table.mem_of_get hg)
          simp at this
    · by_cases hp : p k' v' = true
      · simp [hp, Table.get, hk, ih hw.2]
      · simp [hp, hk, ih hw.2]

end Sys2Proof.Machine
end

