-- ==== Sys2Proof/Laws/Compose.lean ====
section
/-! SUPPORT. What a composition can do (R138 to R141), said once: it changes the card buffers, the recompose mark and
the text ids of display records, and refresh queues, and nothing else. -/

namespace Sys2Proof.Machine

/-! ## Reading a display record -/

@[simp] theorem State.display_setDisplay_same (s : State) (k : Nat) (d : Display) : (s.setDisplay k d).display k = d := by
  unfold State.display State.setDisplay
  split
  · subst d; simp
  · simp

theorem State.display_setDisplay_other (s : State) (k j : Nat) (d : Display) (h : j ≠ k) :
    (s.setDisplay k d).display j = s.display j := by
  unfold State.display State.setDisplay
  split
  · simp [Table.get_del_other _ _ _ h]
  · simp [Table.get_put_other _ _ _ _ h]

theorem State.display_setDisplay (s : State) (k j : Nat) (d : Display) :
    (s.setDisplay k d).display j = if j = k then d else s.display j := by
  split
  · subst k; simp
  · exact State.display_setDisplay_other s k j d ‹_›

theorem State.display_congr {s t : State} (h : t.dir = s.dir) (k : Nat) : t.display k = s.display k := by
  unfold State.display; rw [h]

/-! ## What stays -/

/-- `t` is `s` with other cards and refresh queues. -/
structure Composed (s t : State) : Prop where
  rest : t = { s with dir := t.dir, segs := t.segs }
  cards : ∀ k, cardsOnly (s.display k) (t.display k)
  queues : ∀ g, queueOnly (s.seg g) (t.seg g)
  wf : Table.wf s.dir = true → Table.wf t.dir = true

theorem cardsOnly.refl (a : Display) : cardsOnly a a := ⟨rfl, fun _ => rfl⟩

theorem cardsOnly.trans {a b c : Display} (h : cardsOnly a b) (h' : cardsOnly b c) : cardsOnly a c := by
  refine ⟨?_, ?_⟩
  · rw [h'.1, h.1]
  · intro hf
    have := h.2 hf
    subst this
    exact h'.2 hf

theorem queueOnly.refl (a : Segment) : queueOnly a a := rfl

theorem queueOnly.trans {a b c : Segment} (h : queueOnly a b) (h' : queueOnly b c) : queueOnly a c := by
  unfold queueOnly at *; rw [h', h]

theorem Composed.refl (s : State) : Composed s s :=
  ⟨rfl, fun _ => cardsOnly.refl _, fun _ => queueOnly.refl _, id⟩

theorem Composed.trans {s t u : State} (h : Composed s t) (h' : Composed t u) : Composed s u :=
  ⟨by rw [h'.rest, h.rest], fun k => (h.cards k).trans (h'.cards k), fun g => (h.queues g).trans (h'.queues g),
    fun w => h'.wf (h.wf w)⟩

/-! ## The operations -/

theorem wf_setDisplay {s : State} (k : Nat) (d : Display) (h : Table.wf s.dir = true) :
    Table.wf (s.setDisplay k d).dir = true := by
  unfold State.setDisplay
  split
  · exact Table.wf_del _ h
  · exact Table.wf_put _ _ h

theorem setDisplay_composed (s : State) (k : Nat) (d : Display) (h : cardsOnly (s.display k) d) : Composed s (s.setDisplay k d) := by
  refine ⟨?_, fun j => ?_, fun g => queueOnly.refl _, wf_setDisplay k d⟩
  · rfl
  · rw [State.display_setDisplay]
    split
    · subst j; exact h
    · exact cardsOnly.refl _

theorem modSeg_composed (s : State) (g : Seg) (f : Segment → Segment) (h : ∀ x, queueOnly x (f x)) : Composed s (s.modSeg g f) := by
  refine ⟨rfl, fun j => cardsOnly.refl _, fun i => ?_, id⟩
  by_cases hi : i = g
  · subst hi; rw [State.seg_modSeg]; exact h _
  · rw [State.seg_modSeg_ne _ _ _ _ hi]; exact queueOnly.refl _

theorem joinQueue_composed (s : State) (k : Nat) : Composed s (s.joinQueue k) := by
  apply modSeg_composed
  intro x
  unfold queueOnly
  split <;> rfl

theorem leaveQueue_composed (s : State) (k : Nat) : Composed s (s.leaveQueue k) := modSeg_composed _ _ _ fun _ => rfl

theorem moveLast_composed (s : State) (k : Nat) : Composed s (s.moveLast k) :=
  (leaveQueue_composed ..).trans (joinQueue_composed ..)

theorem composeRecord_composed (s : State) (k : Nat) (c : Cause) : Composed s (s.composeRecord k c).1 := by
  unfold State.composeRecord
  dsimp only
  split
  · exact Composed.refl s
  · rename_i hf
    have hf' : ∀ {P : Prop}, (s.display k).state = .free → P := fun h => absurd h hf
    split
    · exact setDisplay_composed _ _ _ ⟨rfl, hf'⟩
    · split
      · exact setDisplay_composed _ _ _ ⟨rfl, hf'⟩
      · dsimp only
        split
        · exact (setDisplay_composed _ _ _ ⟨rfl, hf'⟩).trans (joinQueue_composed _ _)
        · exact setDisplay_composed _ _ _ ⟨rfl, hf'⟩

theorem composeKeys_composed (s : State) (c : Nat → Cause) (ks : List Nat) : Composed s (s.composeKeys c ks).1 := by
  induction ks generalizing s with
  | nil => exact Composed.refl s
  | cons k ks ih => exact (composeRecord_composed s k (c k)).trans (ih _)

theorem composeWhere_composed (s : State) (p : Nat → Display → Bool) : Composed s (s.composeWhere p) :=
  composeKeys_composed ..

theorem composeAll_composed (s : State) : Composed s s.composeAll := composeWhere_composed ..

theorem composePlacements_composed (s : State) (p : Nat → Placement → Bool) : Composed s (s.composePlacements p) :=
  composeWhere_composed ..

theorem composeCabin_composed (s : State) (c : Nat) (k : Option Nat) : Composed s (s.composeCabin c k) :=
  composeKeys_composed ..

theorem composeText_composed (s : State) (id : Nat) : Composed s (s.composeText id) := composeWhere_composed ..

theorem composeTargets_composed (s : State) (ts : List Target) : Composed s (s.composeTargets ts) := composeWhere_composed ..

theorem composeRoutes_composed (s : State) : Composed s s.composeRoutes := composeWhere_composed ..

theorem placeEntry_composed (s : State) (g : Seg) (ks : List Nat) : Composed s (s.placeEntry g ks) := by
  unfold State.placeEntry
  exact modSeg_composed _ _ _ fun _ => rfl

theorem noteTransit_composed (s : State) (g : Seg) : Composed s (s.noteTransit g) := by
  unfold State.noteTransit
  dsimp only
  split
  · split
    · exact Composed.refl s
    · exact setDisplay_composed _ _ _ ⟨rfl, fun h => absurd h ‹_›⟩
  · exact Composed.refl s

theorem composeEntry_composed (s : State) : Composed s s.composeEntry := by
  unfold State.composeEntry
  dsimp only [List.foldl]
  have h : ∀ (t : State) (g : Seg) (ks : List Nat), Composed s t → Composed s ((t.placeEntry g ks).noteTransit g) :=
    fun t g ks ht => ht.trans ((placeEntry_composed ..).trans (noteTransit_composed ..))
  exact h _ _ _ (h _ _ _ (h _ _ _ (h _ _ _ (composeKeys_composed ..))))

/-! ## The fields a composition leaves -/

section
variable {s t : State} (h : Composed s t)
include h

theorem Composed.store_eq : t.store = s.store := by rw [h.rest]
theorem Composed.plan_eq : t.plan = s.plan := by rw [h.rest]
theorem Composed.cond_eq : t.cond = s.cond := by rw [h.rest]
theorem Composed.route_eq : t.route = s.route := by rw [h.rest]
theorem Composed.prog_eq : t.prog = s.prog := by rw [h.rest]
theorem Composed.muster_eq : t.muster = s.muster := by rw [h.rest]
theorem Composed.resolver_eq : t.resolver = s.resolver := by rw [h.rest]
theorem Composed.bus_eq : t.bus = s.bus := by rw [h.rest]
theorem Composed.ports_eq : t.ports = s.ports := by rw [h.rest]
theorem Composed.alarmLine_eq : t.alarmLine = s.alarmLine := by rw [h.rest]
theorem Composed.sent_eq : t.sent = s.sent := by rw [h.rest]
theorem Composed.freeCount_eq : t.freeCount = s.freeCount := by rw [h.rest]
theorem Composed.pending_eq : t.pending = s.pending := by rw [h.rest]

/-- State, identity, credits and the rest of a record that composition does not touch. -/
theorem Composed.state_eq (k : Nat) : (t.display k).state = (s.display k).state := by rw [(h.cards k).1]
theorem Composed.identity_eq (k : Nat) : (t.display k).identity = (s.display k).identity := by rw [(h.cards k).1]
theorem Composed.capability_eq (k : Nat) : (t.display k).capability = (s.display k).capability := by rw [(h.cards k).1]
theorem Composed.credits_eq (k : Nat) : (t.display k).credits = (s.display k).credits := by rw [(h.cards k).1]
theorem Composed.attempts_eq (k : Nat) : (t.display k).attempts = (s.display k).attempts := by rw [(h.cards k).1]
theorem Composed.activity_eq (g : Seg) : (t.seg g).activity = (s.seg g).activity := by rw [h.queues g]
theorem Composed.exchange_eq (g : Seg) : (t.seg g).exchange = (s.seg g).exchange := by rw [h.queues g]

end

end Sys2Proof.Machine
end

