-- ==== Sys2Proof/Laws/Frames.lean ====
section
/-! SUPPORT. What each shared operation leaves alone (`SameBut`), said once per operation: later proofs cite these
lemmas instead of unfolding the operation. -/

namespace Sys2Proof.Machine

/-! ## The calculus of `SameBut` -/

theorem SameBut.refl (ps : List Part) (s : State) : SameBut ps s s := ⟨fun p _ => by cases p <;> rfl⟩

theorem Part.same.trans {p : Part} {s t u : State} (h : p.same s t) (h' : p.same t u) : p.same s u := by
  cases p <;> exact Eq.trans h' h

theorem SameBut.trans {ps : List Part} {s t u : State} (h : SameBut ps s t) (h' : SameBut ps t u) : SameBut ps s u :=
  ⟨fun p hp => (h.keeps p hp).trans (h'.keeps p hp)⟩

theorem SameBut.mono {ps qs : List Part} {s t : State} (h : SameBut ps s t) (hs : ∀ p ∈ ps, p ∈ qs) : SameBut qs s t :=
  ⟨fun p hp => h.keeps p fun hq => hp (hs p hq)⟩

theorem Composed.same {s t : State} (h : Composed s t) : SameBut [.dir, .segs] s t := by
  refine ⟨fun p hp => ?_⟩
  rw [h.rest]
  cases p <;> first | rfl | exact absurd (by decide) hp

/-- Two states that differ in the listed parts by their very definition. -/
theorem SameBut.ite {c : Prop} [Decidable c] {ps : List Part} {s t u : State} (h : SameBut ps s t) (h' : SameBut ps s u) :
    SameBut ps s (if c then t else u) := by
  split <;> assumption

section
variable (s : State)

theorem begin_same : SameBut [] s s.begin := ⟨fun p _ => by cases p <;> rfl⟩
theorem send_same (g : Seg) (f : BusFrame) : SameBut [] s (s.send g f) := ⟨fun p _ => by cases p <;> rfl⟩

theorem setPort_same (l : LinkId) (p : Port) : SameBut [.ports] s (s.setPort l p) := by
  refine ⟨fun q h => ?_⟩; cases q <;> first | rfl | exact absurd (by decide) h

theorem modPort_same (l : LinkId) (f : Port → Port) : SameBut [.ports] s (s.modPort l f) := setPort_same ..
theorem raise_same (l : LinkId) (x : Source) : SameBut [.ports] s (s.raise l x) := setPort_same ..
theorem answer_same (l : LinkId) (tag kind : Byte) (r : Reply) : SameBut [.ports] s (s.answer l tag kind r) := setPort_same ..
theorem beginOp_same (l : LinkId) (e : OpEntry) : SameBut [.ports] s (s.beginOp l e) := setPort_same ..
theorem clearSource_same (l : LinkId) (x : Source) : SameBut [.ports] s (s.clearSource l x) := setPort_same ..

theorem raiseIf_same (c : Bool) (l : LinkId) (x : Source) : SameBut [.ports] s (s.raiseIf c l x) := by
  cases c
  · exact SameBut.refl _ _
  · exact raise_same ..

theorem completeOp_same (k : OpKind) (g : Option Seg) (o : OpOutcome) : SameBut [.ports] s (s.completeOp k g o) :=
  (modPort_same ..).trans (raise_same ..)

theorem setSeg_same (g : Seg) (x : Segment) : SameBut [.segs] s (s.setSeg g x) := by
  refine ⟨fun q h => ?_⟩; cases q <;> first | rfl | exact absurd (by decide) h

theorem modSeg_same (g : Seg) (f : Segment → Segment) : SameBut [.segs] s (s.modSeg g f) := setSeg_same ..

theorem setDisplay_same (k : Nat) (d : Display) : SameBut [.dir] s (s.setDisplay k d) := by
  refine ⟨fun q h => ?_⟩; cases q <;> first | rfl | exact absurd (by decide) h

theorem abandonConfirm_same : SameBut [.cond] s s.abandonConfirm := by
  refine ⟨fun q h => ?_⟩; cases q <;> first | rfl | exact absurd (by decide) h

theorem startWrite_same (w : Write) : SameBut [.store] s (s.startWrite w) := by
  refine ⟨fun q h => ?_⟩; cases q <;> first | rfl | exact absurd (by decide) h

theorem finishWrite_same : SameBut [.store] s s.finishWrite := by
  refine ⟨fun q h => ?_⟩; cases q <;> first | rfl | exact absurd (by decide) h

theorem requestLatch_same (w : LatchWrite) : SameBut [.store] s (s.requestLatch w) := by
  unfold State.requestLatch
  refine ⟨fun q h => ?_⟩
  split <;> cases q <;> first | rfl | exact absurd (by decide) h

/-! ## The route engine -/

theorem withRoute_same (r : RouteEngine) : SameBut [.route] s { s with route := r } := by
  refine ⟨fun q h => ?_⟩; cases q <;> first | rfl | exact absurd (by decide) h

theorem publish_same (sn : Snapshot) : SameBut [.route] s (s.publish sn) := withRoute_same ..

theorem startComputation_same : SameBut [.route] s s.startComputation := by
  unfold State.startComputation
  split
  · exact withRoute_same ..
  · dsimp only
    exact SameBut.ite ((withRoute_same ..).trans (publish_same ..)) (withRoute_same ..)

theorem changeProfile_same (p : Profile) : SameBut [.route] s (s.changeProfile p) := by
  unfold State.changeProfile
  split
  · exact SameBut.refl _ _
  · exact (withRoute_same ..).trans (startComputation_same _)

/-! ## The muster controller -/

theorem withMuster_same (m : MusterController) : SameBut [.muster] s { s with muster := m } := by
  refine ⟨fun q h => ?_⟩; cases q <;> first | rfl | exact absurd (by decide) h

theorem retally_same : SameBut [.muster, .ports] s s.retally := by
  unfold State.retally
  dsimp only
  split
  · exact SameBut.refl _ _
  · exact ((withMuster_same ..).mono (by decide)).trans ((raiseIf_same ..).mono (by decide))

/-- A generation without destinations strands nobody. -/
theorem strandedList_nil (g : Generation) (h : g.dests = []) : s.strandedList g = [] := by
  have hn : ∀ n st, noRouteTo g n st = false := by
    intro n st
    simp [noRouteTo, Generation.resultsFor, h]
  unfold State.strandedList
  simp only [hn, Bool.false_eq_true, if_false, List.append_eq_nil_iff, List.filterMap_eq_nil_iff]
  exact ⟨fun x _ => by split <;> rfl, fun x _ => by split <;> rfl⟩

theorem rebuildStranded_same : SameBut [.muster, .ports] s s.rebuildStranded := by
  unfold State.rebuildStranded
  split
  · exact SameBut.refl _ _
  · split
    · exact ((withMuster_same ..).mono (by decide)).trans ((raiseIf_same ..).mono (by decide))
    · exact SameBut.refl _ _

/-- From a generation without destinations nothing is raised. -/
theorem rebuildStranded_same_nil (h : ∀ g, s.route.published = some g → g.dests = []) : SameBut [.muster] s s.rebuildStranded := by
  unfold State.rebuildStranded
  split
  · exact SameBut.refl _ _
  · split
    · dsimp only
      rw [strandedList_nil _ _ (h _ ‹_›)]
      exact withMuster_same ..
    · exact SameBut.refl _ _

/-- A run of no passes publishes a generation without destinations (R57, R58). -/
theorem emptyRun_published (h : s.emptyRun = true) : ∀ g, s.startComputation.route.published = some g → g.dests = [] := by
  intro g hg
  unfold State.emptyRun at h
  obtain ⟨ha, hd⟩ := Bool.and_eq_true_iff.mp h
  obtain ⟨a, ha⟩ := Option.isSome_iff_exists.mp ha
  simp only [State.startComputation, ha, hd, if_true, State.publish, State.generationOf, Option.some.injEq] at hg
  rw [← hg]
  exact List.isEmpty_iff.mp hd

theorem strandedAtStart_same : SameBut [.muster, .ports] s s.strandedAtStart :=
  SameBut.ite (rebuildStranded_same s) (SameBut.refl _ _)

theorem handPublication_same : SameBut [.muster, .dir, .segs, .ports] s s.handPublication :=
  ((composeRoutes_composed _).same.mono (by decide)).trans ((rebuildStranded_same _).mono (by decide))

theorem runComputation_same : SameBut [.route, .muster, .dir, .segs] s s.runComputation := by
  unfold State.runComputation
  split
  · refine ((startComputation_same s).mono (by decide)).trans (((composeRoutes_composed _).same.mono (by decide)).trans
      ((rebuildStranded_same_nil _ ?_).mono (by decide)))
    rw [(composeRoutes_composed _).route_eq]
    exact emptyRun_published s ‹_›
  · exact (startComputation_same s).mono (by decide)

theorem trigger_same : SameBut [.route, .muster, .dir, .segs] s s.trigger := by
  unfold State.trigger
  split
  · exact SameBut.refl _ _
  · split
    · exact runComputation_same s
    · exact (withRoute_same ..).mono (by decide)

theorem triggerIf_same (c : Bool) : SameBut [.route, .muster, .dir, .segs] s (s.triggerIf c) :=
  SameBut.ite (trigger_same s) (SameBut.refl _ _)

@[simp] theorem State.trigger_store : s.trigger.store = s.store := (trigger_same s).keeps .store (by decide)
@[simp] theorem State.trigger_plan : s.trigger.plan = s.plan := (trigger_same s).keeps .plan (by decide)
@[simp] theorem State.trigger_cond : s.trigger.cond = s.cond := (trigger_same s).keeps .cond (by decide)
@[simp] theorem State.trigger_prog : s.trigger.prog = s.prog := (trigger_same s).keeps .prog (by decide)
@[simp] theorem State.trigger_resolver : s.trigger.resolver = s.resolver := (trigger_same s).keeps .resolver (by decide)
@[simp] theorem State.trigger_bus : s.trigger.bus = s.bus := (trigger_same s).keeps .bus (by decide)
@[simp] theorem State.trigger_ports : s.trigger.ports = s.ports := (trigger_same s).keeps .ports (by decide)
@[simp] theorem State.trigger_alarmLine : s.trigger.alarmLine = s.alarmLine := (trigger_same s).keeps .alarmLine (by decide)
@[simp] theorem State.trigger_freeCount : s.trigger.freeCount = s.freeCount := (trigger_same s).keeps .freeCount (by decide)
@[simp] theorem State.trigger_pending : s.trigger.pending = s.pending := (trigger_same s).keeps .pending (by decide)
@[simp] theorem State.triggerIf_store (c : Bool) : (s.triggerIf c).store = s.store := (triggerIf_same s c).keeps .store (by decide)
@[simp] theorem State.triggerIf_plan (c : Bool) : (s.triggerIf c).plan = s.plan := (triggerIf_same s c).keeps .plan (by decide)
@[simp] theorem State.triggerIf_cond (c : Bool) : (s.triggerIf c).cond = s.cond := (triggerIf_same s c).keeps .cond (by decide)
@[simp] theorem State.triggerIf_prog (c : Bool) : (s.triggerIf c).prog = s.prog := (triggerIf_same s c).keeps .prog (by decide)
@[simp] theorem State.triggerIf_resolver (c : Bool) : (s.triggerIf c).resolver = s.resolver := (triggerIf_same s c).keeps .resolver (by decide)
@[simp] theorem State.triggerIf_bus (c : Bool) : (s.triggerIf c).bus = s.bus := (triggerIf_same s c).keeps .bus (by decide)
@[simp] theorem State.triggerIf_ports (c : Bool) : (s.triggerIf c).ports = s.ports := (triggerIf_same s c).keeps .ports (by decide)
@[simp] theorem State.triggerIf_alarmLine (c : Bool) : (s.triggerIf c).alarmLine = s.alarmLine := (triggerIf_same s c).keeps .alarmLine (by decide)
@[simp] theorem State.triggerIf_freeCount (c : Bool) : (s.triggerIf c).freeCount = s.freeCount := (triggerIf_same s c).keeps .freeCount (by decide)
@[simp] theorem State.triggerIf_pending (c : Bool) : (s.triggerIf c).pending = s.pending := (triggerIf_same s c).keeps .pending (by decide)

theorem rebuildDests_same : SameBut [.route, .muster, .dir, .segs] s s.rebuildDests :=
  SameBut.ite (SameBut.refl _ _) (((withRoute_same ..).mono (by decide)).trans (trigger_same _))

theorem resumeComputation_same : SameBut [.route, .muster, .dir, .segs] s s.resumeComputation :=
  SameBut.ite (runComputation_same s) (SameBut.refl _ _)

theorem closeEdit_same : SameBut [.plan, .ports] s s.closeEdit := by
  unfold State.closeEdit
  split
  · refine SameBut.trans (t := { s with plan := { s.plan with edit := .closed, shadow := .empty } }) ?_
      ((raise_same ..).mono (by decide))
    refine ⟨fun q h => ?_⟩; cases q <;> first | rfl | exact absurd (by decide) h
  · exact SameBut.refl _ _

/-- What handing on a changed muster state may change. -/
theorem handMuster_same (m : MusterState) : SameBut [.plan, .ports, .route, .muster, .dir, .segs] s (s.handMuster m) := by
  unfold State.handMuster
  dsimp only
  have h1 : SameBut [.plan, .ports, .route, .muster, .dir, .segs] s (if isEntry m s.muster.state then s.closeEdit else s) :=
    SameBut.ite ((closeEdit_same s).mono (by decide)) (SameBut.refl _ _)
  generalize (if isEntry m s.muster.state = true then s.closeEdit else s) = s1 at h1 ⊢
  have h2 : SameBut [.plan, .ports, .route, .muster, .dir, .segs] s (s1.changeProfile s1.muster.state.profile) :=
    h1.trans ((changeProfile_same ..).mono (by decide))
  generalize s1.changeProfile s1.muster.state.profile = s2 at h2 ⊢
  have h3 : SameBut [.plan, .ports, .route, .muster, .dir, .segs] s
      (if isEntry m s.muster.state then s2.composeEntry else s2.composeAll) :=
    h2.trans (SameBut.ite ((composeEntry_composed _).same.mono (by decide)) ((composeAll_composed _).same.mono (by decide)))
  generalize (if isEntry m s.muster.state = true then s2.composeEntry else s2.composeAll) = s3 at h3 ⊢
  exact (SameBut.ite h3 (h3.trans ((strandedAtStart_same _).mono (by decide)))).trans ((raise_same ..).mono (by decide))

/-- Without an entry into ALERT or MUSTER no edit is closed. -/
theorem handMuster_same_calm (m : MusterState) (h : isEntry m s.muster.state = false) :
    SameBut [.ports, .route, .muster, .dir, .segs] s (s.handMuster m) := by
  unfold State.handMuster
  simp only [h]
  have h3 : SameBut [.ports, .route, .muster, .dir, .segs] s (s.changeProfile s.muster.state.profile).composeAll :=
    ((changeProfile_same ..).mono (by decide)).trans ((composeAll_composed _).same.mono (by decide))
  exact (SameBut.ite h3 (h3.trans ((strandedAtStart_same _).mono (by decide)))).trans ((raise_same ..).mono (by decide))

theorem isEntry_quiet (m : MusterState) : isEntry m .quiet = false := by simp [isEntry]

theorem isEntry_standdown (m : MusterState) (p : StandPhase) : isEntry m (.standdown p) = false := by simp [isEntry]

theorem isEntry_self (m : MusterState) : isEntry m m = false := by simp [isEntry]

theorem enterMuster_same (d : Bool) : SameBut [.store, .plan, .ports, .route, .muster, .dir, .segs] s (s.enterMuster d) := by
  unfold State.enterMuster
  exact (((withMuster_same ..).mono (by decide)).trans (((retally_same _).mono (by decide)).trans
    ((requestLatch_same ..).mono (by decide)))).trans ((handMuster_same ..).mono (by decide))

theorem resume_same (d : Bool) : SameBut [.store, .plan, .ports, .route, .muster, .dir, .segs] s (s.resume d) := by
  unfold State.resume
  exact ((withMuster_same ..).mono (by decide)).trans ((SameBut.ite ((requestLatch_same ..).mono (by decide))
    (SameBut.refl _ _)).trans ((handMuster_same ..).mono (by decide)))

theorem clearDrill_same : SameBut [.store, .ports, .route, .muster, .dir, .segs] s s.clearDrill := by
  unfold State.clearDrill
  dsimp only
  have h : SameBut [.store, .ports, .route, .muster, .dir, .segs] s
      (if s.latchHeld then { s with muster := { s.muster with drill := false } }.requestLatch (.set false)
        else { s with muster := { s.muster with drill := false } }) :=
    SameBut.ite (((withMuster_same ..).mono (by decide)).trans ((requestLatch_same ..).mono (by decide)))
      ((withMuster_same ..).mono (by decide))
  refine h.trans ((handMuster_same_calm _ _ ?_).mono (by decide))
  split <;> simp [isEntry_self]

theorem enterAlert_same (d : Bool) : SameBut [.plan, .ports, .route, .muster, .dir, .segs] s (s.enterAlert d) :=
  ((withMuster_same ..).mono (by decide)).trans ((handMuster_same ..).mono (by decide))

theorem cancelAlert_same : SameBut [.ports, .route, .muster, .dir, .segs] s s.cancelAlert :=
  ((withMuster_same ..).mono (by decide)).trans ((handMuster_same_calm _ _ (isEntry_quiet _)).mono (by decide))

theorem standDown_same : SameBut [.ports, .route, .muster, .dir, .segs] s s.standDown :=
  ((withMuster_same ..).mono (by decide)).trans ((handMuster_same_calm _ _ (isEntry_standdown _ _)).mono (by decide))

theorem retally_muster_state : s.retally.muster.state = s.muster.state := by
  unfold State.retally
  dsimp only
  split <;> simp

theorem returnToQuiet_same : SameBut [.ports, .route, .muster, .dir, .segs] s s.returnToQuiet := by
  unfold State.returnToQuiet
  refine ((withMuster_same ..).mono (by decide)).trans (((retally_same _).mono (by decide)).trans
    ((handMuster_same_calm _ _ ?_).mono (by decide)))
  rw [retally_muster_state]
  exact isEntry_quiet _

theorem storeLatch_same (x : Latch) : SameBut [.store, .muster] s (s.storeLatch x) := by
  unfold State.storeLatch
  refine SameBut.trans (t := { s with store := { s.store with latch := x }, muster := { s.muster with latchCopy := x } }) ?_
    ((finishWrite_same _).mono (by decide))
  refine ⟨fun q h => ?_⟩; cases q <;> first | rfl | exact absurd (by decide) h

theorem alarmEvent_same : SameBut [.store, .plan, .ports, .route, .muster, .dir, .segs] s s.alarmEvent := by
  unfold State.alarmEvent
  dsimp only
  have h : SameBut [.store, .plan, .ports, .route, .muster, .dir, .segs] s (s.raise .safety .musterByLine) :=
    (raise_same ..).mono (by decide)
  split
  · exact h.trans (enterMuster_same ..)
  · exact h.trans (enterMuster_same ..)
  · exact SameBut.ite (h.trans ((clearDrill_same _).mono (by decide))) h
  · exact h.trans (resume_same ..)

theorem setZoneStation_same (z : Nat) (st : Option Nat) : SameBut [.muster, .ports, .dir, .segs] s (s.setZoneStation z st) := by
  unfold State.setZoneStation
  dsimp only
  refine SameBut.ite ((withMuster_same ..).mono (by decide)) ?_
  exact ((withMuster_same ..).mono (by decide)).trans (((rebuildStranded_same _).mono (by decide)).trans
    ((composePlacements_composed ..).same.mono (by decide)))

theorem setCabin_same (i : Nat) (c : CabinState) : SameBut [.muster] s (s.setCabin i c) := withMuster_same ..

theorem changeCabin_same (i : Nat) (c : CabinState) (k : Option Nat) :
    SameBut [.muster, .ports, .dir, .segs] s (s.changeCabin i c k) := by
  unfold State.changeCabin
  split
  · exact SameBut.refl _ _
  · refine SameBut.trans ?_ ((composeCabin_composed ..).same.mono (by decide))
    have h : SameBut [.muster, .ports, .dir, .segs] s (s.setCabin i c).retally :=
      ((setCabin_same ..).mono (by decide)).trans ((retally_same _).mono (by decide))
    exact SameBut.ite h (h.trans ((rebuildStranded_same _).mono (by decide)))

/-! ## The programme timeline -/

theorem withProg_same (x : Timeline) : SameBut [.prog] s { s with prog := x } := by
  refine ⟨fun q h => ?_⟩; cases q <;> first | rfl | exact absurd (by decide) h

theorem handProgramme_same (vs : List Nat) : SameBut [.prog, .route, .muster, .dir, .segs] s (s.handProgramme vs) := by
  unfold State.handProgramme
  split
  · exact SameBut.refl _ _
  · exact ((withProg_same ..).mono (by decide)).trans ((rebuildDests_same _).mono (by decide))

theorem chooseAfresh_same (old : Table Event) : SameBut [.prog, .route, .muster, .dir, .segs] s (s.chooseAfresh old) := by
  unfold State.chooseAfresh
  exact ((withProg_same ..).mono (by decide)).trans (((handProgramme_same ..).mono (by decide)).trans
    ((composePlacements_composed ..).same.mono (by decide)))

theorem withResolver_same (x : Resolver) : SameBut [.resolver] s { s with resolver := x } := by
  refine ⟨fun q h => ?_⟩; cases q <;> first | rfl | exact absurd (by decide) h

theorem expireNotices_same (n : Nat) : SameBut [.resolver, .dir, .segs] s (s.expireNotices n) := by
  unfold State.expireNotices
  exact ((withResolver_same ..).mono (by decide)).trans ((composeTargets_composed ..).same.mono (by decide))

theorem evaluateMinute_same (n : Nat) : SameBut [.prog, .route, .muster, .resolver, .dir, .segs] s (s.evaluateMinute n) := by
  unfold State.evaluateMinute
  exact ((withProg_same ..).mono (by decide)).trans (((chooseAfresh_same ..).mono (by decide)).trans
    ((expireNotices_same ..).mono (by decide)))

theorem storeEvent_same (id : Nat) (e : Event) : SameBut [.prog, .route, .muster, .dir, .segs] s (s.storeEvent id e) :=
  ((withProg_same ..).mono (by decide)).trans ((chooseAfresh_same ..).mono (by decide))

theorem dropEvent_same (id : Nat) : SameBut [.prog, .route, .muster, .dir, .segs] s (s.dropEvent id) :=
  ((withProg_same ..).mono (by decide)).trans ((chooseAfresh_same ..).mono (by decide))

theorem storeText_same (id lang : Nat) (t : Option Text) : SameBut [.prog, .dir, .segs] s (s.storeText id lang t) := by
  unfold State.storeText
  split
  · exact SameBut.refl _ _
  · exact ((withProg_same ..).mono (by decide)).trans ((composeText_composed ..).same.mono (by decide))

/-! ## Completions -/

theorem commitStore_same (n : Nat) : SameBut [.store, .plan] s (commitStore n s) := by
  refine ⟨fun q h => ?_⟩; cases q <;> first | rfl | exact absurd (by decide) h

theorem commitConditions_same : SameBut [.cond] s (commitConditions s) := by
  refine ⟨fun q h => ?_⟩; cases q <;> first | rfl | exact absurd (by decide) h

theorem commitCarry_same (old : Plan) : SameBut [.muster, .resolver] s (commitCarry old s) := by
  refine ⟨fun q h => ?_⟩; cases q <;> first | rfl | exact absurd (by decide) h

theorem withDir_same (d : Table Display) : SameBut [.dir] s { s with dir := d } := by
  refine ⟨fun q h => ?_⟩; cases q <;> first | rfl | exact absurd (by decide) h

theorem commitMatch_same : SameBut [.dir, .ports] s (commitMatch s) := by
  unfold commitMatch
  exact ((withDir_same ..).mono (by decide)).trans ((raiseIf_same ..).mono (by decide))

theorem commitSelection_same : SameBut [.prog] s (commitSelection s) := withProg_same ..

theorem commitRoutes_same : SameBut [.route] s (commitRoutes s) := (withRoute_same ..).trans (startComputation_same _)

theorem bindPlans_same (p : Nat) (i : Identity) (l : Option Nat) : SameBut [.store, .plan] s (bindPlans p i l s) := by
  refine ⟨fun q h => ?_⟩; cases q <;> first | rfl | exact absurd (by decide) h

/-! ## Sweeps -/

variable (g : Seg)

theorem beginSweep_same (c : SweepCause) : SameBut [.segs] s (s.beginSweep g c) := modSeg_same ..

theorem requestSweep_same (c : SweepCause) : SameBut [.segs] s (s.requestSweep g c) := by
  unfold State.requestSweep
  split
  · split
    · exact beginSweep_same ..
    · exact modSeg_same ..
  · exact SameBut.ite (modSeg_same ..) (SameBut.refl _ _)
  · exact modSeg_same ..

theorem startWaiting_same : SameBut [.segs] s (s.startWaiting g) := by
  unfold State.startWaiting
  split
  · exact beginSweep_same ..
  · exact SameBut.refl _ _

theorem setPhase_same (p : SweepPhase) : SameBut [.segs] s (s.setPhase g p) := modSeg_same ..

theorem toPresence_same : SameBut [.segs] s (s.toPresence g) := (setPhase_same ..).trans ((send_same ..).mono (by decide))

theorem sweepAgain_same : SameBut [.segs] s (s.sweepAgain g) := by
  unfold State.sweepAgain
  exact SameBut.ite ((modSeg_same ..).trans (beginSweep_same ..)) (SameBut.refl _ _)

theorem completeSweep_same (c : StepCode) : SameBut [.segs, .ports] s (s.completeSweep g c) := by
  unfold State.completeSweep
  exact SameBut.ite (((modSeg_same ..).mono (by decide)).trans ((completeOp_same ..).mono (by decide))) (SameBut.refl _ _)

theorem closeSweep_same (c : StepCode) : SameBut [.segs, .ports] s (s.closeSweep g c) := by
  unfold State.closeSweep
  split
  · exact ((((send_same ..).mono (by decide)).trans ((modSeg_same ..).mono (by decide))).trans
      (completeSweep_same ..)).trans ((sweepAgain_same ..).mono (by decide))
  · exact SameBut.refl _ _

theorem muteDisplay_same (i : Identity) : SameBut [.segs] s (s.muteDisplay g i) :=
  ((send_same ..).mono (by decide)).trans (modSeg_same ..)

theorem freeRecord_same (k : Nat) : SameBut [.dir] s (s.freeRecord k) := setDisplay_same ..

theorem freeElsewhere_same (i : Identity) : SameBut [.dir] s (s.freeElsewhere g i) := by
  unfold State.freeElsewhere
  split
  · exact freeRecord_same ..
  · exact SameBut.refl _ _

theorem startAssign_same (i : Identity) (a : Nat) : SameBut [.segs] s (s.startAssign g i a) :=
  (setPhase_same ..).trans ((send_same ..).mono (by decide))

theorem duplicate_same (i : Identity) : SameBut [.segs, .ports] s (s.duplicate g i) :=
  (((muteDisplay_same ..).mono (by decide)).trans ((raise_same ..).mono (by decide))).trans
    ((toPresence_same ..).mono (by decide))

theorem assignAddress_same (i : Identity) : SameBut [.dir, .segs, .ports] s (s.assignAddress g i) := by
  unfold State.assignAddress
  split
  · exact (startAssign_same ..).mono (by decide)
  · refine SameBut.ite ((duplicate_same ..).mono (by decide)) (SameBut.ite ?_ ?_)
    · exact ((muteDisplay_same ..).mono (by decide)).trans ((closeSweep_same ..).mono (by decide))
    · dsimp only
      split
      · exact ((freeElsewhere_same ..).mono (by decide)).trans ((startAssign_same ..).mono (by decide))
      · exact (freeElsewhere_same ..).mono (by decide)

theorem checkOutcome_same (i : Identity) (b : BitVec 8) : SameBut [.dir, .segs, .ports] s (s.checkOutcome g i b) := by
  unfold State.checkOutcome
  refine SameBut.ite (((modSeg_same ..).mono (by decide)).trans (assignAddress_same ..)) (SameBut.ite ?_ ?_)
  · exact ((modSeg_same ..).mono (by decide)).trans ((toPresence_same ..).mono (by decide))
  · exact ((modSeg_same ..).mono (by decide)).trans ((closeSweep_same ..).mono (by decide))

theorem assignFailed_same (i : Identity) (a n : Nat) : SameBut [.segs, .ports] s (s.assignFailed g i a n) := by
  unfold State.assignFailed
  refine SameBut.ite ?_ ?_
  · exact ((setPhase_same ..).mono (by decide)).trans ((send_same ..).mono (by decide))
  · exact ((send_same ..).mono (by decide)).trans (closeSweep_same ..)

theorem leaveQueue_same (k : Nat) : SameBut [.segs] s (s.leaveQueue k) := modSeg_same ..
theorem joinQueue_same (k : Nat) : SameBut [.segs] s (s.joinQueue k) := modSeg_same ..
theorem composeRecord_same (k : Nat) (c : Cause) : SameBut [.dir, .segs] s (s.composeRecord k c).1 :=
  (composeRecord_composed ..).same

theorem takeIn_same (i : Identity) (a : Nat) (c : Capability) : SameBut [.dir, .segs, .ports] s (s.takeIn g i a c) := by
  unfold State.takeIn
  exact ((((((leaveQueue_same ..).mono (by decide)).trans ((setDisplay_same ..).mono (by decide))).trans
    ((raiseIf_same ..).mono (by decide))).trans ((modSeg_same ..).mono (by decide))).trans
    ((composeRecord_same ..).mono (by decide))).trans ((toPresence_same ..).mono (by decide))

theorem takeReply_same (i : Identity) (a : Nat) (c : Capability) : SameBut [.dir, .segs, .ports] s (s.takeReply g i a c) := by
  unfold State.takeReply
  exact SameBut.ite ((duplicate_same ..).mono (by decide))
    (((freeElsewhere_same ..).mono (by decide)).trans (takeIn_same ..))

theorem resetSegment_same : SameBut [.dir, .segs] s (s.resetSegment g) := by
  unfold State.resetSegment
  refine SameBut.trans ?_ ((requestSweep_same ..).mono (by decide))
  refine SameBut.trans (t := (s.modSeg g Segment.cleared).send g .busReset)
    (((modSeg_same ..).mono (by decide)).trans ((send_same ..).mono (by decide))) ?_
  refine ⟨fun q h => ?_⟩; cases q <;> first | rfl | exact absurd (by decide) h

theorem reviveRecord_same (k : Nat) (p : Option Nat) : SameBut [.dir, .segs] s (s.reviveRecord k p) := by
  unfold State.reviveRecord
  have h : SameBut [.dir, .segs] s ((s.setDisplay k { s.display k with state := matchedState p, attempts := 0, busy := false }).composeRecord
      k .other).1 := ((setDisplay_same ..).mono (by decide)).trans (composeRecord_same ..)
  exact SameBut.ite (h.trans ((joinQueue_same ..).mono (by decide))) h

/-! ## Delivery -/

theorem endExchange_same (t : Turn) : SameBut [.segs] s (s.endExchange g t) := modSeg_same ..

theorem recompose_same (k : Nat) : SameBut [.dir, .segs] s (s.recompose k) := by
  unfold State.recompose
  split
  · exact SameBut.refl _ _
  · rename_i press entry _
    have h : SameBut [.dir, .segs] s ((s.setDisplay k { s.display k with recompose := .clear }).composeRecord k
        (if press then .press else .other)).1 := ((setDisplay_same ..).mono (by decide)).trans (composeRecord_same ..)
    exact SameBut.ite (h.trans ((moveLast_composed ..).same)) h

theorem endCard_same (a : Nat) : SameBut [.dir, .segs] s (s.endCard g a) :=
  (((endExchange_same ..).mono (by decide)).trans (recompose_same ..)).trans ((startWaiting_same ..).mono (by decide))

theorem endPoll_same : SameBut [.segs] s (s.endPoll g) := (endExchange_same ..).trans (startWaiting_same ..)

theorem enterHeld_same (k : Nat) (c : HeldCause) : SameBut [.dir, .segs, .ports] s (s.enterHeld k c) := by
  unfold State.enterHeld
  exact ((((leaveQueue_same ..).mono (by decide)).trans ((setDisplay_same ..).mono (by decide))).trans
    ((raise_same ..).mono (by decide))).trans ((raiseIf_same ..).mono (by decide))

theorem applyAck_same (k : Nat) : SameBut [.dir, .segs] s (s.applyAck k) := by
  unfold State.applyAck
  exact SameBut.ite (SameBut.refl _ _) (((leaveQueue_same ..).mono (by decide)).trans ((setDisplay_same ..).mono (by decide)))

theorem missed_same (k : Nat) : SameBut [.dir, .segs, .ports] s (s.missed k) := by
  unfold State.missed
  dsimp only
  refine SameBut.ite (SameBut.ite ((setDisplay_same ..).mono (by decide)) ?_) (SameBut.refl _ _)
  exact ((setDisplay_same ..).mono (by decide)).trans (enterHeld_same ..)

theorem answered_same (k : Nat) : SameBut [.dir] s (s.answered k) := by
  unfold State.answered
  exact SameBut.ite (SameBut.refl _ _) (setDisplay_same ..)

theorem pollRefused_same (k : Nat) : SameBut [.dir] s (s.pollRefused k) := by
  unfold State.pollRefused
  exact SameBut.ite (answered_same ..) (SameBut.refl _ _)

theorem withBus_same (b : BusState) : SameBut [.bus] s { s with bus := b } := by
  refine ⟨fun q h => ?_⟩; cases q <;> first | rfl | exact absurd (by decide) h

theorem takeReport_same (a : Nat) (r : ReportKind) (o : Bool) : SameBut [.dir, .segs, .bus] s (s.takeReport g a r o) := by
  unfold State.takeReport
  exact (((answered_same ..).mono (by decide)).trans ((withBus_same ..).mono (by decide))).trans
    ((endPoll_same ..).mono (by decide))

theorem offerGuest_same (n : Nat) (k : GuestKind) (o : Bool) : SameBut [.bus, .ports] s (s.offerGuest n k o) := by
  unfold State.offerGuest
  dsimp only
  exact SameBut.ite (((withBus_same ..).mono (by decide)).trans ((raise_same ..).mono (by decide)))
    ((withBus_same ..).mono (by decide))

theorem vacate_same (k c : Nat) : SameBut [.muster, .ports, .dir, .segs] s (s.vacate k c) := by
  unfold State.vacate
  dsimp only
  exact SameBut.ite (changeCabin_same ..) (SameBut.refl _ _)

theorem handPress_same (k c : Nat) (x : PressCode) (o : Bool) :
    SameBut [.bus, .muster, .ports, .dir, .segs] s (s.handPress k c x o) := by
  unfold State.handPress
  cases x
  · exact (vacate_same ..).mono (by decide)
  · exact SameBut.ite (((changeCabin_same ..).mono (by decide)).trans ((offerGuest_same ..).mono (by decide)))
      (SameBut.refl _ _)
  · exact SameBut.ite (((changeCabin_same ..).mono (by decide)).trans ((offerGuest_same ..).mono (by decide)))
      (SameBut.refl _ _)

theorem clearBusy_same (k : Nat) : SameBut [.dir] s (s.clearBusy k) := setDisplay_same ..

theorem dispatchKind_same (k : Nat) (e : InboundEntry) :
    SameBut [.bus, .muster, .ports, .dir, .segs] s (s.dispatchKind k e) := by
  unfold State.dispatchKind
  dsimp only
  split
  · exact SameBut.ite ((clearBusy_same ..).mono (by decide))
      (SameBut.ite ((setDisplay_same ..).mono (by decide)) (SameBut.refl _ _))
  · exact SameBut.ite ((enterHeld_same ..).mono (by decide)) (SameBut.refl _ _)
  · split
    · exact handPress_same ..
    · exact SameBut.refl _ _

end

end Sys2Proof.Machine
end

