-- ==== Sys2Proof/Laws/Requests.lean ====
section
/-! SUPPORT. Taking a request (R186, R187), said once: a port that is not READY discards the frame, a link that may not
send the kind is answered DENIED, and otherwise the block's outcome is settled on the port. -/

namespace Sys2Proof.Machine

/-! ## The parts of the state while a request is taken -/

section
variable (l : LinkId) (s : State)

@[simp] theorem frameTaken_port : (frameTaken l s).port l = (s.port l).frameArrived := State.port_modPort ..
@[simp] theorem frameTaken_port_peer : (frameTaken l s).port l.peer = s.port l.peer := State.port_modPort_peer ..
@[simp] theorem frameArrived_state (p : Port) : p.frameArrived.state = p.state := rfl
@[simp] theorem frameArrived_pendingSet (p : Port) : p.frameArrived.pendingSet = p.pendingSet := rfl
@[simp] theorem frameArrived_mask (p : Port) : p.frameArrived.mask = p.mask := rfl
@[simp] theorem frameArrived_timeout (p : Port) : p.frameArrived.timeout = p.timeout := rfl
@[simp] theorem frameArrived_inFlight (p : Port) : p.frameArrived.inFlight = p.inFlight := rfl
@[simp] theorem frameArrived_lastDone (p : Port) : p.frameArrived.lastDone = p.lastDone := rfl

theorem frameTaken_same : SameBut [.ports] s (frameTaken l s) :=
  ((begin_same s).mono (by decide)).trans (modPort_same ..)

theorem requestTaken_same : SameBut [.ports, .cond] s (requestTaken l s) := by
  cases l
  · exact ((frameTaken_same ..).mono (by decide)).trans ((abandonConfirm_same ..).mono (by decide))
  · exact (frameTaken_same ..).mono (by decide)

@[simp] theorem requestTaken_store : (requestTaken l s).store = s.store := by cases l <;> rfl
@[simp] theorem requestTaken_plan : (requestTaken l s).plan = s.plan := by cases l <;> rfl
@[simp] theorem requestTaken_route : (requestTaken l s).route = s.route := by cases l <;> rfl
@[simp] theorem requestTaken_prog : (requestTaken l s).prog = s.prog := by cases l <;> rfl
@[simp] theorem requestTaken_muster : (requestTaken l s).muster = s.muster := by cases l <;> rfl
@[simp] theorem requestTaken_resolver : (requestTaken l s).resolver = s.resolver := by cases l <;> rfl
@[simp] theorem requestTaken_dir : (requestTaken l s).dir = s.dir := by cases l <;> rfl
@[simp] theorem requestTaken_segs : (requestTaken l s).segs = s.segs := by cases l <;> rfl
@[simp] theorem requestTaken_bus : (requestTaken l s).bus = s.bus := by cases l <;> rfl
@[simp] theorem requestTaken_alarmLine : (requestTaken l s).alarmLine = s.alarmLine := by cases l <;> rfl
@[simp] theorem requestTaken_freeCount : (requestTaken l s).freeCount = s.freeCount := by cases l <;> rfl
@[simp] theorem requestTaken_pending : (requestTaken l s).pending = s.pending := by cases l <;> rfl
@[simp] theorem requestTaken_sent : (requestTaken l s).sent = [] := by cases l <;> rfl
@[simp] theorem requestTaken_ports : (requestTaken l s).ports = (frameTaken l s).ports := by cases l <;> rfl
@[simp] theorem requestTaken_port (m : LinkId) : (requestTaken l s).port m = (frameTaken l s).port m := by cases l <;> rfl
@[simp] theorem requestTaken_edges : (requestTaken l s).cond.edges = s.cond.edges := by cases l <;> rfl
@[simp] theorem requestTaken_slots : (requestTaken l s).cond.slots = s.cond.slots := by cases l <;> rfl
@[simp] theorem requestTaken_writing : (requestTaken l s).cond.writing = s.cond.writing := by cases l <;> rfl
@[simp] theorem requestTaken_remainders : (requestTaken l s).cond.remainders = s.cond.remainders := by cases l <;> rfl
@[simp] theorem requestTaken_activePlan : (requestTaken l s).activePlan = s.activePlan := by cases l <;> rfl
@[simp] theorem requestTaken_now : (requestTaken l s).now = s.now := by cases l <;> rfl
@[simp] theorem requestTaken_seg (g : Seg) : (requestTaken l s).seg g = s.seg g := by cases l <;> rfl
@[simp] theorem requestTaken_display (k : Nat) : (requestTaken l s).display k = s.display k := by cases l <;> rfl
@[simp] theorem requestTaken_cabin (i : Nat) : (requestTaken l s).cabin i = s.cabin i := by cases l <;> rfl

end

/-! ## The outcomes -/

section
variable {area : Area} {own : Bool} {kind tag : Byte} {l : LinkId} {h : State → Handled} {s : State}

theorem takeRequest_busy (hb : ¬ portReady s l) : takeRequest area own kind l tag h s = frameTaken l s := by
  unfold takeRequest portReady at *
  dsimp only
  split
  · exact absurd ‹_› hb
  · rfl

theorem takeRequest_denied (hr : portReady s l) (hd : area.denies l = true) :
    takeRequest area false kind l tag h s = (requestTaken l s).answer l tag kind (.refuse .denied) := by
  unfold takeRequest portReady at *
  rw [hr]
  cases l <;> simp [hd, requestTaken, frameTaken]

theorem takeRequest_taken (hr : portReady s l) (hd : area.denies l = false) :
    takeRequest area false kind l tag h s = settle l tag kind (h (requestTaken l s)) := by
  unfold takeRequest portReady at *
  rw [hr]
  cases l <;> simp [hd, requestTaken, frameTaken]

/-- CONFIRM and FIXED DETOUR settle the confirm sequence themselves (R36). -/
theorem takeRequest_own (hr : portReady s l) (hd : area.denies l = false) :
    takeRequest area true kind l tag h s = settle l tag kind (h (frameTaken l s)) := by
  unfold takeRequest portReady at *
  rw [hr]
  cases l <;> simp [hd, frameTaken]

theorem takeRequest_own_denied (hr : portReady s l) (hd : area.denies l = true) :
    takeRequest area true kind l tag h s = (frameTaken l s).answer l tag kind (.refuse .denied) := by
  unfold takeRequest portReady at *
  rw [hr]
  cases l <;> simp [hd, frameTaken]

/-- What a block's handling of a request may change. -/
def Handled.same (ps : List Part) (s : State) : Handled → Prop
  | .answer t _ => SameBut ps s t
  | .hold t => SameBut ps s t

theorem parsed_same {α : Type} {ps : List Part} {p : Except Reason α} {t u : State} {f : α → Handled}
    (hu : SameBut ps t u) (hf : ∀ a, (f a).same ps t) : (parsed p u f).same ps t := by
  unfold parsed
  split
  · exact hf _
  · exact hu

theorem settle_same {ps : List Part} {x : Handled} (hp : Part.ports ∈ ps) (hx : x.same ps s) : SameBut ps s (settle l tag kind x) := by
  cases x with
  | answer t r => exact SameBut.trans hx ((answer_same ..).mono (by simpa using hp))
  | hold t =>
    have h : SameBut ps t (t.modPort l fun p => { p with state := .handling tag kind, silence := .held }) :=
      (modPort_same ..).mono (by simpa using hp)
    exact SameBut.trans hx h

theorem takeRequest_same {ps : List Part} (hp : Part.ports ∈ ps) (hc : Part.cond ∈ ps) (hh : ∀ t, (h t).same ps t) :
    SameBut ps s (takeRequest area own kind l tag h s) := by
  have h1 : SameBut ps s (frameTaken l s) := (frameTaken_same ..).mono (by simpa using hp)
  unfold takeRequest
  dsimp only
  split
  · have h2 : SameBut ps s (if l = .safety && !own then (s.begin.modPort l Port.frameArrived).abandonConfirm
        else s.begin.modPort l Port.frameArrived) := by
      refine SameBut.ite ?_ h1
      exact SameBut.trans h1 ((abandonConfirm_same ..).mono (by simpa using hc))
    split
    · exact h2.trans ((answer_same ..).mono (by simpa using hp))
    · exact h2.trans (settle_same hp (hh _))
  · exact h1

end

end Sys2Proof.Machine
end

