-- ==== Sys2Proof/WellFormed.lean ====
section
/-! DEFINITION. Which commands can occur on the wires as the formats of R201 and R203 admit them.
The machine answers ill-formed ones too. -/

namespace Sys2Proof

/-- A body fits a request frame: length byte 2..250 counts tag, kind and body (R201). -/
def bodyFits (body : List Byte) : Bool := decide (body.length ≤ 248)

/-- A panel-bus address of one display, 1..48 (R203). -/
def addressFits (a : Nat) : Bool := decide (1 ≤ a) && decide (a ≤ 48)

/-- The operands of the command are ones its row can carry. -/
def Instr.wellFormed : Instr → Bool
  | .unknownKind _ _ kind body => !knownKind kind && bodyFits body
  | .badCrcFrame _ tag kind body crc => bodyFits body && crc != Machine.frameCheck tag kind body
  | .frameWhileBusy _ _ _ body => bodyFits body
  | .receiveGap _ | .answerSent _ | .silenceTimerExpiry _ => true
  | .reset | .generalAlarmAsserted | .generalAlarmDeasserted | .generalAlarmEvent
  | .overdueTimerExpiry | .standDownHoldExpiry => true
  | .commitCompletion | .bindCompletion | .fixedDetourCompletion | .latchSetCompletion
  | .latchClearCompletion | .settingsWriteCompletion | .computationCompletion | .minuteEvent => true
  | .sweepStart _ | .automaticSweepTimerExpiry _ | .presence _ _ | .bit _ _ | .assignReplyTimeout _ => true
  | .capabilityReply _ addr _ _ _ _ _ => decide (addr ≤ 48)
  | .cardExchange _ | .pollExchange _ | .panelReplyTimeout _ | .creditRefill | .dispatch => true
  | .ack _ a | .nak _ a | .pollNone _ a | .pollNak _ a | .report _ a _ _ _ | .refreshLimitExpiry _ a => addressFits a
  | .startByte _ | .missingStopBit _ | .clockRunStateHeld => true
  | .lengthOutOfRange _ n => decide (n.toNat < 2) || decide (250 < n.toNat)
  | .planOpen _ _ body | .planWrite _ _ body | .planAbandon _ _ body | .planCommit _ _ body
  | .bind _ _ body | .setCondition _ _ body | .softDetourSet _ _ body | .softDetourClear _ _ body
  | .confirm _ _ body | .fixedDetour _ _ body | .alert _ _ body | .cancelAlert _ _ body
  | .muster _ _ body | .standdown _ _ body | .assignCabinStation _ _ body | .assignZoneStation _ _ body
  | .markCabin _ _ body | .setMusterTimers _ _ body | .setInstruction _ _ body | .sweep _ _ body
  | .segmentReset _ _ body | .revive _ _ body | .setClock _ _ body | .setOffset _ _ body
  | .setLanguages _ _ body | .setLookahead _ _ body | .eventAdd _ _ body | .eventModify _ _ body
  | .eventCancel _ _ body | .eventDelete _ _ body | .textPut _ _ body | .textDelete _ _ body
  | .cabinGuests _ _ body | .setParkedText _ _ body | .readGuestRequests _ _ body | .remainderSet _ _ body
  | .remainderClear _ _ body | .postNotice _ _ body | .withdrawNotice _ _ body | .planRead _ _ body
  | .readAttention _ _ body | .setAttentionMask _ _ body | .setLinkTimeout _ _ body | .lastOperation _ _ body
  | .linkStatus _ _ body | .planStatus _ _ body | .conditionRead _ _ body | .detourRead _ _ body
  | .remainderRead _ _ body | .routeStatus _ _ body | .routeRead _ _ body | .programmeStatus _ _ body
  | .eventRead _ _ body | .eventList _ _ body | .textRead _ _ body | .cabinRead _ _ body
  | .readOutstanding _ _ body | .readStranded _ _ body | .musterStatus _ _ body | .cardRead _ _ body
  | .noticeRead _ _ body | .displayRead _ _ body | .segmentStatus _ _ body | .queueRead _ _ body => bodyFits body

end Sys2Proof
end

