-- ==== Sys2Proof/Tests/Slice0.lean ====
section
/-! SUPPORT. Tests: ill-formed commands, worked values of the spec, and for each statement with hypotheses a witness that
meets them. Expected values come from the spec's tables and worked cases, named in each test. -/

namespace Sys2Proof.Tests

open Sys2Proof Sys2Proof.Machine

/-! ## A small plan -/

/-- One zone, two nodes, three edges, a local and a REMOTE station, two venues, two portals, two cabins, three placements, at the
ends of their index ranges. -/
def plan : Plan :=
  { nodes := [(0, ⟨0, none⟩), (1, ⟨0, some 0⟩), (95, ⟨0, none⟩)]
    edges := [(0, ⟨0, 1, .corridor, 600, 4, 0⟩), (1, ⟨0, 1, .crew, 100, 4, 0⟩), (159, ⟨1, 95, .stair, 7, 0, 0⟩)]
    zones := [(0, ⟨0⟩), (7, ⟨7⟩)]
    stations := [(0, ⟨[0x41#16], .node 0⟩), (7, ⟨[0x42#16], .remote⟩)]
    venues := [(0, ⟨[0x56#16], .node 1⟩), (31, ⟨[0x57#16], .remote⟩)]
    portals := [(0, ⟨0, .stair, 8⟩), (7, ⟨1, .lift, 0⟩)]
    cabins := [(0, ⟨1, 0, 0⟩), (159, ⟨99999, 95, 7⟩)]
    placements := [(0, ⟨.door 0, 0, 3, some 1#48⟩), (1, ⟨.corridor [0], 0, 0, none⟩), (191, ⟨.venue 0, 1, 0, none⟩)] }

def active : ActivePlan := ⟨plan, 65535⟩

/-- The part with the small plan committed and retained. -/
def ship : State :=
  { State.reset with
    store := { State.reset.store with plan := some active }
    plan := { State.reset.plan with active := some active } }

def inFlight (w : Write) : State := { ship with store := { ship.store with inFlight := some w } }

/-- A record at segment 0, address 1, in a state, with a card to send. -/
def card : Card := ⟨.parked, 0, none, .none, [.message .allClear], Marks.clear, none⟩

def record (st : RecState) : Display :=
  { Display.freed (some 1#48) with
    state := st, capability := some ⟨.epaper, 24, 4, 0⟩, credits := some 6, refreshLimit := some 1
    buffers := ⟨none, some ⟨card, .parked, .other⟩, .x⟩ }

def withRecord (st : RecState) (f : Segment → Segment) : State :=
  { ship with
    dir := [(recKey 0 1, record st)]
    segs := ⟨f { Segment.initial with queue := [1] }, .initial, .initial, .initial⟩ }

def exchanging (x : Exchange) : State := withRecord (.placed 0) fun g => { g with activity := .idle, exchange := some x }

def sweeping (p : SweepPhase) : State :=
  { ship with segs := ⟨{ Segment.initial with activity := .sweeping .startUp p }, .initial, .initial, .initial⟩ }

/-! ## Ill-formed commands -/

theorem test_wf_body_too_long : (Instr.planOpen .safety 0 (List.replicate 249 0#8)).wellFormed = false := by decide +kernel
theorem test_wf_body_longest : (Instr.planOpen .safety 0 (List.replicate 248 0#8)).wellFormed = true := by decide +kernel
theorem test_wf_unknown_kind_known : (Instr.unknownKind .safety 0 0x10 []).wellFormed = false := by decide
theorem test_wf_bad_crc_good : (Instr.badCrcFrame .safety 0 0x10 [] (frameCheck 0 0x10 [])).wellFormed = false := by decide +kernel
theorem test_wf_busy_too_long : (Instr.frameWhileBusy .safety 0 0x10 (List.replicate 249 0#8)).wellFormed = false := by decide +kernel
theorem test_wf_reply_address : (Instr.capabilityReply 0 49 1#48 0 24 4 0).wellFormed = false := by decide
theorem test_wf_address_low : (Instr.ack 0 0).wellFormed = false := by decide
theorem test_wf_address_high : (Instr.report 3 49 0 0 0).wellFormed = false := by decide
theorem test_wf_length_in_range : (Instr.lengthOutOfRange .hotel 250).wellFormed = false := by decide

/-! ## Worked values -/

/-- R151: the identity 1 has the check value 07h. -/
theorem test_check_of_identity : identityCheck 1#48 = 0x07#8 := by decide +kernel

/-- R49, the table. -/
theorem test_costs : [walkCost 1 4, walkCost 7 6, walkCost 120 4, walkCost 300 28, walkCost 4095 32] = [1, 11, 120, 2100, 32760] := by
  decide

/-- R65, the table, for a screen facing 0. -/
theorem test_arrows : (List.range 16).map (fun b => arrowOf b 0) = [0, 1, 1, 2, 2, 3, 3, 4, 4, 5, 5, 6, 6, 7, 7, 0] := by decide

/-- R66, the table. -/
theorem test_distances : [0, 4, 5, 450, 600, 605, 9985, 12285].map (fun w => (metresOf w, minutesOf (metresOf w))) =
    [(0, 0), (0, 0), (1, 1), (45, 1), (60, 1), (61, 2), (999, 17), (999, 17)] := by decide

/-- The snapshot of worked case 1 (chapter 3). -/
def case1 (p : Profile) : Snapshot :=
  { serial := 1, nodes := [0, 1, 2, 3, 4, 5].map fun n => (n, ⟨0, none⟩)
    edges := [(0, ⟨0, 1, .corridor, 120, 4, 0⟩), (1, ⟨1, 5, .corridor, 300, 0, 0⟩), (2, ⟨1, 2, .stair, 80, 0, 0⟩),
      (3, ⟨2, 5, .corridor, 250, 0, 0⟩), (4, ⟨0, 3, .lift, 40, 0, 0⟩), (5, ⟨3, 5, .corridor, 90, 0, 0⟩),
      (6, ⟨0, 4, .crew, 150, 0, 0⟩), (7, ⟨4, 5, .corridor, 200, 0, 0⟩)]
    portals := [], stations := [(0, .node 5)], venues := [], conditions := [(1, .smoke), (3, .crowded)], detours := []
    remainders := [], profile := p, dests := [⟨.station, 0, .node 5, .station⟩] }

/-- Worked case 1 under SAFETY. -/
theorem test_case1_safety : (routePass (case1 .safety) ⟨.station, 0, .node 5, .station⟩).take 6 =
    [⟨740, 450, .edge 0⟩, ⟨620, 330, .edge 2⟩, ⟨500, 250, .edge 3⟩, ⟨90, 90, .edge 5⟩, ⟨200, 200, .edge 7⟩, ⟨0, 0, .here⟩] := by
  decide +kernel

/-- Worked case 1 under NORMAL. -/
theorem test_case1_normal : (routePass (case1 .normal) ⟨.station, 0, .node 5, .station⟩).take 6 =
    [⟨170, 130, .edge 4⟩, ⟨290, 250, .edge 0⟩, ⟨410, 330, .edge 2⟩, ⟨90, 90, .edge 5⟩, ⟨200, 200, .edge 7⟩, ⟨0, 0, .here⟩] := by
  decide +kernel

/-- The example of chapter 10: a MUSTER card of 30 bytes. -/
theorem test_card_on_the_wire :
    (⟨.muster, 2, none, .station [0x42#16, 0x32#16], [.route (.route 2 45 1)], { Marks.clear with drill := true }, none⟩ :
      Card).encode =
      [0x01, 0x02, 0xFF, 0xFF, 0x01, 0x01, 0x00, 0x00, 0x00, 0x02, 0x00, 0x42, 0x00, 0x32, 0x01, 0x00, 0x00, 0x02, 0x00, 0x2D, 0x01,
        0xFF, 0x00, 0xFF, 0xFF, 0xFF, 0xFF, 0xFF, 0x00, 0x00] := by decide

/-- R201, R20: PLAN STATUS is kind 50h, and a command of a kind in no list is UNKNOWN_KIND. -/
theorem test_kinds : Instr.ofFrame .hotel 7 0x50 [] = .planStatus .hotel 7 [] ∧ Instr.ofFrame .safety 7 0x26 [] = .unknownKind .safety 7 0x26 [] := by
  decide

/-- No row of the table has bits. -/
theorem test_table_words : decodeTableWord 8 0 = none ∧ State.reset.withFetchWord 8 0 = State.reset := by decide

/-- R26: a reset with nothing in flight finds the store as it was. -/
theorem test_reset_keeps_store : ∃ t, exec .reset ship = .next t ∧ t.store.plan = some active ∧ t.plan.active = some active :=
  ⟨_, rfl, rfl, rfl⟩

/-! ## Witnesses: steps, frames and ports -/

theorem ready (l : LinkId) : portReady State.reset l := by cases l <;> rfl
theorem ready_ship (l : LinkId) : portReady ship l := by cases l <;> rfl
theorem ready_inFlight (l : LinkId) (w : Write) : portReady (inFlight w) l := by cases l <;> rfl

/-- The part while a link sends an answer, its silence timer running. -/
def answeringState (l : LinkId) : State :=
  State.reset.setPort l { State.reset.port l with state := .answering ⟨0, 0x50, .ok⟩ }

def receiving (l : LinkId) (got : List Byte) : State :=
  State.reset.setPort l { State.reset.port l with receiver := .receiving got }

/-- The largest frame: 248 body bytes, length byte 250. -/
def longFrame : List Byte := 1#8 :: 0x12#8 :: List.replicate 248 0#8 ++ be2 (frameCheck 1 0x12 (List.replicate 248 0#8)).toNat

theorem witness_StepRunsTheFrontCommand : { State.reset with pending := [.reset] }.pending = .reset :: [] := rfl

theorem witness_IdleStepQueuesWhatComesDue : State.reset.pending = [] := rfl

/-- Every clause of the idle step at the last second of its timer. -/
theorem witness_IdleStep_due :
    let s : State :=
      { State.reset with
        prog := { State.reset.prog with clock := some ⟨65534, 59, .running⟩ }
        muster := { State.reset.muster with watch := .timing 1, overdue := .running 1, hold := some 1 }
        bus := { State.reset.bus with refill := 1 }
        segs := ⟨{ Segment.initial with autoTimer := some 1 }, .initial, .initial, .initial⟩
        ports := ⟨{ Port.initial .safety 1 with silence := .running 1 }, .initial .hotel 10⟩ }
    s.pending = [] ∧ s.tick.pending = [.minuteEvent, .generalAlarmEvent, .overdueTimerExpiry, .standDownHoldExpiry, .creditRefill,
      .automaticSweepTimerExpiry 0, .silenceTimerExpiry .safety] := by decide

theorem witness_IdleStep_hold :
    let s : State := { State.reset with prog := { State.reset.prog with clock := some ⟨65535, 58, .running⟩ } }
    s.pending = [] ∧ s.tick.pending = [.clockRunStateHeld] := by decide

/-- A record at segment 0, address 1, alone in the directory, is at a valid address. -/
theorem withRecord_valid (st : RecState) (f : Segment → Segment) (h : ∀ c i a n, (f { Segment.initial with queue := [1] }).activity
    ≠ .sweeping c (.assign i a n)) : addressesValid (withRecord st f) := by
  refine ⟨rfl, ?_, ?_⟩
  · intro k d hk
    simp [withRecord, recKey] at hk
    obtain ⟨rfl, -⟩ := hk
    exact ⟨by decide, by unfold isAddress; decide⟩
  · intro g c i a n hg
    fin_cases g
    · exact absurd hg (h c i a n)
    all_goals exact absurd hg nofun

theorem witness_IdleStep_limit : (withRecord .orphan id).pending = [] ∧ addressesValid (withRecord .orphan id) ∧ isAddress 1 ∧
    ((withRecord .orphan id).display (recKey 0 1)).refreshLimit = some 1 ∧
    (withRecord .orphan id).tick.pending = [.refreshLimitExpiry 0 1] :=
  ⟨rfl, withRecord_valid _ _ fun _ _ _ _ => nofun, by unfold isAddress; decide, rfl, by decide⟩

theorem witness_EveryCommandKeepsTheRest : ∃ t, exec .generalAlarmAsserted State.reset = .next t := ⟨_, rfl⟩

theorem witness_BusyPortDiscardsEveryFrame (l : LinkId) : ¬ portReady (answeringState l) l := by
  cases l <;> (unfold portReady; decide)

theorem witness_PortChecksComeBeforeTheBlocks : portReady State.reset .safety ∧ portReady State.reset .hotel ∧
    knownKind 0x26 = false ∧ (knownKind 0x10 = true ∧ (kindArea 0x10).barred .hotel) ∧
    (knownKind 0x3C = true ∧ (kindArea 0x3C).barred .safety) ∧ ¬ (kindArea 0x25).barred .safety ∧ ¬ (kindArea 0x62).barred .hotel :=
  ⟨rfl, rfl, by decide, ⟨by decide, rfl⟩, ⟨by decide, rfl⟩, nofun, id⟩

theorem witness_CompleteFramesReachTheirRequest :
    ((receiving .safety (byte (248 + 2) :: longFrame.dropLast)).port .safety).receiver =
      .receiving (byte ((List.replicate 248 0#8).length + 2) :: longFrame.dropLast) ∧
    longFrame.dropLast ++ [longFrame.getLast (List.cons_ne_nil _ _)] =
      1#8 :: 0x12#8 :: List.replicate 248 0#8 ++ be2 (frameCheck 1 0x12 (List.replicate 248 0#8)).toNat :=
  ⟨by rw [List.length_replicate]; rfl, List.dropLast_append_getLast _⟩

theorem witness_PortEventsFollowTheirTables : (State.reset.port .safety).receiver = .hunting ∧
    ((receiving .hotel []).port .hotel).receiver = .receiving [] ∧ ((1#8).toNat < 2 ∨ 250 < (1#8).toNat) ∧
    ((251#8).toNat < 2 ∨ 250 < (251#8).toNat) ∧ ((answeringState .hotel).port .hotel).state = .answering ⟨0, 0x50, .ok⟩ ∧
    (State.reset.port .hotel).silence = .running 10 := by decide

theorem ok_of {α : Type} {x : Except Reason α} {a : α} (h : x.toOption = some a) : x = .ok a := by
  cases x <;> simp_all [Except.toOption]

/-! ## Witnesses: the deck plan -/

def editState (e : EditState) : State := { State.reset with plan := { State.reset.plan with edit := e } }

theorem witness_PlanOpenFollowsItsChecks : portReady State.reset .safety ∧ (0#8 = 0#8 ∨ 0#8 = 1#8) ∧ (1#8 = 0#8 ∨ 1#8 = 1#8) :=
  ⟨rfl, by decide⟩

theorem witness_PlanWritesReadBack : (∀ e, portReady (editState e) .safety ∧ (editState e).plan.edit = e) ∧
    bodyPlanWrite [0, 2, 7, 7] = .ok ⟨.zone, 7, some (.zone ⟨7⟩)⟩ ∧ bodyPlanWrite [1, 7, 191] = .ok ⟨.placement, 191, none⟩ :=
  ⟨fun _ => ⟨rfl, rfl⟩, rfl, rfl⟩

/-! Every field at an end of its range: lengths clamped, bearings modulo 16, labels cut. -/

theorem witness_PlanWrites_edge_low :
    bodyPlanWrite [0, 1, 159, 95, 0, 3, 0, 0, 31, 7] = .ok ⟨.edge, 159, some (.edge ⟨95, 0, .crew, 1, 15, 7⟩)⟩ :=
  ok_of (by decide +kernel)

theorem witness_PlanWrites_edge_high :
    bodyPlanWrite [0, 1, 0, 0, 95, 0, 0xFF, 0xFF, 16, 0] = .ok ⟨.edge, 0, some (.edge ⟨0, 95, .corridor, 4095, 0, 0⟩)⟩ :=
  ok_of (by decide +kernel)

theorem witness_PlanWrites_station :
    bodyPlanWrite [0, 3, 7, 4, 0, 65, 0, 66, 0, 67, 0, 68, 0xFF] = .ok ⟨.station, 7, some (.station ⟨[65, 66, 67], .remote⟩)⟩ :=
  ok_of (by decide +kernel)

theorem witness_PlanWrites_cabin :
    bodyPlanWrite [0, 6, 159, 1, 0x86, 0x9F, 95, 7] = .ok ⟨.cabin, 159, some (.cabin ⟨99999, 95, 7⟩)⟩ := ok_of (by decide +kernel)

theorem witness_PlanWrites_placement :
    bodyPlanWrite [0, 7, 191, 1, 95, 31, 255, 255, 3, 0, 30, 31, 0, 0, 0, 0, 0, 0] =
      .ok ⟨.placement, 191, some (.placement ⟨.corridor [0, 30, 31], 95, 15, none⟩)⟩ := ok_of (by decide +kernel)

theorem witness_PlanAbandonClosesTheEdit (e : EditState) : portReady (editState e) .safety := rfl

theorem witness_CommitsAreValidated : portReady ship .safety ∧ validatePlan plan = none := ⟨rfl, by decide⟩

/-- A plan that fails two checks: SELF_LOOP comes before CABIN_NUMBER (R13). -/
def faulty : Plan :=
  { plan with edges := [(159, ⟨95, 95, .stair, 7, 0, 0⟩)], cabins := [(0, ⟨1, 0, 0⟩), (159, ⟨1, 95, 7⟩)] }

theorem test_first_failing_check : validatePlan faulty = some (.selfLoop, .edge, 159) := by decide

theorem witness_Commits_reported : planWf plan ∧ planWf faulty ∧ failsCheck faulty .selfLoop .edge 159 ∧
    failsCheck faulty .cabinNumber .cabin 159 := by
  refine ⟨by unfold planWf; decide, by unfold planWf; decide, ⟨_, rfl, rfl⟩, ⟨_, 0, _, rfl, by decide, rfl, rfl⟩⟩

/-- R13 check 8: the placement whose sign list makes the thirteenth venue. -/
theorem test_thirteenth_sign_venue :
    let signs : Table Placement := [0, 1, 2, 3, 4].map fun i => (i, ⟨.corridor [3 * i, 3 * i + 1, 3 * i + 2], 0, 0, none⟩)
    validatePlan { Plan.empty with
      nodes := [(0, ⟨0, none⟩)], zones := [(0, ⟨0⟩)], stations := [(0, ⟨[0x41#16], .remote⟩)]
      venues := (List.range 15).map fun v => (v, ⟨[0x56#16], .remote⟩), placements := signs } =
        some (.signVenues, .placement, 4) := by decide +kernel

/-- R23: PLAN COMMIT during a bind write. -/
theorem test_commit_during_bind : exec (.planCommit .safety 1 []) (inFlight (.bind 191 1#48 none)) =
    .next ((requestTaken .safety (inFlight (.bind 191 1#48 none))).answer .safety 1 0x13 (.refuse .busy)) := rfl

theorem witness_CommitCompletionInstallsThePlan : (inFlight (.commit 65535)).store.inFlight = some (.commit 65535) := rfl

/-- A set clock, so that next on board is chosen, and a well-formed directory. -/
theorem witness_CommitCompletion_clauses :
    let s : State := { inFlight (.commit 1) with prog := { ship.prog with clock := some ⟨5, 0, .running⟩ } }
    s.now = some 5 ∧ Table.wf s.prog.events = true ∧ Table.wf s.dir = true := ⟨rfl, rfl, rfl⟩

/-- Placement 0 alone of the small plan expects an identity. -/
theorem plan_expects (q : Nat) (x : Placement) (h : Table.get plan.placements q = some x) (hx : x.expected.isSome) : q = 0 := by
  simp only [plan, Table.get] at h
  split_ifs at h with h0 h1 h2
  · omega
  all_goals simp_all
  · subst h; simp at hx
  · subst h; simp at hx

def binding : State := inFlight (.bind 191 1#48 (some 0))

theorem witness_BindGivesThePlacementItsIdentity :
    (portReady ship .safety ∧ bodyBind [191, 3, 48] = .ok (191, 3, 48) ∧ bodyBind [0, 0, 1] = .ok (0, 0, 1)) ∧
    binding.store.inFlight = some (.bind 191 1#48 (bindLoser active.plan 191 1#48)) ∧ binding.plan.active = some active ∧
    binding.store.plan = some active ∧ Table.wf active.plan.placements = true ∧ Table.wf binding.dir = true ∧
    Table.get active.plan.placements 191 = some ⟨.venue 0, 1, 0, none⟩ ∧
    ∀ q r x y, Table.get active.plan.placements q = some x → Table.get active.plan.placements r = some y → x.expected.isSome →
      x.expected = y.expected → q = r := by
  refine ⟨⟨rfl, rfl, rfl⟩, rfl, rfl, rfl, by decide, by decide, by decide, ?_⟩
  intro q r x y hq hr hx he
  rw [plan_expects q x hq hx, plan_expects r y hr (he ▸ hx)]

/-- Records that hold the bind identity, that lose the placement, and that are concerned in nothing. -/
theorem witness_Bind_records : (record .orphan).identity = some 1#48 ∧
    ({ record (.placed 0) with identity := some 2#48 }).state.bound = some 0 ∧
    (Table.get active.plan.placements 0 = some ⟨.door 0, 0, 3, some 1#48⟩) ∧
    ({ record (.placed 1) with identity := some 2#48 }).state.bound = some 1 ∧
    Table.get active.plan.placements 1 = some ⟨.corridor [0], 0, 0, none⟩ := ⟨rfl, rfl, rfl, rfl, rfl⟩

/-! ## Witnesses: conditions, detours and remainders -/

theorem witness_ConditionsAreStoredTogether : portReady ship .safety ∧ bodyPairs [2, 0, 3, 159, 0] = .ok [(0, 3), (159, 0)] ∧
    (∀ x ∈ [(0, 3), (159, 0)], x.1 < 160 ∧ x.2 < 4 ∧ Table.has ship.activePlan.edges x.1 = true) ∧ bodyPairs [0] = .ok [] :=
  ⟨rfl, rfl, by decide, rfl⟩

theorem witness_Conditions_longest : bodyPairs (16 :: List.replicate 32 0) = .ok (List.replicate 16 (0, 0)) ∧
    (∀ x ∈ List.replicate 16 (0, 0), x.1 < 160 ∧ x.2 < 4 ∧ Table.has ship.activePlan.edges x.1 = true) ∧
    bodyPairs (17 :: List.replicate 34 0) = .ok (List.replicate 17 (0, 0)) :=
  ⟨rfl, by decide, rfl⟩

/-- A good pair before a pair of an edge out of range, of a condition out of range, and of an edge not defined. -/
theorem witness_Conditions_refused : bodyPairs [2, 0, 3, 160, 3] = .ok ([(0, 3)] ++ (160, 3) :: []) ∧
    bodyPairs [2, 0, 3, 159, 4] = .ok ([(0, 3)] ++ (159, 4) :: []) ∧ bodyPairs [1, 158, 3] = .ok ([] ++ (158, 3) :: []) ∧
    Table.has ship.activePlan.edges 158 = false := ⟨rfl, rfl, rfl, by decide⟩

theorem witness_SoftDetourSetFollowsTheSlot : portReady ship .safety ∧ bodyDetour [0, 0, 1] = .ok ⟨0, 0, 1⟩ := ⟨rfl, rfl⟩

theorem witness_SoftDetourClearFollowsTheSlot : portReady ship .safety ∧ portReady ship .hotel := ⟨rfl, rfl⟩

theorem witness_ConfirmFollowsItsTable : portReady ship .safety ∧ bodyConfirm [1, 0, 0, 1] = .ok (1, ⟨0, 0, 1⟩) ∧
    bodyConfirm [4, 0, 0, 1] = .ok (4, ⟨0, 0, 1⟩) ∧ bodyConfirm [0, 0, 0, 1] = .ok (0, ⟨0, 0, 1⟩) ∧
    bodyConfirm [5, 0, 0, 1] = .ok (5, ⟨0, 0, 1⟩) := ⟨rfl, rfl, rfl, rfl, rfl⟩

theorem witness_FixedDetourIsWrittenOnce : portReady ship .safety ∧ bodyDetour [0, 0, 1] = .ok ⟨0, 0, 1⟩ ∧
    (inFlight (.fixedDetour ⟨0, 0, 1⟩)).store.inFlight = some (.fixedDetour ⟨0, 0, 1⟩) := ⟨rfl, rfl, rfl⟩

theorem witness_RemaindersAreStoredByColumn :
    (portReady ship .safety ∧ bodyRemainders [1, 0, 7, 0, 7, 0xFF, 0xFE, 0, 9] = .ok [⟨0, 7, 0, 7, 65534, 9⟩] ∧
      Table.has ship.activePlan.portals 7 ∧ Table.has ship.activePlan.stations 7) ∧
    (portReady ship .hotel ∧ bodyRemainders [1, 1, 0, 1, 31, 0, 0, 0, 0] = .ok [⟨1, 0, 1, 31, 0, 0⟩] ∧
      Table.has ship.activePlan.portals 0 ∧ Table.has ship.activePlan.venues 31) ∧
    ship.plan.active = some active ∧ Table.wf ship.cond.remainders = true ∧
    ((0xFF#8 : Byte) = 0xFF#8) ∧ ((7#8).toNat < 8 ∧ Table.has active.plan.portals (7#8).toNat = true) :=
  ⟨⟨rfl, rfl, by decide⟩, ⟨rfl, rfl, by decide⟩, rfl, by decide, by decide, by decide⟩

/-- No item and 17; a good item before one out of range (form 2, portal 8, kind 2, station 8), one of the other link's column and
one not defined; portals out of range and not defined. -/
theorem witness_Remainders_refused : bodyRemainders [0] = .ok [] ∧
    (bodyRemainders (17 :: List.replicate 136 0)).toOption.map List.length = some 17 ∧
    bodyRemainders [2, 0, 7, 0, 7, 0, 1, 0, 1, 2, 0, 0, 0, 0, 0, 0, 0] = .ok ([⟨0, 7, 0, 7, 1, 1⟩] ++ ⟨2, 0, 0, 0, 0, 0⟩ :: []) ∧
    bodyRemainders [1, 0, 8, 0, 0, 0, 0, 0, 0] = .ok ([] ++ ⟨0, 8, 0, 0, 0, 0⟩ :: []) ∧
    bodyRemainders [1, 0, 0, 2, 0, 0, 0, 0, 0] = .ok ([] ++ ⟨0, 0, 2, 0, 0, 0⟩ :: []) ∧
    bodyRemainders [1, 0, 0, 0, 8, 0, 0, 0, 0] = .ok ([] ++ ⟨0, 0, 0, 8, 0, 0⟩ :: []) ∧
    bodyRemainders [1, 0, 0, 1, 31, 0, 0, 0, 0] = .ok ([] ++ ⟨0, 0, 1, 31, 0, 0⟩ :: []) ∧
    (bodyRemainders [1, 0, 6, 0, 7, 0, 0, 0, 0] = .ok ([] ++ ⟨0, 6, 0, 7, 0, 0⟩ :: []) ∧
      Table.has ship.activePlan.portals 6 = false) ∧
    ((8#8 : Byte) ≠ 0xFF#8 ∧ 8 ≤ (8#8 : Byte).toNat) ∧ (6#8 : Byte).toNat < 8 ∧ State.reset.plan.active = none :=
  ⟨ok_of (by decide +kernel), by decide +kernel, ok_of (by decide +kernel), ok_of (by decide +kernel), ok_of (by decide +kernel),
    ok_of (by decide +kernel), ok_of (by decide +kernel), ⟨ok_of (by decide +kernel), by decide⟩, by decide, by decide, rfl⟩

/-! ## Witnesses: routes -/

/-- The part under SAFETY while it computes worked case 1, and with a generation of it published. -/
def computing : State := { ship with route := { ship.route with activity := .computing (case1 .safety) } }

def generation : Generation :=
  { number := 1, profile := .normal, serial := 65535, dests := [⟨.venue, 0, .node 1, .sign⟩, ⟨.venue, 31, .remote, .programme⟩]
    results := [[⟨60000, 60000, .edge 0⟩, ⟨0, 0, .here⟩], [⟨9, 9, .portal 0⟩, ⟨65535, 0, .none⟩]] }

def published : State :=
  { ship with route := { ship.route with dests := generation.dests, published := some generation, number := 1 } }

theorem witness_EdgeWeightsAndCosts : edgeWeight (case1 .normal) 4 ⟨0, 3, .lift, 40, 0, 0⟩ = some 8 ∧
    edgeWeight (case1 .safety) 4 ⟨0, 3, .lift, 40, 0, 0⟩ = none ∧
    edgeWeight (case1 .safety) 1 ⟨1, 5, .corridor, 4095, 0, 0⟩ = some 28 := by decide

theorem witness_CompletionPublishesTheGeneration : State.reset.plan.active = none ∧
    (ship.plan.active = some active ∧ ship.route.activity = .idle) ∧
    (computing.plan.active = some active ∧ computing.route.activity = .computing (case1 .safety)) ∧
    Table.wf ship.dir = true ∧ Table.wf computing.dir = true ∧ computing.route.pending = false :=
  ⟨rfl, ⟨rfl, rfl⟩, ⟨rfl, rfl⟩, rfl, rfl, rfl⟩

/-- R57: a computation with no destination in its list is complete at once, with generation 1. -/
theorem test_empty_list_completes_at_once : (ship.trigger.route.activity, ship.trigger.route.number,
    ship.trigger.route.published.map (·.results)) = (.idle, 1, some []) := rfl

/-- A mark that stands at the completion, in a plan and in PLANLESS operation. -/
theorem witness_Completion_pending :
    ({ computing with route := { computing.route with pending := true } }).route.pending = true ∧
    ({ computing with route := { computing.route with pending := true } }).plan.active = some active ∧
    (State.plan { computing with plan := State.reset.plan }).active = none := ⟨rfl, rfl, rfl⟩

theorem witness_PublishedRoutesAreSound : computing.route.activity = .computing (case1 .safety) := rfl

theorem witness_NoWalkBeatsTheRoute :
    (0, (⟨0, 1, .corridor, 120, 4, 0⟩ : Edge)) ∈ (case1 .safety).edges ∧
    edgeCost (case1 .safety) 0 ⟨0, 1, .corridor, 120, 4, 0⟩ = some 120 ∧ otherEnd ⟨0, 1, .corridor, 120, 4, 0⟩ 1 = some 0 ∧
    (routePass (case1 .safety) ⟨.station, 0, .node 5, .station⟩)[1]? = some ⟨620, 330, .edge 2⟩ ∧
    (routePass (case1 .safety) ⟨.station, 0, .node 5, .station⟩)[0]? = some ⟨740, 450, .edge 0⟩ :=
  ⟨by decide, by decide, by decide, by decide +kernel, by decide +kernel⟩

/-- A node with an offer: the portal's remainder seeds it. -/
theorem witness_NoWalk_portal :
    let sn : Snapshot := { case1 .normal with
      portals := [(7, ⟨95, .lift, 0⟩)], remainders := [(remainderKey 7 .venue 31, ⟨65534, 1⟩)] }
    Table.get sn.remainders (remainderKey 7 .venue 31) = some ⟨65534, 1⟩ ∧
    (routePass sn ⟨.venue, 31, .remote, .sign⟩)[95]? = some ⟨65534, 1, .portal 7⟩ := by decide +kernel

theorem witness_Lookup_unavailable : (∀ g, State.reset.route.published = some g → g.profile ≠ State.reset.route.profile) ∧
    generation.resultsFor .station 0 = none := ⟨nofun, by decide⟩

/-- The four outcomes on one generation: an edge, HERE, a portal, no route. -/
theorem witness_LookupGivesArrowAndDistance : published.route.published = some generation ∧
    generation.profile = published.route.profile ∧ published.route.dests.any (sameDest .venue 0) = true ∧
    published.route.dests.any (sameDest .venue 31) = true ∧
    generation.resultsFor .venue 0 = some [⟨60000, 60000, .edge 0⟩, ⟨0, 0, .here⟩] ∧
    generation.resultsFor .venue 31 = some [⟨9, 9, .portal 0⟩, ⟨65535, 0, .none⟩] ∧
    Table.get published.activePlan.edges 0 = some ⟨0, 1, .corridor, 600, 4, 0⟩ ∧
    Table.get published.activePlan.portals 0 = some ⟨0, .stair, 8⟩ := by decide

theorem witness_DestinationListsFollowTheProfile : ship.plan.active = some active ∧ ship.route.profile = .normal ∧
    ship.prog.programme.Nodup ∧
    { ship with route := { ship.route with profile := .safety } }.route.profile = .safety := ⟨rfl, rfl, by decide, rfl⟩

/-! ## Witnesses: reads, attention and settings -/

theorem witness_StatusReadsReportTheState (l : LinkId) : portReady ship l := ready_ship l

theorem witness_TableReads_records : bodyPlanRead [1, 7, 191] = .ok ⟨true, .placement, 191⟩ ∧
    bodyTwoBytes [159, 255] = .ok (159, 255) ∧ bodyOne [7] = .ok 7 ∧
    bodyRouteRead [0, 1, 31, 95, 32] = .ok (.nodes .venue 31 95 32) ∧ bodyRouteRead [1, 0, 7, 191] = .ok (.placement .station 7 191) :=
  ⟨rfl, rfl, rfl, rfl, rfl⟩

theorem witness_TableReads_lists : bodyEventId [0xFF, 0xFF] = .ok 65535 ∧ bodyEventList [0, 1, 16] = .ok (1, 16) ∧
    bodyTextKey [1, 0, 1, 3] = .ok (1, 3) ∧ bodyCabin [0, 0, 0] = .ok 0 ∧ bodyWord [1, 0x5F] = .ok 351 :=
  ⟨ok_of (by decide +kernel), ok_of (by decide +kernel), ok_of (by decide +kernel), rfl, ok_of (by decide +kernel)⟩

theorem witness_TableReads_cabin : bodyCabin [0, 0, 2] = .ok 2 ∧ cabinIndex ship.activePlan 2 = none ∧
    bodyCabin [0, 0, 1] = .ok 1 ∧ cabinIndex ship.activePlan 1 = some 0 ∧ Table.get ship.activePlan.cabins 0 = some ⟨1, 0, 0⟩ :=
  ⟨rfl, by decide, rfl, by decide, by decide⟩

theorem witness_TableReads_displays : bodyTwoBytes [4, 1] = .ok (4, 1) ∧ bodyTwoBytes [3, 0] = .ok (3, 0) ∧
    bodyTwoBytes [3, 49] = .ok (3, 49) ∧ bodyOne [4] = .ok 4 ∧ bodyTwoBytes [3, 48] = .ok ((3 : Seg).val, 48) ∧ isAddress 48 ∧
    bodyOne [3] = .ok (3 : Seg).val := ⟨rfl, rfl, rfl, rfl, rfl, by unfold isAddress; decide, rfl⟩

theorem witness_AttentionFollowsSetAndMask : portReady State.reset .safety ∧ bodyOne [0xFF] = .ok 255 ∧ bodyOne [1] = .ok 1 ∧
    bodyPairs [1, 1, 0] = .ok [(1, 0)] ∧ (∀ x ∈ [(1, 0)], (∃ y ∈ sourceList .safety, y.code = x.1) ∧ x.2 < 2) ∧
    bodyPairs [2, 1, 0, 1, 2] = .ok ([(1, 0)] ++ (1, 2) :: []) ∧ bodyPairs [1, 0, 0] = .ok ([] ++ (0, 0) :: []) ∧
    (∀ y ∈ sourceList .safety, y.code ≠ 0) := ⟨rfl, rfl, rfl, rfl, by decide, rfl, rfl, by decide⟩

theorem witness_SettingsAreAnsweredAtTheirCompletion : portReady State.reset .safety ∧ bodyOne [255] = .ok 255 ∧
    bodyTwoBytes [0, 31] = .ok (0, 31) := ⟨rfl, rfl, rfl⟩

/-- A settings write in flight with its port waiting for it. -/
def settingsState (w : SettingsWrite) : State :=
  { inFlight (.settings w) with
    ports :=
      ⟨{ Port.initial .safety 10 with state := .handling 5 0x4A, inFlight := [⟨.settings, 5, none⟩], silence := .held },
       Port.initial .hotel 10⟩ }

theorem witness_Settings_completion (w : SettingsWrite) : (settingsState w).store.inFlight = some (.settings w) ∧
    ((settingsState w).port .safety).state = .handling 5 0x4A ∧
    ((settingsState w).port .safety).inFlight = [⟨.settings, 5, none⟩] := ⟨rfl, rfl, rfl⟩

/-- A settings entry between two others, and the one that leaves the list. -/
theorem witness_Settings_entries :
    let e : OpEntry := ⟨.settings, 5, none⟩
    [(⟨.sweep, 4, some 0⟩ : OpEntry), e, ⟨.settings, 6, none⟩] = [⟨.sweep, 4, some 0⟩] ++ e :: [⟨.settings, 6, none⟩] ∧
    (e.kind = .settings ∧ e.seg = none) ∧
    (∀ x ∈ [(⟨.sweep, 4, some 0⟩ : OpEntry)], ¬ (x.kind = .settings ∧ x.seg = none)) := by decide

/-! ## Witnesses: the muster -/

def musterIn (m : MusterState) (d : Bool) : State :=
  { ship with muster := { ship.muster with state := m, drill := d, hold := some 300, overdue := .running 900, watch := .timing 2 } }

theorem witness_MusterRequestsFollowTheTable (m : MusterState) (d : Bool) : portReady (musterIn m d) .safety ∧
    (musterIn m d).muster.state = m ∧ (musterIn m d).muster.drill = d ∧ bodyFlag [0] = .ok false ∧ bodyFlag [1] = .ok true :=
  ⟨rfl, rfl, rfl, rfl, rfl⟩

theorem witness_MusterChangesReachEveryBlock : ∃ t, exec (.alert .safety 1 [1]) ship = .next t ∧
    Instr.alert .safety 1 [1] ≠ .reset ∧ ¬ sameMuster ship.muster.state t.muster.state ∧ t.muster.drill ≠ ship.muster.drill :=
  ⟨_, rfl, by decide, by rintro (h | ⟨p, q, h, -⟩); exacts [absurd h (by decide), absurd h nofun], by decide⟩

/-- A change that is no entry into ALERT or MUSTER. -/
theorem witness_MusterChanges_noEntry : ∃ t, exec (.cancelAlert .safety 1 []) (musterIn .alert true) = .next t ∧
    t.muster.drill ≠ (musterIn .alert true).muster.drill ∧ ¬ entryMade (musterIn .alert true) t :=
  ⟨_, rfl, by decide, fun h => h.2.elim (absurd · (by decide)) (absurd · (by decide))⟩

theorem witness_GeneralAlarmEntersMuster (m : MusterState) : (musterIn m true).muster.watch = .timing 2 ∧
    (musterIn m true).muster.state = m ∧ (musterIn m true).muster.drill = true ∧ (musterIn m false).muster.drill = false :=
  ⟨rfl, rfl, rfl, rfl⟩

theorem witness_TimersAndLatchEndTheMuster : ((musterIn .muster false).muster.overdue = .running 900 ∧
    (musterIn .muster false).muster.state = .muster) ∧
    ((musterIn (.standdown .holding) false).muster.hold = some 300 ∧
      (musterIn (.standdown .holding) false).muster.state = .standdown .holding) ∧
    (inFlight (.latch (.set true))).store.inFlight = some (.latch (.set true)) ∧
    (inFlight (.latch .clear)).store.inFlight = some (.latch .clear) := ⟨⟨rfl, rfl⟩, ⟨rfl, rfl⟩, rfl, rfl⟩

theorem witness_cabin_byte : bodyCabinByte [1, 0x86, 0x9F, 7] = .ok (99999, 7) := ok_of (by decide +kernel)

theorem witness_cabin_found : cabinIndex ship.activePlan 99999 = some 159 := by decide

theorem witness_StationsAndCabinsStoreTheirFields : portReady ship .safety ∧ portReady ship .hotel ∧
    bodyCabinByte [0, 0, 1, 0xFF] = .ok (1, 255) ∧
    bodyCabinGuests [0, 0, 1, 1, 9, 0, 0, 0, 0] = .ok ⟨1, some (.count 6), none, none, none, false⟩ ∧
    cabinIndex ship.activePlan 1 = some 0 ∧ bodyTwoBytes [7, 7] = .ok (7, 7) :=
  ⟨rfl, rfl, rfl, ok_of (by decide +kernel), by decide, rfl⟩

/-- A corridor record of zone 0, whose station changes with the zone's. -/
theorem witness_ZoneStation : (withRecord (.placed 1) id).standing ((withRecord (.placed 1) id).display (recKey 0 1)) =
    some (1, ⟨.corridor [0], 0, 0, none⟩) ∧ placementZone ship.activePlan ⟨.corridor [0], 0, 0, none⟩ = some 0 ∧
    zoneStation ship.activePlan [(0, 7)] 0 ≠ zoneStation ship.activePlan [] 0 := by decide

/-- A published generation of SAFETY, and a cabin whose station an override moves. -/
theorem witness_Stations_stranded :
    let s : State := { published with route := { published.route with published := some { generation with profile := .safety } } }
    s.route.published = some { generation with profile := .safety } ∧
    ({ s.cabin 0 with stationOverride := some 7 } : CabinState) ≠ s.cabin 0 ∧
    cabinStation ship.activePlan [(0, { CabinState.initial with stationOverride := some 7 })] 0 ≠
      cabinStation ship.activePlan [] 0 := by decide

/-! ## Witnesses: the clock and the programme -/

def event (st : EventState) : Event := ⟨31, 0, 1440, .showing, ⟨some 1, none, none, none⟩, st, false⟩

/-- The clock at a minute, an event of a state, a text, and a notice in slot 0. -/
def timeline (m : Nat) (st : EventState) : State :=
  { ship with
    prog := { ship.prog with
      clock := some ⟨m, 59, .running⟩, events := [(1, event st)], texts := [(textKey 1 0, [0x41#16])] }
    resolver := { ship.resolver with notices := [(0, ⟨.hotel, .wholeSection, 1, true, some (m + 1), some m⟩)] } }

theorem witness_ClockEventsEvaluateTheProgramme : (∀ m st, Table.wf (timeline m st).prog.events = true ∧
    Table.wf (timeline m st).resolver.notices = true ∧ portReady (timeline m st) .hotel) ∧
    bodySetClock [1, 0xFF, 0xFF, 60] = .ok (65535, 60) ∧ bodySetClock [1, 0, 0, 0] = .ok (0, 0) ∧
    (timeline 65534 .scheduled).prog.clock = some ⟨65534, 59, .running⟩ ∧
    (timeline 65535 .scheduled).prog.clock = some ⟨65535, 59, .running⟩ :=
  ⟨fun _ _ => ⟨rfl, rfl, rfl⟩, ok_of (by decide +kernel), rfl, rfl, rfl⟩

/-- A clock event that changes the venue list: the destination list changes with the route engine IDLE and at work, and without a
plan it stays empty. -/
theorem witness_ClockEvents_handed :
    let chosen : State → State := fun s => minuteEvent s.begin
    let idle := timeline 5 .scheduled
    let busy := { idle with route := { idle.route with activity := .computing (ship.snapshot active) } }
    let bare := { idle with plan := State.reset.plan }
    (∀ s, exec .minuteEvent s = .next (chosen s)) ∧
    (∀ s ∈ [idle, busy, bare], s.prog.programme = [] ∧ (chosen s).prog.programme = [31]) ∧
    (∀ s ∈ [idle, busy], s.plan.active = some active ∧ sameDests (chosen s).destList s.route.dests = false) ∧
    sameDests (chosen bare).destList bare.route.dests = true := by
  refine ⟨fun _ => rfl, ?_, ?_, ?_⟩ <;> decide +kernel

theorem witness_ProgrammeSettingsAreStored : portReady ship .hotel ∧ bodySetOffset [0xFD, 0x30] = .ok (-720) ∧
    bodySetOffset [0x7F, 0xFF] = .ok 32767 ∧ bodyTwoBytes [3, 4] = .ok (3, 4) ∧ bodyTwoBytes [3, 3] = .ok (3, 3) ∧
    bodyOne [29] = .ok 29 ∧ Table.wf ship.prog.events = true :=
  ⟨rfl, ok_of (by decide +kernel), ok_of (by decide +kernel), rfl, rfl, rfl, rfl⟩

/-- An event of 1440 minutes, its id free, taken, and an id of 0 title ids. -/
theorem witness_EventRequests_add : portReady (timeline 5 .scheduled) .hotel ∧
    bodyEventAdd [0, 2, 31, 1, 0, 1, 1, 5, 0xA1, 0, 0, 0, 0, 0] = .ok ⟨2, 31, 1, 1441, .showing, ⟨none, none, none, none⟩⟩ ∧
    bodyEventAdd [0, 1, 31, 1, 0, 1, 1, 0, 1, 5, 0, 0, 0, 0] = .ok ⟨1, 31, 1, 1, .family, ⟨none, none, none, none⟩⟩ ∧
    Table.has (timeline 5 .scheduled).prog.events 2 = false ∧ Table.has (timeline 5 .scheduled).prog.events 1 = true :=
  ⟨rfl, ok_of (by decide +kernel), ok_of (by decide +kernel), by decide, by decide⟩

/-- A full table of events. -/
theorem witness_EventRequests_full :
    let es : Table Event := (List.range 128).map fun i => (i + 1, event .ended)
    Table.wf es = true ∧ ¬ Table.has es 129 ∧ 128 ≤ es.length := by decide +kernel

theorem witness_EventRequestsFollowTheirChecks : (∀ st, Table.get (timeline 5 st).prog.events 1 = some (event st)) ∧
    bodyEventModify [0, 1, 1, 0, 1, 0, 2, 1, 0, 3, 0] = .ok ⟨1, some 0, some 2, some 3, none⟩ ∧
    bodyEventModify [0, 1, 0, 0, 1, 0, 3, 0] = .ok ⟨1, none, none, some 3, none⟩ ∧
    bodyEventModify [0, 2, 0, 0, 0, 0] = .ok ⟨2, none, none, none, none⟩ ∧ bodyEventId [0, 1] = .ok 1 ∧ bodyEventId [0, 2] = .ok 2 ∧
    (∀ st, Table.get (timeline 5 st).prog.events 2 = none) :=
  ⟨fun _ => rfl, ok_of (by decide +kernel), ok_of (by decide +kernel), ok_of (by decide +kernel), ok_of (by decide +kernel), ok_of (by decide +kernel), fun _ => rfl⟩

theorem witness_EventStatesNeverReturn : Instr.minuteEvent ≠ .reset ∧ Table.wf (timeline 5 .running).prog.events = true ∧
    ∃ t b, exec .minuteEvent (timeline 5 .running) = .next t ∧ Table.get t.prog.events 1 = some b ∧
      Table.get (timeline 5 .running).prog.events 1 = some (event .running) :=
  ⟨by decide, by decide, _, event .running, rfl, by decide +kernel, rfl⟩

theorem witness_TextsAndInstructionsAreStored : portReady ship .hotel ∧ portReady ship .safety ∧
    bodyTextPut [1, 0, 1, 3, 1, 0, 0x41] = .ok (1, 3, [0x41#16]) ∧ bodyTextKey [1, 0, 1, 0] = .ok (1, 0) ∧
    bodyTwoBytes [7, 5] = .ok (7, 5) ∧ bodyTwoBytes [8, 6] = .ok (8, 6) ∧ bodyParkedText [191, 1, 0, 1] = .ok (191, some 1) ∧
    bodyParkedText [0, 2] = .ok (0, none) :=
  ⟨rfl, rfl, ok_of (by decide +kernel), ok_of (by decide +kernel), rfl, rfl, ok_of (by decide +kernel), ok_of (by decide +kernel)⟩

/-! ## Witnesses: content resolution -/

theorem witness_NoticesTakeTheLowestSlot : portReady (timeline 5 .running) .safety ∧ portReady (timeline 5 .running) .hotel ∧
    bodyPostNotice [3, 0, 0, 7, 1, 0, 1, 1, 1, 0, 6] = .ok ⟨.zone 7, 1, true, some 6⟩ ∧
    bodyPostNotice [0, 0, 0, 0, 1, 0, 1, 0, 1, 0, 5] = .ok ⟨.wholeSection, 1, false, some 5⟩ ∧
    bodyPostNotice [1, 0, 0, 191, 1, 0, 1, 0, 0] = .ok ⟨.placement 191, 1, false, none⟩ ∧
    (timeline 5 .running).now = some 5 ∧ bodyOne [31] = .ok 31 ∧ bodyOne [32] = .ok 32 ∧
    (Table.has (timeline 5 .running).resolver.notices 1 = false ∧
      ∀ j, j < 1 → Table.has (timeline 5 .running).resolver.notices j) :=
  ⟨rfl, rfl, ok_of (by decide +kernel), ok_of (by decide +kernel), ok_of (by decide +kernel), rfl, rfl, rfl, rfl, by decide⟩

/-- All 32 slots full. -/
theorem witness_Notices_full :
    let ns : Table Notice := (List.range 32).map fun i => (i, ⟨.hotel, .wholeSection, 1, false, none, none⟩)
    ∀ i, i < 32 → Table.has ns i := by decide +kernel

theorem witness_CompositionsShowTheCards : Table.wf (withRecord (.placed 0) id).dir = true := rfl

theorem witness_Compositions_entry :
    let s := withRecord (.placed 0) fun g => { g with activity := .idle, exchange := some (.card 1) }
    addressesValid s ∧ isAddress 1 ∧ (s.seg 0).exchange = some (.card 1) ∧ (s.display (recKey 0 1)).state ≠ .free :=
  ⟨withRecord_valid _ _ fun _ _ _ _ => nofun, by unfold isAddress; decide, rfl, by decide⟩

/-- R132: the secondary rendering of a title is the same text id in the secondary language. -/
theorem test_title_second : (State.titlePair
    { timeline 5 .running with prog := { (timeline 5 .running).prog with texts := [(textKey 1 0, [0x41#16]), (textKey 1 1, [0x42#16])] } }
    (event .running) 0 (some 1)) = ([0x41#16], [0x42#16]) := by decide

theorem witness_ClassFollowsStateNoticeAndDuty : (record (.placed 0)).state ≠ .free ∧ (record .orphan).state ≠ .free ∧
    ship.standing (record (.placed 0)) = some (0, ⟨.door 0, 0, 3, some 1#48⟩) ∧ ship.standing (record .orphan) = none ∧
    (timeline 5 .running).shownNotice (record .orphan) = some ⟨.hotel, .wholeSection, 1, true, some 6, some 5⟩ ∧
    (musterIn .muster false).muster.state ≠ .quiet := by decide

/-- Three notices for every display: the urgent hotel one, a later safety one, and one of an equal minute in a higher slot (R137). -/
theorem witness_Class_notices :
    let n : LinkId → Bool → Option Nat → Notice := fun l u m => ⟨l, .wholeSection, 1, u, none, m⟩
    let s : State := { ship with resolver := { ship.resolver with
      notices := [(0, n .safety false (some 9)), (30, n .hotel true none), (31, n .hotel true none)] } }
    Table.wf s.resolver.notices = true ∧ s.shownNotice (record .orphan) = some (n .hotel true none) ∧
    noticeFirst 30 (n .hotel true none) 0 (n .safety false (some 9)) ∧
    noticeFirst 30 (n .hotel true none) 31 (n .hotel true none) :=
  ⟨by decide, by decide, .inl (by decide), .inr ⟨rfl, .inr ⟨rfl, .inr ⟨rfl, by decide⟩⟩⟩⟩

/-- A record on a door with a station, in ALERT and MUSTER; records with no notice on a door, a corridor, a venue screen and none. -/
theorem witness_Class_cards :
    (∀ m, m = MusterState.alert ∨ m = .muster → (musterIn m true).muster.state = m ∧
      (musterIn m true).standing (record (.placed 0)) = some (0, ⟨.door 0, 0, 3, some 1#48⟩) ∧
      (musterIn m true).placementStation ⟨.door 0, 0, 3, some 1#48⟩ = some 0 ∧
      Table.get (musterIn m true).activePlan.stations 0 = some ⟨[0x41#16], .node 0⟩) ∧
    ship.muster.state = .quiet ∧ ship.shownNotice (record .orphan) = none ∧ ship.shownNotice (record (.placed 0)) = none ∧
    ship.standing (record (.placed 1)) = some (1, ⟨.corridor [0], 0, 0, none⟩) ∧
    ship.standing (record (.placed 191)) = some (191, ⟨.venue 0, 1, 0, none⟩) ∧ ship.shownNotice (record (.placed 1)) = none ∧
    ship.shownNotice (record (.placed 191)) = none := by
  refine ⟨?_, by decide⟩
  rintro m (rfl | rfl) <;> decide

/-- R125: the MUSTER card of a door whose guest pressed VACATED, before the first generation of SAFETY. -/
theorem test_muster_card :
    let s := musterIn .muster true
    let t : State := { s with
      muster := { s.muster with cabins := [(0, { CabinState.initial with language := 2, vacated := .guest })] }
      resolver := { s.resolver with instructions := [(0, .keepLeft)] } }
    (t.compose (record (.placed 0))).2.1 = ⟨.muster, 2, none, .station [0x41#16], [.route .none, .message (.instruction .keepLeft)],
      { Marks.clear with drill := true, vacatedGuest := true }, none⟩ := by decide

/-- R132: three sign lines and a next-on-board line on a display of line count 4 lose the secondary rendering. -/
theorem test_secondary_is_dropped :
    let signs : List Line := [.sign .none [0x41#16], .sign .none [0x42#16], .sign .none [0x43#16]]
    fitLines ⟨.lcd, 24, 4, 0⟩ (signs ++ [.onBoard .showing false 0 .none (List.replicate 7 0x44#16) [0x45#16]]) =
      signs ++ [.onBoard .showing false 0 .none (List.replicate 6 0x44#16) []] := by decide

/-! ## Witnesses: enrolment -/

theorem witness_SweepsStartAsAsked : portReady ship .safety ∧ bodySeg [3] = .ok 3 ∧
    ({ Segment.initial with autoTimer := some 1 }).autoTimer = some 1 ∧
    (ship.seg 0).activity = .waiting .startUp ∧ (ship.seg 0).exchange = none ∧
    ((sweeping .opening).seg 0).activity = .sweeping .startUp .opening := ⟨rfl, rfl, rfl, rfl, rfl, rfl⟩

theorem witness_SweepRoundsFollowTheLine (n : Nat) (i : Identity) (b : BitVec 8) :
    ((sweeping .presence).seg 0).activity = .sweeping .startUp .presence ∧
    ((sweeping (.isolation n i)).seg 0).activity = .sweeping .startUp (.isolation n i) ∧
    ((sweeping (.check n i b)).seg 0).activity = .sweeping .startUp (.check n i b) := ⟨rfl, rfl, rfl⟩

/-- Rounds at the ends of their ranges, and mismatches before and at the third. -/
theorem witness_SweepRounds_bounds : 46 + 1 < 48 ∧ ¬ 47 + 1 < 48 ∧ 6 + 1 < 8 ∧ 8 ≤ 7 + 1 ∧
    (BitVec.ofNat 8 (2 * (0#8).toNat + false.toNat) ≠ identityCheck 1#48 ∨ (1#48 : Identity) = 0#48) ∧ 1 + 1 < 3 ∧ 3 ≤ 2 + 1 := by
  decide +kernel

/-- A SWEEP request that a close completes, and none. -/
theorem witness_SweepClosed_request : ({ Segment.initial with requested := .present }).requested = .present ∧
    Segment.initial.requested ≠ .present := by decide

def two : List DisplayUnit := [{ DisplayUnit.powerUp 1#48 0 24 4 0 with sweep := .participant },
  { DisplayUnit.powerUp (BitVec.allOnes 48) 1 64 12 255 with sweep := .participant }]

theorem witness_HighestIdentityIsIsolated :
    ((sweeping (.isolation 0 0#48)).seg 0).activity = .sweeping .startUp (.isolation 0 0#48) ∧
    (two.filter fun d => d.sweep == .participant) ≠ [] ∧
    ((two.filter fun d => d.sweep == .participant).map (·.identity)).Nodup := ⟨rfl, by decide, by decide⟩

theorem witness_AddressesFollowTheCases : Table.wf (sweeping (.check 7 1#48 3#8)).dir = true ∧
    ((sweeping (.check 7 1#48 3#8)).seg 0).activity = .sweeping .startUp (.check 7 1#48 3#8) ∧
    BitVec.ofNat 8 (2 * (3#8).toNat + true.toNat) = identityCheck 1#48 ∧ (1#48 : Identity) ≠ 0#48 :=
  ⟨rfl, rfl, by decide +kernel, by decide⟩

/-- The identity held here, held elsewhere, and free addresses. -/
theorem witness_Addresses_cases : (∃ k, keySeg k = 0 ∧ ((withRecord (.placed 0) id).display k).state ≠ .free ∧
      ((withRecord (.placed 0) id).display k).identity = some 1#48) ∧
    (∃ k, keySeg k ≠ 1 ∧ ((withRecord (.placed 0) id).display k).state ≠ .free ∧
      ((withRecord (.placed 0) id).display k).identity = some 1#48 ∧ ((withRecord (.placed 0) id).display k).state.inService) ∧
    isAddress 48 ∧ (ship.display (recKey 0 48)).state = .free :=
  ⟨⟨recKey 0 1, by decide⟩, ⟨recKey 0 1, by decide⟩, by unfold isAddress; decide, by decide⟩

/-- A segment on which every address is taken. -/
theorem witness_Addresses_full : ∃ s : State, Table.wf s.dir = true ∧
    ∀ a, ¬ (isAddress a ∧ (s.display (recKey 0 a)).state = .free) := by
  refine ⟨{ ship with dir := (List.range 48).map fun i => (i + 1, record .orphan) }, by decide +kernel, ?_⟩
  intro a ⟨⟨h1, h2⟩, h3⟩
  have : ∀ b, b < 48 → (State.display { ship with dir := (List.range 48).map fun i => (i + 1, record .orphan) }
      (recKey 0 (b + 1))).state = .orphan := by decide +kernel
  have h := this (a - 1) (by omega)
  rw [show a - 1 + 1 = a by omega] at h
  rw [h] at h3
  exact absurd h3 (by decide)

theorem witness_CapabilityRepliesEnrolDisplays (n : Nat) : Table.wf (sweeping (.assign 1#48 48 n)).dir = true ∧ isAddress 48 ∧
    ((sweeping (.assign 1#48 48 n)).seg 0).activity = .sweeping .startUp (.assign 1#48 48 n) ∧
    (∀ k, keySeg k ≠ 0 → ((sweeping (.assign 1#48 48 n)).display k).state.inService →
      ((sweeping (.assign 1#48 48 n)).display k).identity ≠ some 1#48) ∧
    (2#48 : Identity) ≠ 1#48 := ⟨rfl, by unfold isAddress; decide, rfl, fun _ _ => nofun, by decide⟩

/-- A record of segment 3 took the identity in while segment 0 awaited its reply. -/
theorem witness_CapabilityReplies_duplicate (n : Nat) :
    let s := { sweeping (.assign 1#48 48 n) with dir := [(recKey 3 48, record (.placed 0))] }
    Table.wf s.dir = true ∧ isAddress 48 ∧ (s.seg 0).activity = .sweeping .startUp (.assign 1#48 48 n) ∧
    ∃ k, keySeg k ≠ 0 ∧ (s.display k).state.inService ∧ (s.display k).identity = some 1#48 :=
  ⟨rfl, by unfold isAddress; decide, rfl, recKey 3 48, by decide, rfl, rfl⟩

theorem witness_SegmentResetAndReviveActOnTheDirectory (st : RecState) : portReady (withRecord st id) .safety ∧
    bodySeg [3] = .ok 3 ∧ bodyDisplay [0, 1] = .ok (0, 1) ∧ bodyDisplay [3, 48] = .ok (3, 48) ∧
    ((withRecord st id).display (recKey 0 1)).state = st := ⟨rfl, rfl, rfl, rfl, by
  simp [State.display, withRecord, Table.get, record]⟩

theorem witness_SegmentResetAndRevive_states : (withRecord (.placed 0) id).segs ≠ ship.segs ∧
    (RecState.placed 0).inService ∧ RecState.orphan.inService := by decide

/-! ## Witnesses: delivery -/

theorem witness_ScannerStartsTheChosenExchange :
    let s := withRecord (.placed 0) fun g => { g with activity := .idle }
    (s.seg 0).exchange = none ∧ (s.seg 0).activity = .idle ∧ s.queueOrder 0 = [] ++ 1 :: [] ∧
    (s.display (recKey 0 1)).buffers.backCard = some ⟨card, .parked, .other⟩ ∧ (s.seg 0).turn = .card ∧
    (s.display (recKey 0 1)).busy = false ∧ (s.display (recKey 0 1)).credits = some 6 ∧ (s.seg 0).rotation < 1 ∧
    (s.display (recKey 0 1)).state.inService := by decide

theorem witness_Scanner_order :
    let s : State := { ship with
      dir := [(recKey 0 1, record (.placed 0)),
        (recKey 0 48, { record .orphan with buffers := ⟨none, some ⟨card, .safety, .other⟩, .x⟩ })]
      segs := ⟨{ Segment.initial with queue := [1, 48], exchange := some (.poll 1) }, .initial, .initial, .initial⟩ }
    s.queueOrder 0 = [48, 1] ∧ s.backClass 0 48 = some .safety ∧ s.backClass 0 1 = some .parked ∧
    ((s.seg 0).exchange ≠ none ∨ (s.seg 0).activity ≠ .idle) := by decide

theorem witness_ExchangeOutcomesAreApplied : isAddress 1 ∧ ((exchanging (.card 1)).display (recKey 0 1)).state.inService ∧
    ((exchanging (.card 1)).seg 0).exchange = some (.card 1) ∧ ((exchanging (.poll 1)).seg 0).exchange = some (.poll 1) ∧
    ((exchanging (.card 1)).display (recKey 0 1)).buffers.backCard = some ⟨card, .parked, .other⟩ ∧
    ((exchanging (.card 1)).display (recKey 0 1)).refreshLimit = some 1 ∧
    ((exchanging (.card 1)).display (recKey 0 1)).recompose = .clear ∧
    ({ DisplayUnit.powerUp 1#48 0 24 4 0 with sweep := .addressed 1 }).reply (.card 1 false card) = some .ack :=
  ⟨by unfold isAddress; decide, by decide⟩

/-- The attempts before and at the third, and a record HELD and one FREE while an exchange of either kind is in flight. -/
theorem witness_ExchangeOutcomes_states (x : Exchange) (st : RecState) :
    let s := withRecord st fun g => { g with activity := .idle, exchange := some x }
    (s.seg 0).exchange = some x ∧ (s.display (recKey 0 1)).state = st ∧ 1 + 1 < 3 ∧ 3 ≤ 2 + 1 ∧
    (s.display (recKey 0 1)).buffers.backCard = some ⟨card, .parked, .other⟩ ∧
    (RecState.held (some 191) .noReply).isHeld ∧ ¬ (RecState.held (some 191) .noReply).inService ∧ ¬ RecState.free.inService :=
  ⟨rfl, by simp [State.display, withRecord, Table.get, record], by decide, by decide,
    by simp [State.display, withRecord, Table.get, record, Buffers.backCard, Buffers.read, BufferId.other], by decide⟩

/-- A record in transit whose mark was set before and at an entry into ALERT. -/
theorem witness_ExchangeOutcomes_marked (e : Bool) :
    let s := (exchanging (.card 1)).setDisplay (recKey 0 1) { record (.placed 0) with recompose := .set false e }
    (s.display (recKey 0 1)).recompose = .set false e ∧ (s.display (recKey 0 1)).state.inService ∧
    (s.seg 0).exchange = some (.card 1) := by cases e <;> decide

/-- R167: noted in transit at an entry, its NAK and a new card put the record behind the one placed there. -/
theorem test_noted_record_moves_last :
    let s := exchanging (.card 1)
    let t : State := { s with
      muster := { s.muster with state := .alert }
      dir := [(recKey 0 1, { record (.placed 0) with recompose := .set false true }), (recKey 0 2, record .orphan)]
      segs := ⟨{ s.segs.s0 with queue := [1, 2] }, .initial, .initial, .initial⟩ }
    ((nak 0 1 t).seg 0).queue = [2, 1] := by decide

def inbound (st : RecState) (k : ReportKind) (o : Bool) : State :=
  { withRecord st id with bus := { ship.bus with inbound := [⟨0, 1, k, o⟩] } }

theorem witness_DispatcherActsOnTheOldestEntry (st : RecState) (k : ReportKind) (o : Bool) :
    (inbound st k o).bus.inbound = ⟨0, 1, k, o⟩ :: [] ∧ isAddress 1 ∧
    ((inbound st k o).display (recKey 0 1)).state = st :=
  ⟨rfl, by unfold isAddress; decide, by simp [State.display, inbound, withRecord, Table.get, record]⟩

theorem witness_Dispatcher_door : Table.get ship.activePlan.placements 0 = some ⟨.door 0, 0, 3, some 1#48⟩ ∧
    Table.get ship.activePlan.cabins 0 = some ⟨1, 0, 0⟩ ∧
    Table.get ship.activePlan.placements 1 = some ⟨.corridor [0], 0, 0, none⟩ ∧ portReady ship .hotel ∧
    bodyOne [0] = .ok 0 ∧ bodyOne [9] = .ok 9 := ⟨by decide, by decide, by decide, rfl, rfl, rfl⟩

/-! ## Witnesses: reset and invariants -/

theorem witness_ResetKeepsTheRetainedAreas (w : Write) : (inFlight w).store.inFlight = some w ∧ ship.store.inFlight = none ∧
    ship.store.plan.isSome := ⟨rfl, rfl, rfl⟩

/-- A plan edit is open and a command waits. -/
def editing : State := { editState .editing with pending := [.generalAlarmAsserted] }

theorem witness_StoreAndEditInvariantIsKept : planKept editing ∧ writeOrder editing ∧ editOrder editing ∧ editQuiet editing ∧
    detourWrite editing ∧ ∃ t, step editing = .next t :=
  ⟨rfl, nofun, ⟨⟨nofun, nofun⟩, nofun⟩, fun _ => rfl, fun _ => ⟨nofun, nofun⟩, _, rfl⟩

theorem witness_MusterInvariantIsKept : latchQuiet editing ∧ latchKept editing ∧ timersInState editing ∧ tallyCounts editing ∧
    profileFits editing ∧ planlessIdle editing ∧ markInFlight editing ∧ ∃ t, step editing = .next t := by
  refine ⟨fun _ => ⟨rfl, fun _ => nofun, fun _ => nofun⟩, rfl, ⟨nofun, ?_⟩, ?_, rfl, fun _ => ⟨rfl, rfl⟩, nofun, _, rfl⟩
  · decide
  · unfold tallyCounts; decide

/-- A directory with one record in its refresh queue. -/
def delivering : State := { withRecord .orphan id with pending := [.generalAlarmAsserted] }

theorem delivering_display (k : Nat) : delivering.display k = if k = 1 then record .orphan else Display.freed none := by
  by_cases h : k = 1 <;> simp [State.display, delivering, withRecord, Table.get, recKey, h]

theorem witness_DeliveryInvariantIsKept : addressesValid delivering ∧ creditsBounded delivering ∧ queuesBounded delivering ∧
    ∃ t, step delivering = .next t := by
  refine ⟨⟨by decide, ?_, ?_⟩, ?_, by unfold queuesBounded; decide, _, rfl⟩
  · intro k d h
    simp [delivering, withRecord, recKey] at h
    obtain ⟨rfl, -⟩ := h
    exact ⟨by decide, by unfold isAddress; decide⟩
  · intro g c i a n h
    fin_cases g <;> exact absurd h nofun
  · intro k c h
    rw [delivering_display] at h
    split at h <;> simp_all [record, Display.freed, Config.creditLimit]

theorem witness_Delivery_queue : queueExact delivering := by
  intro g
  have h0 : ∀ h : Seg, h ≠ 0 → (delivering.seg h).queue = [] := by decide
  by_cases hg : g = 0
  · subst hg
    refine ⟨by decide, fun a => ?_⟩
    rw [delivering_display, show (delivering.seg 0).queue = [1] from rfl]
    by_cases ha : a = 1
    · subst ha; simp [isAddress, recKey, record, Buffers.backCard, Buffers.read, BufferId.other, RecState.inService]
    · simp [recKey, ha, Display.freed, RecState.inService]
  · rw [h0 g hg]
    refine ⟨by decide, fun a => ?_⟩
    have : recKey g a ≠ 1 := by
      have : g.val ≠ 0 := fun h => hg (Fin.ext h)
      unfold recKey
      omega
    simp [delivering_display, this, Display.freed, RecState.inService]

/-- A record PLACED on the placement that expects its identity, alone in the directory. -/
def placedOne : State := { withRecord (.placed 0) id with pending := [.generalAlarmAsserted] }

theorem placedOne_display (k : Nat) : placedOne.display k = if k = 1 then record (.placed 0) else Display.freed none := by
  by_cases h : k = 1 <;> simp [State.display, placedOne, withRecord, Table.get, recKey, h]

theorem witness_Delivery_tables : tablesWf placedOne := by
  have hp : ∀ a : ActivePlan, some active = some a → planWf a.plan := by
    rintro a h
    obtain rfl := Option.some.inj h
    exact witness_Commits_reported.1
  exact ⟨by unfold planWf; decide, hp, hp, nofun, by decide⟩

theorem witness_IdentitiesStayDistinct : addressesValid placedOne ∧ assignSound placedOne ∧ identitiesDistinct placedOne ∧
    tablesWf placedOne ∧ planKept placedOne ∧ editOrder placedOne ∧ plansDistinct placedOne ∧ boundAsExpected placedOne ∧
    ∃ t, step placedOne = .next t := by
  refine ⟨⟨by decide, ?_, ?_⟩, ?_, ?_, ?_, rfl, ⟨⟨nofun, nofun⟩, fun _ => rfl⟩, ⟨?_, nofun, nofun⟩, ?_, _, rfl⟩
  · intro k d h
    simp [placedOne, withRecord, recKey] at h
    obtain ⟨rfl, -⟩ := h
    exact ⟨by decide, by unfold isAddress; decide⟩
  · intro g c i a n h
    fin_cases g <;> exact absurd h nofun
  · intro g c i a n h
    fin_cases g <;> exact absurd h nofun
  · intro j k i hj hk _ _
    rw [placedOne_display] at hj hk
    split at hj <;> split at hk <;> simp_all [Display.freed]
  · exact witness_Delivery_tables
  · rintro a h
    obtain rfl := Option.some.inj h
    intro i j x y hi hj hx he
    rw [plan_expects i x hi hx, plan_expects j y hj (he ▸ hx)]
  · intro k p h
    rw [placedOne_display] at h ⊢
    split at h
    · rename_i hk
      simp only [record, RecState.bound, Option.some.injEq] at h
      subst h
      rw [if_pos hk]
      exact ⟨rfl, _, rfl, rfl⟩
    · simp [Display.freed, RecState.bound] at h

/-- An entry with a record in the refresh queue and valid addresses. -/
theorem witness_MusterChanges_entry : addressesValid placedOne ∧ (placedOne.seg 0).queue = [1] ∧
    ∃ t, exec (.alert .safety 1 [1]) placedOne = .next t ∧ entryMade placedOne t :=
  ⟨witness_IdentitiesStayDistinct.1, rfl, _, rfl, by decide, .inl (by decide)⟩

/-! ## Witnesses: formats -/

/-- R187: a body too short is LENGTH, whatever its presence byte. -/
theorem test_length_before_range : bodySetClock [3] = .error .length := rfl

/-- R203: an ACK of address 1 waited for, one of another address, and a state in which no sweep assigns. -/
theorem witness_PanelRepliesReadBack : ((exchanging (.card 1)).seg 0).exchange = some (.card 1) ∧
    ((exchanging (.card 1)).seg 0).exchange ≠ some (.card 2) ∧ ((exchanging (.poll 48)).seg 0).exchange = some (.poll 48) ∧
    ((exchanging (.poll 48)).seg 0).exchange ≠ some (.poll 1) ∧
    (∀ x i e n, ((exchanging (.card 1)).seg 0).activity ≠ .sweeping x (.assign i e n)) ∧ isAddress 48 ∧ 255 < 256 ∧
    (0#8 : Byte) ≠ crc8 (checkedBytes (1#8 : Byte).toNat 0x82 []) ∧
    (DisplayUnit.powerUp 1#48 0 24 4 0).sweep = .unaddressed ∧ (DisplayUnit.powerUp 1#48 0 24 4 0).identity = 1#48 ∧
    ({ DisplayUnit.powerUp 1#48 0 24 4 0 with sweep := .addressed 48 }).sweep ≠ .addressed 47 :=
  ⟨rfl, by decide, rfl, by decide, fun _ _ _ _ => nofun, by unfold isAddress; decide, by decide, by decide +kernel, rfl, rfl,
    by decide⟩

theorem witness_CardRecordsAreUnique : cardFits card ∧
    cardFits ⟨.muster, 3, some 0, .cabin 99999, [.route (.route 7 999 17)], Marks.clear, none⟩ := by
  refine ⟨⟨by decide, nofun, trivial, by decide, ?_⟩, ⟨by decide, ?_, ?_, by decide, ?_⟩⟩
  · intro x hx
    simp [card] at hx
    subst hx
    trivial
  · simp
  · simp [badgeFits]
  · simp [lineFits, routeFits]

end Sys2Proof.Tests
end

section
/-! PROOFS. The edit of the plan store (R9, R11): what PLAN OPEN and PLAN ABANDON answer, said once per check, and the two
requests on the safety link. -/

namespace Sys2Proof.Machine

/-! ## What the checks read -/

theorem MusterState.refusesOpen_iff (m : MusterState) : m.refusesOpen = true ↔ m ≠ .quiet := by
  cases m <;> simp [MusterState.refusesOpen, MusterState.isSafety]

theorem State.bindInFlight_iff (s : State) :
    s.bindInFlight = true ↔ ∃ p i l, s.store.inFlight = some (.bind p i l) := by
  unfold State.bindInFlight
  split
  case h_1 p i l hw => exact ⟨fun _ => ⟨p, i, l, hw⟩, fun _ => rfl⟩
  case h_2 hw => exact ⟨nofun, fun ⟨p, i, l, h⟩ => absurd h (hw p i l)⟩

/-! ## PLAN OPEN (R9) -/

section
variable {s : State} {form : Nat}

theorem planOpen_not_quiet (hm : s.muster.state ≠ .quiet) : planOpen form s = .answer s (.refuse .state) :=
  if_pos ((MusterState.refusesOpen_iff _).mpr hm)

theorem planOpen_not_closed (hm : s.muster.state = .quiet) (he : s.plan.edit ≠ .closed) :
    planOpen form s = .answer s (.refuse .busy) := by
  simp [planOpen, MusterState.refusesOpen_iff, hm, he]

theorem planOpen_bind_in_flight (hm : s.muster.state = .quiet) (he : s.plan.edit = .closed) (hb : s.bindInFlight = true) :
    planOpen form s = .answer s (.refuse .busy) := by
  simp [planOpen, MusterState.refusesOpen_iff, hm, he, hb]

/-- Form 0 is COPY. -/
theorem planOpen_copy (hm : s.muster.state = .quiet) (he : s.plan.edit = .closed) (hb : ¬ s.bindInFlight = true) :
    planOpen 0 s = .answer { s with plan := { s.plan with edit := .editing, shadow := s.activePlan } } .ok := by
  simp [planOpen, MusterState.refusesOpen_iff, hm, he, hb]

/-- Form 1 is EMPTY. -/
theorem planOpen_empty (hm : s.muster.state = .quiet) (he : s.plan.edit = .closed) (hb : ¬ s.bindInFlight = true) :
    planOpen 1 s = .answer { s with plan := { s.plan with edit := .editing, shadow := .empty } } .ok := by
  simp [planOpen, MusterState.refusesOpen_iff, hm, he, hb]

end

/-- PLAN OPEN on a READY safety port: the form byte decides beside the state, what follows it is not read. -/
theorem exec_planOpen_of_answer {tag f : Byte} {rest : List Byte} {s t : State} {r : Reply} (hr : portReady s .safety)
    (ha : planOpen f.toNat (requestTaken .safety s) = .answer t r) :
    exec (.planOpen .safety tag (f :: rest)) s = .next (t.answer .safety tag 0x10#8 r) := by
  have hexec : exec (.planOpen .safety tag (f :: rest)) s =
      .next (settle .safety tag 0x10#8 (planOpen f.toNat (requestTaken .safety s))) :=
    congrArg Host.Outcome.next (takeRequest_taken hr rfl)
  rw [hexec, ha, settle]

/-- Settles O8: the three checks of R9 in order, then the copy or the empty shadow plan. -/
theorem planOpenFollowsItsChecks : Obligations.PlanOpenFollowsItsChecks := by
  intro tag f rest s hr hf t
  have hmuster : t.muster = s.muster := requestTaken_muster ..
  have hplan : t.plan = s.plan := requestTaken_plan ..
  have hstore : t.store = s.store := requestTaken_store ..
  have hactive : t.activePlan = s.activePlan := requestTaken_activePlan ..
  rw [← hmuster, ← hplan, ← hstore, ← hactive]
  by_cases hm : t.muster.state = .quiet
  case neg => rw [if_pos hm, exec_planOpen_of_answer hr (planOpen_not_quiet hm)]
  by_cases he : t.plan.edit = .closed
  case neg => rw [if_neg (not_not.mpr hm), if_pos he, exec_planOpen_of_answer hr (planOpen_not_closed hm he)]
  rw [if_neg (not_not.mpr hm), if_neg (not_not.mpr he)]
  split
  case h_1 p i l hw =>
    exact exec_planOpen_of_answer hr (planOpen_bind_in_flight hm he (t.bindInFlight_iff.mpr ⟨p, i, l, hw⟩))
  case h_2 hw =>
    have hb : ¬ t.bindInFlight = true := fun hb =>
      have ⟨p, i, l, h⟩ := t.bindInFlight_iff.mp hb
      hw p i l h
    rcases hf with rfl | rfl
    · exact exec_planOpen_of_answer hr (planOpen_copy hm he hb)
    · exact exec_planOpen_of_answer hr (planOpen_empty hm he hb)

/-! ## PLAN ABANDON (R11) -/

section
variable {s : State}

theorem planAbandon_closed (he : s.plan.edit = .closed) : planAbandon s = .answer s (.refuse .state) := by
  rw [planAbandon, he]

theorem planAbandon_committing (he : s.plan.edit = .committing) : planAbandon s = .answer s (.refuse .busy) := by
  rw [planAbandon, he]

theorem planAbandon_editing (he : s.plan.edit = .editing) :
    planAbandon s = .answer { s with plan := { s.plan with edit := .closed, shadow := .empty } } .ok := by
  rw [planAbandon, he]

end

/-- PLAN ABANDON on a READY safety port: its body is not read. -/
theorem exec_planAbandon_of_answer {tag : Byte} {body : List Byte} {s t : State} {r : Reply} (hr : portReady s .safety)
    (ha : planAbandon (requestTaken .safety s) = .answer t r) :
    exec (.planAbandon .safety tag body) s = .next (t.answer .safety tag 0x12#8 r) := by
  have hexec : exec (.planAbandon .safety tag body) s =
      .next (settle .safety tag 0x12#8 (planAbandon (requestTaken .safety s))) :=
    congrArg Host.Outcome.next (takeRequest_taken hr rfl)
  rw [hexec, ha, settle]

/-- Settles O10: R11 in each of the three edit states. -/
theorem planAbandonClosesTheEdit : Obligations.PlanAbandonClosesTheEdit := by
  intro tag body s hr t
  have hplan : t.plan = s.plan := requestTaken_plan ..
  rw [← hplan]
  cases he : t.plan.edit with
  | closed => exact exec_planAbandon_of_answer hr (planAbandon_closed he)
  | editing => exact exec_planAbandon_of_answer hr (planAbandon_editing he)
  | committing => exact exec_planAbandon_of_answer hr (planAbandon_committing he)

end Sys2Proof.Machine
end

section
/-! PROOFS. The costs of edges (R47 to R49): when an edge is passable, what its weight is then, and the cost rounded up. -/

namespace Sys2Proof.Machine

/-! ## Passability and weight (R47, R48) -/

theorem isBlocked_iff (ds : Table Detour) (i : Nat) : isBlocked ds i = true ↔ ∃ d ∈ ds, d.2.blocked = i := by
  simp [isBlocked]

theorem isOpened_iff (ds : Table Detour) (i : Nat) : isOpened ds i = true ↔ ∃ d ∈ ds, d.2.opened = i := by
  simp [isOpened]

/-- The base weight of R47 of an edge that its class does not close. -/
def classWeight : EdgeClass → Nat
  | .corridor => 4
  | .stair => 6
  | .lift => 8
  | .crew => 4

/-- What R48 adds for a condition that leaves an edge passable. -/
def conditionAdded : Condition → Nat
  | .crowded => 4
  | .smoke => 24
  | _ => 0

theorem baseWeight_eq_some_iff (p : Profile) (opened : Bool) (c : EdgeClass) (w : Nat) :
    baseWeight p opened c = some w ↔ ¬ (c = .lift ∧ p = .safety) ∧ (c = .crew → opened = true) ∧ w = classWeight c := by
  cases c with
  | corridor | stair => simp [baseWeight, classWeight, eq_comm]
  | lift => cases p <;> simp [baseWeight, classWeight, eq_comm]
  | crew => simp [baseWeight, classWeight, eq_comm]

theorem conditionWeight_eq_some_iff (c : Condition) (w : Nat) :
    conditionWeight c = some w ↔ c ≠ .closed ∧ w = conditionAdded c := by
  cases c <;> simp [conditionWeight, conditionAdded, eq_comm]

/-- The condition of edge `i` in a snapshot: OPEN where none is stored. -/
def edgeCondition (sn : Snapshot) (i : Nat) : Condition := (Table.get sn.conditions i).getD .openEdge

/-- What R48 asks of an edge that may be walked. -/
structure Passable (sn : Snapshot) (i : Nat) (e : Edge) : Prop where
  noLift : ¬ (e.cls = .lift ∧ sn.profile = .safety)
  crewOpened : e.cls = .crew → isOpened sn.detours i = true
  notClosed : edgeCondition sn i ≠ .closed
  notBlocked : ¬ isBlocked sn.detours i = true

section
variable {sn : Snapshot} {i : Nat} {e : Edge} {w : Nat}

theorem edgeWeight_eq_some_iff :
    edgeWeight sn i e = some w ↔ Passable sn i e ∧ w = classWeight e.cls + conditionAdded (edgeCondition sn i) := by
  unfold edgeWeight
  split
  case isTrue hb => exact ⟨nofun, fun h => absurd hb h.1.notBlocked⟩
  case isFalse hb =>
    split
    case h_1 b a hbase hcond =>
      obtain ⟨hlift, hcrew, rfl⟩ := (baseWeight_eq_some_iff ..).mp hbase
      obtain ⟨hclosed, rfl⟩ := (conditionWeight_eq_some_iff ..).mp hcond
      exact ⟨fun h => ⟨⟨hlift, hcrew, hclosed, hb⟩, (Option.some.inj h).symm⟩, fun h => congrArg some h.2.symm⟩
    case h_2 hnone =>
      exact ⟨nofun, fun ⟨h, _⟩ => absurd ((conditionWeight_eq_some_iff ..).mpr ⟨h.notClosed, rfl⟩)
        (hnone _ _ ((baseWeight_eq_some_iff ..).mpr ⟨h.noLift, h.crewOpened, rfl⟩))⟩

theorem edgeWeight_isSome_iff : (edgeWeight sn i e).isSome ↔ Passable sn i e := by
  simp [Option.isSome_iff_exists, edgeWeight_eq_some_iff]

theorem edgeWeight_bounds (h : edgeWeight sn i e = some w) : 4 ≤ w ∧ w ≤ 32 := by
  obtain ⟨-, rfl⟩ := edgeWeight_eq_some_iff.mp h
  have hclass : 4 ≤ classWeight e.cls ∧ classWeight e.cls ≤ 8 := by cases e.cls <;> decide
  have hadded : conditionAdded (edgeCondition sn i) ≤ 24 := by cases edgeCondition sn i <;> decide
  omega

theorem passable_of_edgeCost {c : Nat} (h : edgeCost sn i e = some c) : Passable sn i e := by
  obtain ⟨w, hw, -⟩ := Option.map_eq_some_iff.mp h
  exact (edgeWeight_eq_some_iff.mp hw).1

end

/-! ## Costs (R49) -/

/-- The cost is the least whole number of units not below length × weight ÷ 4. -/
theorem walkCost_ceiling (l w : Nat) : l * w ≤ 4 * walkCost l w ∧ 4 * walkCost l w < l * w + 4 := by
  unfold walkCost
  omega

theorem walkCost_bounds {l w : Nat} (hl : 1 ≤ l) (hl' : l ≤ 4095) (hw : 4 ≤ w) (hw' : w ≤ 32) :
    1 ≤ walkCost l w ∧ walkCost l w ≤ 32760 := by
  have hlow : 1 * 4 ≤ l * w := Nat.mul_le_mul hl hw
  have hhigh : l * w ≤ 4095 * 32 := Nat.mul_le_mul hl' hw'
  unfold walkCost
  omega

/-- Settles O21: R48's conditions decide whether an edge has a weight, and its cost is that weight's share rounded up. -/
theorem edgeWeightsAndCosts : Obligations.EdgeWeightsAndCosts := by
  intro sn i e opened blocked c
  refine ⟨?_, fun w hw => ?_, fun hnone => ?_⟩
  · rw [edgeWeight_isSome_iff]
    exact ⟨fun h => ⟨h.noLift, fun hc => (isOpened_iff ..).mp (h.crewOpened hc), h.notClosed,
        mt (isBlocked_iff ..).mpr h.notBlocked⟩,
      fun ⟨hlift, hcrew, hclosed, hblocked⟩ =>
        ⟨hlift, fun hc => (isOpened_iff ..).mpr (hcrew hc), hclosed, mt (isBlocked_iff ..).mp hblocked⟩⟩
  · obtain ⟨hmin, hmax⟩ := edgeWeight_bounds hw
    obtain ⟨hlow, hhigh⟩ := walkCost_ceiling e.length w
    exact ⟨(edgeWeight_eq_some_iff.mp hw).2, hmin, hmax, walkCost e.length w, congrArg (Option.map _) hw, hlow, hhigh,
      fun hl hl' => walkCost_bounds hl hl' hmin hmax⟩
  · exact congrArg (Option.map _) hnone

end Sys2Proof.Machine
end

section
/-! PROOFS. The route lookup (R64 to R66): which record it reads, and what becomes of that record for each next-hop. -/

namespace Sys2Proof.Machine

/-! ## The arrow (R65) -/

/-- The relative bearing of R65 is taken in the integers: the model's natural subtraction never falls below 0. -/
theorem arrowOf_eq (b f : Nat) : arrowOf b f = (((((b : Int) - f) % 16).toNat + 1) / 2) % 8 := by
  have hrelative : (((b : Int) - f) % 16).toNat = (b + 16 - f % 16) % 16 := by omega
  rw [hrelative, arrowOf]

section
variable {plan : Plan} {j : Nat}

theorem hopBearing_edge {e : Edge} (n : Nat) (he : Table.get plan.edges j = some e) (hb : e.bearing < 16) :
    hopBearing plan n (.edge j) = some (if e.a = n then e.bearing else (e.bearing + 8) % 16) := by
  simp [hopBearing, he, Nat.mod_eq_of_lt hb]

theorem hopBearing_portal {p : Portal} (n : Nat) (hp : Table.get plan.portals j = some p) (hb : p.bearing < 16) :
    hopBearing plan n (.portal j) = some p.bearing := by
  simp [hopBearing, hp, Nat.mod_eq_of_lt hb]

end

/-! ## Metres and minutes (R66) -/

theorem minutesOf_metresOf_le (walked : Nat) : minutesOf (metresOf walked) ≤ 17 := by
  unfold minutesOf metresOf
  omega

/-! ## One record (R64) -/

section
variable {plan : Plan} {pl : Placement} {r : RouteResult}

theorem partOf_noRoute (h : 65535 ≤ r.dist) : partOf plan pl r = .noRoute := if_pos h

theorem partOf_here (h : r.dist < 65535) (hh : r.hop = .here) : partOf plan pl r = .here := by
  have hreached : ¬ Config.noRoute ≤ r.dist := Nat.not_le.mpr h
  rw [partOf, if_neg hreached, hh]

/-- HERE has no bearing, so a next-hop with one is an edge or a portal. -/
theorem partOf_bearing {b : Nat} (h : r.dist < 65535) (hb : hopBearing plan pl.node r.hop = some b) :
    partOf plan pl r = .route (arrowOf b pl.facing) (metresOf r.walked) (minutesOf (metresOf r.walked)) := by
  have hreached : ¬ Config.noRoute ≤ r.dist := Nat.not_le.mpr h
  rw [partOf, if_neg hreached]
  split
  case h_1 hh => rw [hh] at hb; cases hb
  case h_2 => rw [hb]

end

/-! ## The lookup (R64) -/

section
variable {s : State} {pl : Placement} {k : DestKind} {i : Nat}

theorem routeLookup_unavailable (h : ∀ g, s.route.published = some g → g.profile ≠ s.route.profile ∨
      s.route.dests.any (sameDest k i) = false ∨ g.resultsFor k i = none) : routeLookup s pl k i = .none := by
  unfold routeLookup
  split
  case h_1 => rfl
  case h_2 g hg =>
    split
    case isTrue => rfl
    case isFalse hcurrent =>
      simp only [not_or, not_not, Bool.not_eq_true', Bool.not_eq_false] at hcurrent
      have hnone : g.resultsFor k i = none := by simpa [hcurrent] using h g hg
      rw [hnone]

theorem routeLookup_published {g : Generation} {rs : List RouteResult} {r : RouteResult} (hg : s.route.published = some g)
    (hp : g.profile = s.route.profile) (hd : s.route.dests.any (sameDest k i) = true) (hrs : g.resultsFor k i = some rs)
    (hr : rs[pl.node]? = some r) : routeLookup s pl k i = partOf s.activePlan pl r := by
  simp [routeLookup, hg, hp, hd, hrs, hr]

end

/-- Settles O25: an unusable generation first, then the record of the placement's node by its dist and next-hop. -/
theorem lookupGivesArrowAndDistance : Obligations.LookupGivesArrowAndDistance := by
  intro s pl k i
  refine ⟨routeLookup_unavailable, ?_⟩
  intro g rs r hg hp hd hrs hr m arrow
  have harrow (b : Nat) : arrow b = arrowOf b pl.facing := (arrowOf_eq b pl.facing).symm
  rw [routeLookup_published hg hp hd hrs hr]
  refine ⟨partOf_noRoute, fun hdist => ⟨partOf_here hdist, fun j e hhop he hb => ?_, fun j p hhop hportal hb => ?_⟩,
    minutesOf_metresOf_le r.walked⟩
  · rw [harrow]
    exact partOf_bearing hdist (hhop ▸ hopBearing_edge pl.node he hb)
  · rw [harrow]
    exact partOf_bearing hdist (hhop ▸ hopBearing_portal pl.node hportal hb)

end Sys2Proof.Machine
end

section
/-! PROOFS. One pass of a route computation is sound (R55 to R57, R63): each record it writes is backed by the destination, a
portal's remainder, or a node settled earlier, and settled nodes are never written again. So the order of settling is a rank
that falls along every next-hop edge. -/

namespace Sys2Proof.Machine

/-! ## The order of settling -/

/-- The place of `n` in the order of settling; `settled` holds the node settled last first. Every node not settled has the
place after the last. -/
def settleRank (settled : List Nat) (n : Nat) : Nat := settled.reverse.idxOf n

section
variable {settled : List Nat} {m n u : Nat}

theorem settleRank_lt_length (h : m ∈ settled) : settleRank settled m < settled.length := by
  rw [← List.length_reverse]
  exact List.idxOf_lt_length_iff.mpr (List.mem_reverse.mpr h)

theorem settleRank_of_notMem (h : m ∉ settled) : settleRank settled m = settled.length := by
  rw [← List.length_reverse]
  exact List.idxOf_eq_length_iff.mpr (mt List.mem_reverse.mp h)

theorem settleRank_cons_of_mem (h : m ∈ settled) : settleRank (u :: settled) m = settleRank settled m := by
  rw [settleRank, List.reverse_cons]
  exact List.idxOf_append_of_mem (List.mem_reverse.mpr h)

theorem length_le_settleRank_cons (h : m ∉ settled) : settled.length ≤ settleRank (u :: settled) m := by
  rw [settleRank, List.reverse_cons, List.idxOf_append_of_notMem (mt List.mem_reverse.mp h), List.length_reverse]
  exact Nat.le_add_right ..

theorem settleRank_lt_of_notMem (hm : m ∈ settled) (hn : n ∉ settled) : settleRank settled m < settleRank settled n :=
  settleRank_of_notMem hn ▸ settleRank_lt_length hm

/-- Settling another node keeps the rank of a settled node below what it was below. -/
theorem settleRank_lt_cons (hm : m ∈ settled) (h : settleRank settled m < settleRank settled n) :
    settleRank (u :: settled) m < settleRank (u :: settled) n := by
  rw [settleRank_cons_of_mem hm]
  by_cases hn : n ∈ settled
  · rwa [settleRank_cons_of_mem hn]
  · exact (settleRank_lt_length hm).trans_le (length_le_settleRank_cons hn)

end

/-! ## What backs a record -/

theorem cap_lt (k : Nat) : cap k < 65535 := Nat.lt_succ_of_le (Nat.min_le_right ..)

/-- A dist below 65535 is that of a record the list holds. -/
theorem getElem?_of_getD_reached {rs : List RouteResult} {u : Nat} (h : (rs.getD u .unreached).dist < 65535) :
    rs[u]? = some (rs.getD u .unreached) := by
  rw [List.getD_eq_getElem?_getD] at h ⊢
  cases hu : rs[u]? with
  | none => rw [hu] at h; exact absurd h (lt_irrefl _)
  | some q => rfl

/-- The record `r` of node `n` follows portal `i`, which offers its remainder to the node (R55). -/
structure BackedByPortal (sn : Snapshot) (d : Dest) (n : Nat) (r : RouteResult) (i : Nat) (p : Portal) (x : Remainder) : Prop where
  portal_mem : (i, p) ∈ sn.portals
  node_eq : p.node = n
  open_to_profile : ¬ (sn.profile = .safety ∧ p.cls = .lift)
  remainder : Table.get sn.remainders (remainderKey i d.kind d.index) = some x
  dist_eq : r.dist = x.cost
  walked_eq : r.walked = x.walked
  reached : r.dist < 65535

/-- The record `r` of node `n` follows edge `i` of cost `c` to node `m`, settled before `n`, whose record is `q` (R56). -/
structure BackedByEdge (sn : Snapshot) (settled : List Nat) (rs : List RouteResult) (n : Nat) (r : RouteResult) (i : Nat)
    (e : Edge) (m : Nat) (q : RouteResult) (c : Nat) : Prop where
  edge_mem : (i, e) ∈ sn.edges
  otherEnd_eq : otherEnd e n = some m
  neighbour : rs[m]? = some q
  cost_eq : edgeCost sn i e = some c
  neighbour_reached : q.dist < 65535
  dist_eq : r.dist = cap (q.dist + c)
  walked_eq : r.walked = cap (q.walked + e.length)
  settled_mem : m ∈ settled
  rank_lt : settleRank settled m < settleRank settled n

/-- The record `r` of node `n` is backed as its next-hop says. -/
def recordBacked (sn : Snapshot) (d : Dest) (settled : List Nat) (rs : List RouteResult) (n : Nat) (r : RouteResult) : Prop :=
  match r.hop with
  | .none => r.dist = 65535
  | .here => d.loc = .node n ∧ r.dist = 0 ∧ r.walked = 0
  | .portal i => ∃ p x, BackedByPortal sn d n r i p x
  | .edge i => ∃ e m q c, BackedByEdge sn settled rs n r i e m q c

/-- The invariant of a pass: every record is backed. -/
def passBacked (sn : Snapshot) (d : Dest) (settled : List Nat) (rs : List RouteResult) : Prop :=
  ∀ n r, rs[n]? = some r → recordBacked sn d settled rs n r

section
variable {sn : Snapshot} {d : Dest} {settled : List Nat} {rs : List RouteResult} {n m u : Nat} {r v : RouteResult}

theorem recordBacked_none (h : r.hop = .none) : recordBacked sn d settled rs n r ↔ r.dist = 65535 := by
  simp only [recordBacked, h]

theorem recordBacked_here (h : r.hop = .here) :
    recordBacked sn d settled rs n r ↔ d.loc = .node n ∧ r.dist = 0 ∧ r.walked = 0 := by
  simp only [recordBacked, h]

theorem recordBacked_portal {i : Nat} (h : r.hop = .portal i) :
    recordBacked sn d settled rs n r ↔ ∃ p x, BackedByPortal sn d n r i p x := by
  simp only [recordBacked, h]

theorem recordBacked_edge {i : Nat} (h : r.hop = .edge i) :
    recordBacked sn d settled rs n r ↔ ∃ e m q c, BackedByEdge sn settled rs n r i e m q c := by
  simp only [recordBacked, h]

/-- Only a record without a next-hop has the dist that means "no route". -/
theorem recordBacked.reached (h : recordBacked sn d settled rs n r) (hr : r.hop ≠ .none) : r.dist < 65535 := by
  cases hh : r.hop with
  | none => exact absurd hh hr
  | here =>
    obtain ⟨-, hdist, -⟩ := (recordBacked_here hh).mp h
    omega
  | portal i =>
    obtain ⟨p, x, hp⟩ := (recordBacked_portal hh).mp h
    exact hp.reached
  | edge i =>
    obtain ⟨e, m, q, c, he⟩ := (recordBacked_edge hh).mp h
    exact he.dist_eq ▸ cap_lt _

theorem recordBacked.dist_le (h : recordBacked sn d settled rs n r) : r.dist ≤ 65535 := by
  by_cases hr : r.hop = .none
  · exact ((recordBacked_none hr).mp h).le
  · exact (h.reached hr).le

/-- A record whose backing edge stays backed in the new records stays backed. -/
theorem recordBacked.mono {settled' : List Nat} {rs' : List RouteResult} (h : recordBacked sn d settled rs n r)
    (hedge : ∀ i e m q c, BackedByEdge sn settled rs n r i e m q c → BackedByEdge sn settled' rs' n r i e m q c) :
    recordBacked sn d settled' rs' n r := by
  cases hh : r.hop with
  | none => exact (recordBacked_none hh).mpr ((recordBacked_none hh).mp h)
  | here => exact (recordBacked_here hh).mpr ((recordBacked_here hh).mp h)
  | portal i => exact (recordBacked_portal hh).mpr ((recordBacked_portal hh).mp h)
  | edge i =>
    obtain ⟨e, m, q, c, he⟩ := (recordBacked_edge hh).mp h
    exact (recordBacked_edge hh).mpr ⟨e, m, q, c, hedge i e m q c he⟩

/-- Writing a node that is not settled takes no record's backing away, for only settled nodes back others. -/
theorem recordBacked.set (h : recordBacked sn d settled rs n r) (hm : m ∉ settled) :
    recordBacked sn d settled (rs.set m v) n r :=
  h.mono fun _ _ _ _ _ he =>
    { he with neighbour := (List.getElem?_set_ne (ne_of_mem_of_not_mem he.settled_mem hm).symm).trans he.neighbour }

theorem recordBacked.settle (h : recordBacked sn d settled rs n r) : recordBacked sn d (u :: settled) rs n r :=
  h.mono fun _ _ _ _ _ he =>
    { he with settled_mem := List.mem_cons_of_mem u he.settled_mem, rank_lt := settleRank_lt_cons he.settled_mem he.rank_lt }

/-- Reading past the last node gives the record that is not reached. -/
theorem passBacked.getD (h : passBacked sn d settled rs) (n : Nat) :
    recordBacked sn d settled rs n (rs.getD n .unreached) := by
  rw [List.getD_eq_getElem?_getD]
  cases hn : rs[n]? with
  | none => exact (recordBacked_none rfl).mpr rfl
  | some r => exact h n r hn

theorem passBacked.settle (h : passBacked sn d settled rs) (u : Nat) : passBacked sn d (u :: settled) rs :=
  fun n r hr => (h n r hr).settle

theorem passBacked.set (h : passBacked sn d settled rs) (hm : m ∉ settled) (hv : recordBacked sn d settled rs m v) :
    passBacked sn d settled (rs.set m v) := by
  intro n r hr
  by_cases hn : m = n
  · subst hn
    rw [List.getElem?_set_self'] at hr
    obtain ⟨-, -, rfl⟩ := Option.map_eq_some_iff.mp hr
    exact hv.set hm
  · rw [List.getElem?_set_ne hn] at hr
    exact (h n r hr).set hm

end

/-! ## The seeds (R55) -/

section
variable {sn : Snapshot} {d : Dest} {rs : List RouteResult}

theorem passBacked_replicate (k : Nat) : passBacked sn d [] (List.replicate k .unreached) := by
  intro n r hr
  rw [List.eq_of_mem_replicate (List.mem_of_getElem? hr)]
  exact (recordBacked_none rfl).mpr rfl

theorem offerPortal_backed (h : passBacked sn d [] rs) {x : Nat × Portal} (hx : x ∈ sn.portals) :
    passBacked sn d [] (offerPortal sn d rs x) := by
  obtain ⟨i, p⟩ := x
  unfold offerPortal
  split
  case isTrue => exact h
  case isFalse hopen =>
    split
    case h_1 => exact h
    case h_2 y hy =>
      split
      case isFalse => exact h
      case isTrue hlt =>
        exact h.set List.not_mem_nil ((recordBacked_portal rfl).mpr
          ⟨p, y, hx, rfl, hopen, hy, rfl, rfl, hlt.trans_le (h.getD p.node).dist_le⟩)

theorem seeds_backed : passBacked sn d [] (seeds sn d) := by
  unfold seeds
  refine List.foldlRecOn sn.portals _ ?_ fun rs h x hx => offerPortal_backed h hx
  cases hloc : d.loc with
  | node n => exact (passBacked_replicate _).set List.not_mem_nil ((recordBacked_here rfl).mpr ⟨hloc, rfl, rfl⟩)
  | remote => exact passBacked_replicate _

end

/-! ## Settling (R56) -/

/-- The node settled next has a dist below 65535. -/
theorem nextNode_reached {rs : List RouteResult} {settled : List Nat} {u : Nat} (h : nextNode rs settled = some u) :
    (rs.getD u .unreached).dist < 65535 := by
  revert u
  refine List.foldlRecOn (motive := fun best => ∀ {u}, best = some u → (rs.getD u .unreached).dist < 65535)
    (List.range rs.length) _ (fun h => absurd h.symm (Option.some_ne_none _)) fun best hbest n _ u hu => ?_
  dsimp only at hu
  split at hu
  case isTrue => exact hbest hu
  case isFalse hn =>
    have hreached : (rs.getD n .unreached).dist < 65535 := by
      simp only [Bool.or_eq_true, decide_eq_true_eq, not_or] at hn
      exact Nat.not_le.mp hn.2
    split at hu
    case h_1 => exact Option.some.inj hu ▸ hreached
    case h_2 =>
      split at hu
      case isTrue => exact Option.some.inj hu ▸ hreached
      case isFalse => exact hbest hu

theorem otherEnd_symm {e : Edge} {u m : Nat} (h : otherEnd e u = some m) : otherEnd e m = some u := by
  unfold otherEnd at h ⊢
  grind

/-- The table of R56: the record stays, or it becomes the record of the new edge. -/
theorem relaxRecord_cases (ru rm : RouteResult) (i cost length : Nat) :
    relaxRecord ru rm i cost length = rm ∨
      relaxRecord ru rm i cost length = ⟨cap (ru.dist + cost), cap (ru.walked + length), .edge i⟩ := by
  unfold relaxRecord
  dsimp only
  split
  case isTrue => exact .inr rfl
  case isFalse =>
    split
    case isFalse => exact .inl rfl
    case isTrue heq =>
      split
      case h_1 =>
        split
        case isTrue => exact .inr (heq ▸ rfl)
        case isFalse => exact .inl rfl
      case h_2 => exact .inl rfl

section
variable {sn : Snapshot} {d : Dest} {settled : List Nat} {rs : List RouteResult} {u : Nat} {x : Nat × Edge}

theorem relaxEdge_getD (hu : u ∈ settled) :
    (relaxEdge sn settled u rs x).getD u .unreached = rs.getD u .unreached := by
  unfold relaxEdge
  split
  case h_1 m cost _ _ =>
    split
    case isTrue => rfl
    case isFalse hm =>
      have hne : m ≠ u := fun h => hm (List.contains_iff_mem.mpr (h ▸ hu))
      rw [List.getD_eq_getElem?_getD, List.getElem?_set_ne hne, List.getD_eq_getElem?_getD]
  case h_2 => rfl

theorem relaxEdge_backed (h : passBacked sn d settled rs) (hu : u ∈ settled) (hreached : (rs.getD u .unreached).dist < 65535)
    (hx : x ∈ sn.edges) : passBacked sn d settled (relaxEdge sn settled u rs x) := by
  unfold relaxEdge
  split
  case h_1 m cost hend hcost =>
    split
    case isTrue => exact h
    case isFalse hm =>
      have hm : m ∉ settled := mt List.contains_iff_mem.mpr hm
      refine h.set hm ?_
      rcases relaxRecord_cases (rs.getD u .unreached) (rs.getD m .unreached) x.1 cost x.2.length with heq | heq
      · rw [heq]
        exact h.getD m
      · rw [heq]
        exact (recordBacked_edge rfl).mpr ⟨x.2, u, rs.getD u .unreached, cost, hx, otherEnd_symm hend,
          getElem?_of_getD_reached hreached, hcost, hreached, rfl, rfl, hu, settleRank_lt_of_notMem hu hm⟩
  case h_2 => exact h

end

section
variable {sn : Snapshot} {d : Dest}

/-- One round: every edge is relaxed from the node just settled, whose own record no edge writes. -/
theorem relaxEdges_backed {settled : List Nat} {rs : List RouteResult} {u : Nat} (h : passBacked sn d settled rs)
    (hu : u ∈ settled) (hreached : (rs.getD u .unreached).dist < 65535) :
    passBacked sn d settled (sn.edges.foldl (relaxEdge sn settled u) rs) :=
  (List.foldlRecOn (motive := fun rs => passBacked sn d settled rs ∧ (rs.getD u .unreached).dist < 65535)
    sn.edges _ ⟨h, hreached⟩ fun _ ⟨hb, hr⟩ _ hx => ⟨relaxEdge_backed hb hu hr hx, (relaxEdge_getD hu).symm ▸ hr⟩).1

theorem settleAll_backed (fuel : Nat) {settled : List Nat} {rs : List RouteResult} (h : passBacked sn d settled rs) :
    ∃ settled', passBacked sn d settled' (settleAll sn fuel rs settled) := by
  induction fuel generalizing rs settled with
  | zero => exact ⟨settled, h⟩
  | succ fuel ih =>
    unfold settleAll
    split
    case h_1 => exact ⟨settled, h⟩
    case h_2 u hnext =>
      exact ih (relaxEdges_backed (h.settle u) List.mem_cons_self (nextNode_reached hnext))

theorem routePass_backed : ∃ settled, passBacked sn d settled (routePass sn d) := settleAll_backed _ seeds_backed

end

/-! ## The generation a computation publishes (R57, R58) -/

/-- Between `s` and `t` the published generation stays, or one without destinations replaces it. -/
def emptyAtMostPublished (s t : State) : Prop :=
  t.route.published = s.route.published ∨ ∃ g, t.route.published = some g ∧ g.dests = []

section
variable (s : State)

theorem handPublication_route : s.handPublication.route = s.route := (handPublication_same s).keeps .route (by decide)

/-- The start of a computation publishes only when there is nothing to compute (R57). -/
theorem startComputation_published : emptyAtMostPublished s s.startComputation := by
  unfold State.startComputation
  split
  case h_1 => exact .inl rfl
  case h_2 a _ =>
    dsimp only
    split
    case isTrue hempty => exact .inr ⟨_, rfl, List.isEmpty_iff.mp hempty⟩
    case isFalse => exact .inl rfl

theorem runComputation_published : emptyAtMostPublished s s.runComputation := by
  unfold State.runComputation
  split
  case isTrue =>
    unfold emptyAtMostPublished
    rw [handPublication_route]
    exact startComputation_published s
  case isFalse => exact startComputation_published s

theorem resumeComputation_published : emptyAtMostPublished s s.resumeComputation := by
  unfold State.resumeComputation
  split
  case isTrue => exact runComputation_published s
  case isFalse => exact .inl rfl

end

/-- The completion publishes the generation of the computation in flight; the next computation may replace it at once by one
without destinations. -/
theorem computationCompletion_published {s : State} {sn : Snapshot} (h : s.route.activity = .computing sn) :
    ∃ g, (computationCompletion s).route.published = some g ∧
      (g.dests = [] ∨ g.dests = sn.dests ∧ g.results = computeRoutes sn) := by
  have hpublished : (s.publish sn).handPublication.route.published = some (s.generationOf sn) := by
    rw [handPublication_route]
    rfl
  unfold computationCompletion
  rw [h]
  rcases resumeComputation_published (s.publish sn).handPublication with hkept | ⟨g, hg, hempty⟩
  · exact ⟨_, hkept.trans hpublished, .inr ⟨rfl, rfl⟩⟩
  · exact ⟨g, hg, .inl hempty⟩

theorem mem_zip_computeRoutes {sn : Snapshot} {d : Dest} {rs : List RouteResult}
    (h : (d, rs) ∈ sn.dests.zip (computeRoutes sn)) : rs = routePass sn d := by
  rw [computeRoutes, ← List.map_prod_left_eq_zip] at h
  obtain ⟨d', -, heq⟩ := List.mem_map.mp h
  cases heq
  rfl

/-- Settles O23: the rank is the order of settling, and each record's backing is what R63 asks of it. -/
theorem publishedRoutesAreSound : Obligations.PublishedRoutesAreSound := by
  intro sn s hactivity
  obtain ⟨g, hg, hresults⟩ := computationCompletion_published (s := s.begin) hactivity
  refine ⟨computationCompletion s.begin, g, rfl, hg, fun d rs hmem => ?_⟩
  rcases hresults with hempty | ⟨hdests, hresults⟩
  · rw [hempty] at hmem
    cases hmem
  rw [hdests, hresults] at hmem
  obtain rfl := mem_zip_computeRoutes hmem
  obtain ⟨settled, hbacked⟩ := routePass_backed (sn := sn) (d := d)
  refine ⟨settleRank settled, fun n r hr => ?_⟩
  have hrecord := hbacked n r hr
  refine ⟨fun hh => (recordBacked_none hh).mp hrecord, hrecord.reached, fun hh => (recordBacked_here hh).mp hrecord,
    fun i hh => ?_, fun i hh => ?_⟩
  · obtain ⟨p, x, hp⟩ := (recordBacked_portal hh).mp hrecord
    exact ⟨p, x, hp.portal_mem, hp.node_eq, hp.open_to_profile, hp.remainder, hp.dist_eq, hp.walked_eq⟩
  · obtain ⟨e, m, q, c, he⟩ := (recordBacked_edge hh).mp hrecord
    have hpassable := passable_of_edgeCost he.cost_eq
    exact ⟨e, m, q, c, he.edge_mem, he.otherEnd_eq, he.neighbour, he.cost_eq, he.neighbour_reached, he.dist_eq, he.walked_eq,
      he.rank_lt, fun ⟨hs, hl⟩ => hpassable.noLift ⟨hl, hs⟩, hpassable.crewOpened⟩

end Sys2Proof.Machine
end


section
/-! PROOFS. Commands in general: a step runs the front command (log 7), a frame is the request of its kind by whichever name it
reaches the port (R184 to R187), and which parts of the state each command leaves alone. -/

namespace Sys2Proof.Machine

/-- Settles O1: the second equation of `step`. -/
theorem stepRunsTheFrontCommand : Obligations.StepRunsTheFrontCommand := by
  intro c rest s h
  rw [step, h]

/-! ## Frames of the master links -/

/-- Every kind byte by its value. -/
theorem forall_kind {P : Byte → Prop} (h : ∀ n, n < 256 → P (BitVec.ofNat 8 n)) (kind : Byte) : P kind := by
  simpa using h kind.toNat kind.isLt

/-- CONFIRM and FIXED DETOUR settle the confirm sequence themselves (R35, R37). -/
def ownsConfirm (kind : Byte) : Bool := kind == 0x18#8 || kind == 0x19#8

theorem kindArea_of_ownsConfirm {kind : Byte} (h : ownsConfirm kind = true) : kindArea kind = .safety := by
  simp only [ownsConfirm, Bool.or_eq_true, beq_iff_eq] at h
  rcases h with rfl | rfl <;> rfl

/-- A frame is handled as a request of the area and kind its kind byte names. -/
theorem exec_ofFrame (l : LinkId) (tag kind : Byte) (body : List Byte) (s : State) :
    ∃ h, exec (Instr.ofFrame l tag kind body) s = .next (takeRequest (kindArea kind) (ownsConfirm kind) kind l tag h s) := by
  revert kind
  refine forall_kind fun n hn => ?_
  interval_cases n <;> exact ⟨_, rfl⟩

theorem takeFrame_eq_exec (l : LinkId) (tag kind : Byte) (body : List Byte) (s : State) :
    takeFrame l tag kind body s = exec (Instr.ofFrame l tag kind body) s := by
  revert kind
  refine forall_kind fun n hn => ?_
  interval_cases n <;> rfl

/-- Settles O4: a frame's request does nothing on a busy port but restart the silence timer. -/
theorem busyPortDiscardsEveryFrame : Obligations.BusyPortDiscardsEveryFrame := by
  intro l tag kind body s hb
  obtain ⟨h, hexec⟩ := exec_ofFrame l tag kind body s
  rw [takeRequest_busy hb] at hexec
  refine ⟨hexec, (takeFrame_eq_exec ..).trans hexec, ?_, frameTaken_same l s, frameTaken_port_peer l s⟩
  rw [frameTaken_port, Port.frameArrived]
  cases (s.port l).silence <;> simp

/-! ## A frame byte by byte (R184, R185) -/

/-- The two CRC bytes of a frame read back as its check. -/
theorem be2_append (c : BitVec 16) : ∃ a b : Byte, be2 c.toNat = [a, b] ∧ a ++ b = c := by
  refine ⟨_, _, rfl, ?_⟩
  apply BitVec.eq_of_toNat_eq
  simp only [BitVec.toNat_append, byte, BitVec.toNat_ofNat]
  have := c.isLt
  rw [← Nat.shiftLeft_add_eq_or_of_lt (by omega), Nat.shiftLeft_eq]
  omega

theorem splitFrame_append (tag kind : Byte) (body : List Byte) (crc : BitVec 16) :
    splitFrame (tag :: kind :: body ++ be2 crc.toNat) = some (tag, kind, body, crc) := by
  obtain ⟨a, b, hab, rfl⟩ := be2_append crc
  simp [hab, splitFrame]

/-- The last byte of a frame of legal length hands its tag, kind, body and CRC on. -/
theorem receiveByte_last {l : LinkId} {n c tag kind : Byte} {got body : List Byte} {crc : BitVec 16} {s : State}
    (hr : (s.port l).receiver = .receiving (n :: got)) (hn : n.toNat = body.length + 2)
    (hgot : got ++ [c] = tag :: kind :: body ++ be2 crc.toNat) :
    receiveByte l c s = checkFrame l tag kind body crc s := by
  have hlen : (got ++ [c]).length = n.toNat + 2 := by rw [hgot, hn]; simp [be2]
  have hdone : ¬ (got ++ [c]).length < n.toNat + 2 := by omega
  simp only [receiveByte, hr, hdone, if_false]
  rw [hgot, splitFrame_append]

/-- Settles O6: every name of a frame leads to `takeFrame`, and the last byte to the check of the frame. -/
theorem completeFramesReachTheirRequest : Obligations.CompleteFramesReachTheirRequest := by
  intro l tag kind body crc c got s
  refine ⟨?_, takeFrame_eq_exec .., takeFrame_eq_exec .., fun hr hlen hgot => ?_⟩
  · change checkFrame l tag kind body crc s = _
    rw [checkFrame, takeFrame_eq_exec]
    rfl
  · have hn : (byte (body.length + 2)).toNat = body.length + 2 := by
      simp only [byte, BitVec.toNat_ofNat]
      omega
    change receiveByte l c s = _
    rw [receiveByte_last hr hn hgot, checkFrame, if_pos rfl, takeFrame_eq_exec]

/-! ## The port's checks (R187) -/

theorem exec_unknownKind (l : LinkId) (tag kind : Byte) (body : List Byte) (s : State) :
    knownKind kind = false → exec (.unknownKind l tag kind body) s = unknownRequest l tag kind s := by
  revert kind
  refine forall_kind fun n hn => ?_
  interval_cases n <;> first | exact fun _ => rfl | exact nofun

theorem Area.denies_iff (a : Area) (l : LinkId) : a.denies l = true ↔ a.barred l := by
  cases a <;> cases l <;> simp [Area.denies, Area.barred]

/-- A request of the other link's area is refused; one that would settle the confirm sequence itself is then on the hotel link. -/
theorem exec_ofFrame_barred {l : LinkId} {tag kind : Byte} {body : List Byte} {s : State} (hr : portReady s l)
    (hb : (kindArea kind).barred l) :
    exec (Instr.ofFrame l tag kind body) s = .next ((requestTaken l s).answer l tag kind (.refuse .denied)) := by
  obtain ⟨h, hexec⟩ := exec_ofFrame l tag kind body s
  have hd := (Area.denies_iff _ _).mpr hb
  rw [hexec]
  cases how : ownsConfirm kind with
  | false => rw [takeRequest_denied hr hd]
  | true =>
    rw [kindArea_of_ownsConfirm how] at hb
    obtain rfl : l = .hotel := hb
    rw [takeRequest_own_denied hr hd]
    rfl

/-- The kinds whose body carries fields (R201). -/
def fieldKinds : List Nat :=
  [0x10, 0x11, 0x14, 0x15, 0x16, 0x17, 0x18, 0x19, 0x1A, 0x1C, 0x1E, 0x1F, 0x20, 0x21, 0x22, 0x23, 0x24, 0x25,
    0x30, 0x31, 0x32, 0x33, 0x34, 0x35, 0x36, 0x37, 0x38, 0x39, 0x3A, 0x3B, 0x3C, 0x40, 0x41, 0x42, 0x43, 0x44, 0x48, 0x49,
    0x4A, 0x51, 0x53, 0x55, 0x57, 0x58, 0x59, 0x5A, 0x5B, 0x5C, 0x5E, 0x60, 0x61, 0x62]

/-- The reader of an empty body refuses it with LENGTH; CONFIRM and FIXED DETOUR end the confirm sequence with that answer. -/
theorem exec_ofFrame_empty (l : LinkId) (tag kind : Byte) (s : State) : kind.toNat ∈ fieldKinds →
    ∃ h, exec (Instr.ofFrame l tag kind []) s = .next (takeRequest (kindArea kind) (ownsConfirm kind) kind l tag h s) ∧
      ∀ t, h t = .answer (if ownsConfirm kind then t.abandonConfirm else t) (.bad .length) := by
  revert kind
  refine forall_kind fun n hn hk => ?_
  rw [BitVec.toNat_ofNat, Nat.mod_eq_of_lt hn, fieldKinds] at hk
  fin_cases hk <;> exact ⟨_, rfl, fun _ => rfl⟩

/-- Settles O5: the kind, then the link, then the length of the body, each before the block is asked. -/
theorem portChecksComeBeforeTheBlocks : Obligations.PortChecksComeBeforeTheBlocks := by
  intro l tag kind body s hr
  refine ⟨fun hunknown => ?_, fun _ hb => exec_ofFrame_barred hr hb, fun hb hk => ?_⟩
  · rw [exec_unknownKind _ _ _ _ _ hunknown, unknownRequest, takeRequest_taken hr rfl, settle]
  · obtain ⟨h, hexec, hanswer⟩ := exec_ofFrame_empty l tag kind s hk
    have hd : (kindArea kind).denies l = false := by
      rw [← Bool.not_eq_true, Area.denies_iff]
      exact hb
    rw [hexec]
    cases how : ownsConfirm kind with
    | false => rw [takeRequest_taken hr hd, hanswer, how, settle, if_neg Bool.false_ne_true]
    | true =>
      rw [kindArea_of_ownsConfirm how] at hb
      obtain rfl : l = .safety := by
        cases l with
        | safety => rfl
        | hotel => exact absurd rfl hb
      rw [takeRequest_own hr hd, hanswer, how, settle, if_pos rfl]
      rfl

end Sys2Proof.Machine
end


section
/-! PROOFS. Records, refresh queues and what compositions keep of them: who waits in a refresh queue (R164), and that a composition
keeps the queues exact. -/

namespace Sys2Proof.Machine

/-! ## Keys of records (R143) -/

/-- A key that names a record. -/
def keyValid (k : Nat) : Prop := k < 256 ∧ isAddress (keyAddr k)

theorem recKey_lt {g : Seg} {a : Nat} (h : isAddress a) : recKey g a < 256 := by
  have := g.isLt
  obtain ⟨_, h⟩ := h
  unfold recKey
  omega

theorem keyAddr_recKey {g : Seg} {a : Nat} (h : isAddress a) : keyAddr (recKey g a) = a := by
  obtain ⟨_, h⟩ := h
  unfold keyAddr recKey
  omega

theorem keySeg_recKey {g : Seg} {a : Nat} (h : isAddress a) : keySeg (recKey g a) = g := by
  obtain ⟨_, h⟩ := h
  have hg := g.isLt
  apply Fin.ext
  simp only [keySeg, recKey, Fin.ofNat]
  omega

theorem keyValid_recKey {g : Seg} {a : Nat} (h : isAddress a) : keyValid (recKey g a) :=
  ⟨recKey_lt h, (keyAddr_recKey h).symm ▸ h⟩

theorem recKey_of_keyValid {k : Nat} (h : keyValid k) : recKey (keySeg k) (keyAddr k) = k := by
  obtain ⟨hk, _⟩ := h
  simp only [recKey, keySeg, keyAddr, Fin.ofNat]
  omega

theorem recKey_eq_iff {k a : Nat} {g : Seg} (hk : keyValid k) (ha : isAddress a) :
    recKey g a = k ↔ g = keySeg k ∧ a = keyAddr k := by
  constructor
  · rintro rfl
    exact ⟨(keySeg_recKey ha).symm, (keyAddr_recKey ha).symm⟩
  · rintro ⟨rfl, rfl⟩
    exact recKey_of_keyValid hk

theorem State.display_of_get {s : State} {k : Nat} (h : Table.get s.dir k = none) : s.display k = Display.freed none := by
  rw [State.display, h]
  rfl

/-- A record that is not the blank one is listed, so its key names a record. -/
theorem addressesValid.keyValid {s : State} (h : addressesValid s) {k : Nat} (hd : s.display k ≠ Display.freed none) :
    keyValid k := by
  obtain ⟨-, hkeys, -⟩ := h
  cases hg : Table.get s.dir k with
  | none => exact absurd (State.display_of_get hg) hd
  | some d => exact hkeys k d (Table.mem_of_get hg)

theorem Display.ne_freed {d : Display} (h : d.state ≠ .free) : d ≠ Display.freed none := fun hd => h (hd ▸ rfl)

theorem addressesValid.keyValid_of_state {s : State} (h : addressesValid s) {k : Nat} (hd : (s.display k).state ≠ .free) :
    Machine.keyValid k := h.keyValid (Display.ne_freed hd)

/-! ## Who waits in a refresh queue (R164) -/

/-- The record's place is in its segment's refresh queue. -/
def Display.waits (d : Display) : Prop := d.buffers.backCard.isSome = true ∧ d.state.inService = true

theorem Display.not_waits_of_free {d : Display} (h : d.state = .free) : ¬ d.waits := by
  rintro ⟨-, hs⟩
  rw [h] at hs
  exact Bool.false_ne_true hs

theorem queueExact.nodup {s : State} (h : queueExact s) (g : Seg) : (s.seg g).queue.Nodup := (h g).1

theorem queueExact.mem_iff {s : State} (h : queueExact s) (g : Seg) (a : Nat) :
    a ∈ (s.seg g).queue ↔ isAddress a ∧ (s.display (recKey g a)).waits := (h g).2 a

theorem queueExact.mem_key_iff {s : State} (h : queueExact s) {k : Nat} (hk : keyValid k) :
    keyAddr k ∈ (s.seg (keySeg k)).queue ↔ (s.display k).waits := by
  rw [h.mem_iff, recKey_of_keyValid hk]
  exact and_iff_right hk.2

/-- The queues stay exact when one record changes, if its own place is right and the other places stay. -/
theorem queueExact.update {s t : State} {k : Nat} (hk : keyValid k) (hs : queueExact s)
    (hdisplay : ∀ j, j ≠ k → t.display j = s.display j) (hnodup : ∀ g, (t.seg g).queue.Nodup)
    (hrest : ∀ g a, ¬ (g = keySeg k ∧ a = keyAddr k) → (a ∈ (t.seg g).queue ↔ a ∈ (s.seg g).queue))
    (hplace : keyAddr k ∈ (t.seg (keySeg k)).queue ↔ (t.display k).waits) : queueExact t := by
  refine fun g => ⟨hnodup g, fun a => ?_⟩
  by_cases hga : g = keySeg k ∧ a = keyAddr k
  · obtain ⟨rfl, rfl⟩ := hga
    rw [hplace, recKey_of_keyValid hk]
    exact (and_iff_right hk.2).symm
  · rw [hrest g a hga, hs.mem_iff]
    refine and_congr_right fun ha => ?_
    rw [hdisplay _ fun he => hga ((recKey_eq_iff hk ha).mp he)]
    rfl

/-- The queues stay exact when the records wait as before and the queues stay. -/
theorem queueExact.congr {s t : State} (hs : queueExact s) (hdisplay : ∀ k, (t.display k).waits ↔ (s.display k).waits)
    (hqueue : ∀ g, (t.seg g).queue = (s.seg g).queue) : queueExact t := by
  refine fun g => ⟨hqueue g ▸ hs.nodup g, fun a => ?_⟩
  rw [hqueue, hs.mem_iff]
  exact and_congr_right fun _ => (hdisplay _).symm

/-! ## Joining and leaving -/

section
variable (s : State) (k : Nat)

theorem mem_joinQueue (g : Seg) (a : Nat) :
    a ∈ ((s.joinQueue k).seg g).queue ↔ a ∈ (s.seg g).queue ∨ (g = keySeg k ∧ a = keyAddr k) := by
  unfold State.joinQueue
  by_cases hg : g = keySeg k
  · subst hg
    rw [State.seg_modSeg]
    split
    · rename_i hc
      constructor
      · exact .inl
      · rintro (h | ⟨-, rfl⟩)
        · exact h
        · exact List.contains_iff_mem.mp hc
    · simp
  · rw [State.seg_modSeg_ne _ _ _ _ hg]
    simp [hg]

theorem nodup_joinQueue (g : Seg) (h : (s.seg g).queue.Nodup) : ((s.joinQueue k).seg g).queue.Nodup := by
  unfold State.joinQueue
  by_cases hg : g = keySeg k
  · subst hg
    rw [State.seg_modSeg]
    split
    · exact h
    · rename_i hc
      refine List.nodup_append.mpr ⟨h, List.nodup_singleton _, fun x hx y hy he => hc ?_⟩
      obtain rfl := List.mem_singleton.mp hy
      exact List.contains_iff_mem.mpr (he ▸ hx)
  · rwa [State.seg_modSeg_ne _ _ _ _ hg]

theorem mem_leaveQueue (g : Seg) (a : Nat) :
    a ∈ ((s.leaveQueue k).seg g).queue ↔ a ∈ (s.seg g).queue ∧ ¬ (g = keySeg k ∧ a = keyAddr k) := by
  unfold State.leaveQueue
  by_cases hg : g = keySeg k
  · subst hg
    rw [State.seg_modSeg]
    simp
  · rw [State.seg_modSeg_ne _ _ _ _ hg]
    simp [hg]

theorem nodup_leaveQueue (g : Seg) (h : (s.seg g).queue.Nodup) : ((s.leaveQueue k).seg g).queue.Nodup := by
  unfold State.leaveQueue
  by_cases hg : g = keySeg k
  · subst hg
    rw [State.seg_modSeg]
    exact h.filter _
  · rwa [State.seg_modSeg_ne _ _ _ _ hg]

variable {s k}

/-- A record that waits takes its place, whether or not it was in the queue. -/
theorem queueExact.join {t : State} (hk : keyValid k) (hs : queueExact s) (hdisplay : ∀ j, j ≠ k → t.display j = s.display j)
    (hsegs : t.segs = s.segs) (hw : (t.display k).waits) : queueExact (t.joinQueue k) := by
  have hseg : ∀ g, t.seg g = s.seg g := fun g => by rw [State.seg, State.seg, hsegs]
  refine hs.update hk hdisplay (fun g => nodup_joinQueue t k g (hseg g ▸ hs.nodup g)) (fun g a hga => ?_) ?_
  · rw [mem_joinQueue, hseg]
    exact or_iff_left hga
  · rw [mem_joinQueue]
    exact iff_of_true (.inr ⟨rfl, rfl⟩) hw

/-- A record leaves the queue as it stops waiting. -/
theorem queueExact.leave {d : Display} (hk : keyValid k) (hs : queueExact s) (hw : ¬ d.waits) :
    queueExact ((s.leaveQueue k).setDisplay k d) := by
  refine hs.update hk (fun j hj => ?_) (fun g => nodup_leaveQueue s k g (hs.nodup g)) (fun g a hga => ?_) ?_
  · rw [State.display_setDisplay_other _ _ _ _ hj]
    rfl
  · exact (mem_leaveQueue s k g a).trans (and_iff_left hga)
  · rw [State.display_setDisplay_same]
    exact iff_of_false (fun h => ((mem_leaveQueue s k _ _).mp h).2 ⟨rfl, rfl⟩) hw

/-- A record that waits as before keeps its place. -/
theorem queueExact.setDisplay {d : Display} (hs : queueExact s) (hw : d.waits ↔ (s.display k).waits) :
    queueExact (s.setDisplay k d) := by
  refine hs.congr (fun j => ?_) fun _ => rfl
  rw [State.display_setDisplay]
  split
  · subst j
    exact hw
  · rfl

theorem queueExact.moveLast (hk : keyValid k) (hs : queueExact s) (hw : (s.display k).waits) : queueExact (s.moveLast k) := by
  refine hs.update hk (fun j _ => rfl) (fun g => nodup_joinQueue _ k g (nodup_leaveQueue s k g (hs.nodup g)))
    (fun g a hga => ?_) ?_
  · rw [State.moveLast, mem_joinQueue, mem_leaveQueue]
    simp [hga]
  · rw [State.moveLast, mem_joinQueue]
    exact iff_of_true (.inr ⟨rfl, rfl⟩) hw

end

/-! ## What compositions keep -/

@[simp] theorem Buffers.backCard_setBack (b : Buffers) (c : StoredCard) : (b.setBack c).backCard = some c := by
  obtain ⟨x, y, f⟩ := b
  cases f <;> rfl

/-- The records and refresh queues of `t` come from those of `s` by compositions. -/
structure Recomposed (s t : State) : Prop where
  cards : ∀ k, cardsOnly (s.display k) (t.display k)
  queues : ∀ g, queueOnly (s.seg g) (t.seg g)
  wf : Table.wf s.dir = true → Table.wf t.dir = true
  keys : ∀ k, (Table.get t.dir k).isSome = true → (Table.get s.dir k).isSome = true
  exact : addressesValid s → queueExact s → queueExact t

section
variable {s t u : State}

theorem addressesValid_of_keys (h : addressesValid s) (hw : Table.wf t.dir = true)
    (hk : ∀ k, (Table.get t.dir k).isSome = true → (Table.get s.dir k).isSome = true ∨ keyValid k)
    (ha : ∀ g c i a n, (t.seg g).activity = .sweeping c (.assign i a n) →
      (s.seg g).activity = .sweeping c (.assign i a n) ∨ isAddress a) : addressesValid t := by
  obtain ⟨-, hkeys, hassign⟩ := h
  refine ⟨hw, fun k d hm => ?_, fun g c i a n hact => (ha g c i a n hact).elim (hassign g c i a n) id⟩
  rcases hk k (by rw [Table.get_of_mem hw hm]; rfl) with hs | hv
  · obtain ⟨d', hd'⟩ := Option.isSome_iff_exists.mp hs
    exact hkeys k d' (Table.mem_of_get hd')
  · exact hv

theorem Recomposed.addressesValid (h : Recomposed s t) (hs : addressesValid s) : addressesValid t := by
  refine addressesValid_of_keys hs (h.wf hs.1) (fun k hk => .inl (h.keys k hk)) fun g c i a n hact => .inl ?_
  rw [h.queues g] at hact
  exact hact

theorem Recomposed.of_eq (hd : t.dir = s.dir) (hs : t.segs = s.segs) : Recomposed s t := by
  have hdisplay : ∀ k, t.display k = s.display k := State.display_congr hd
  have hseg : ∀ g, t.seg g = s.seg g := fun g => by rw [State.seg, State.seg, hs]
  refine ⟨fun k => hdisplay k ▸ cardsOnly.refl _, fun g => hseg g ▸ queueOnly.refl _, fun h => hd ▸ h, fun k h => hd ▸ h,
    fun _ h => h.congr (fun k => by rw [hdisplay]) fun g => by rw [hseg]⟩

theorem Recomposed.refl (s : State) : Recomposed s s := .of_eq rfl rfl

theorem Recomposed.trans (h : Recomposed s t) (h' : Recomposed t u) : Recomposed s u :=
  ⟨fun k => (h.cards k).trans (h'.cards k), fun g => (h.queues g).trans (h'.queues g), fun w => h'.wf (h.wf w),
    fun k hk => h.keys k (h'.keys k hk), fun ha hq => h'.exact (h.addressesValid ha) (h.exact ha hq)⟩

end

/-! ## The compositions -/

/-- `t` is `s` with other cards and refresh queues, which compositions wrote. -/
structure Composes (s t : State) : Prop where
  composed : Composed s t
  recomposed : Recomposed s t

theorem Composes.refl (s : State) : Composes s s := ⟨Composed.refl s, Recomposed.refl s⟩

theorem Composes.trans {s t u : State} (h : Composes s t) (h' : Composes t u) : Composes s u :=
  ⟨h.composed.trans h'.composed, h.recomposed.trans h'.recomposed⟩

section
variable (s : State)

/-- Other keys are listed as before; the key written is that of a listed record. -/
theorem keys_setDisplay {k : Nat} (d : Display) (hk : (s.display k).state ≠ .free) (j : Nat)
    (h : (Table.get (s.setDisplay k d).dir j).isSome = true) : (Table.get s.dir j).isSome = true := by
  by_cases hj : j = k
  · subst hj
    cases hg : Table.get s.dir j with
    | none => exact absurd (State.display_of_get hg) (Display.ne_freed hk)
    | some _ => rfl
  · unfold State.setDisplay at h
    dsimp only at h
    split at h
    · rwa [Table.get_del_other _ _ _ hj] at h
    · rwa [Table.get_put_other _ _ _ _ hj] at h

/-- A record in use may change its mark and text ids. -/
theorem setDisplay_composes {k : Nat} {d : Display} (hk : (s.display k).state ≠ .free) (hc : cardsOnly (s.display k) d)
    (hw : d.waits ↔ (s.display k).waits) : Composes s (s.setDisplay k d) := by
  have h := setDisplay_composed s k d hc
  exact ⟨h, h.cards, h.queues, h.wf, keys_setDisplay s d hk, fun _ hq => hq.setDisplay hw⟩

/-- The record after its back buffer was filled with the card its content gives. -/
def filledRecord (k : Nat) (c : Cause) : Display :=
  let x := s.compose (s.display k)
  { s.display k with looked := x.2.2, buffers := (s.display k).buffers.setBack ⟨x.2.1, x.1, c⟩ }

theorem composeRecord_filling {k : Nat} (c : Cause) (hf : (s.display k).state ≠ .free) (ht : s.inTransit k = false)
    (hshown : (s.display k).shown ≠ some (s.compose (s.display k)).2.1) :
    s.composeRecord k c = (if (s.display k).state.inService then (s.setDisplay k (filledRecord s k c)).joinQueue k
      else s.setDisplay k (filledRecord s k c), true) := by
  simp only [State.composeRecord, hf, ht, hshown, if_false]
  rfl

theorem composeRecord_composes (k : Nat) (c : Cause) : Composes s (s.composeRecord k c).1 := by
  by_cases hf : (s.display k).state = .free
  · simp only [State.composeRecord, hf, if_true]
    exact Composes.refl s
  have hf' : ∀ {P : Prop}, (s.display k).state = .free → P := fun h => absurd h hf
  cases ht : s.inTransit k with
  | true =>
    simp only [State.composeRecord, hf, ht, if_false, if_true]
    exact setDisplay_composes s hf ⟨rfl, hf'⟩ Iff.rfl
  | false =>
    by_cases hshown : (s.display k).shown = some (s.compose (s.display k)).2.1
    · simp only [State.composeRecord, hf, ht, hshown, if_false, if_true]
      exact setDisplay_composes s hf ⟨rfl, hf'⟩ Iff.rfl
    · have hcomposed := composeRecord_composed s k c
      rw [composeRecord_filling s c hf ht hshown] at hcomposed ⊢
      refine ⟨hcomposed, hcomposed.cards, hcomposed.queues, hcomposed.wf, fun j hj => ?_, fun ha hq => ?_⟩
      · refine keys_setDisplay s (filledRecord s k c) hf j ?_
        dsimp only at hj
        split at hj <;> exact hj
      · dsimp only
        split
        · rename_i hservice
          refine hq.join (ha.keyValid_of_state hf) (fun j hj => State.display_setDisplay_other _ _ _ _ hj) rfl ?_
          rw [State.display_setDisplay_same]
          exact ⟨by simp [filledRecord], hservice⟩
        · rename_i hservice
          exact hq.setDisplay (iff_of_false (fun h => hservice h.2) (fun h => hservice h.2))

theorem composeKeys_composes (c : Nat → Cause) (ks : List Nat) : Composes s (s.composeKeys c ks).1 := by
  induction ks generalizing s with
  | nil => exact Composes.refl s
  | cons k ks ih => exact (composeRecord_composes s k (c k)).trans (ih _)

theorem composeWhere_composes (p : Nat → Display → Bool) : Composes s (s.composeWhere p) := composeKeys_composes ..
theorem composeAll_composes : Composes s s.composeAll := composeWhere_composes ..
theorem composePlacements_composes (p : Nat → Placement → Bool) : Composes s (s.composePlacements p) := composeWhere_composes ..
theorem composeCabin_composes (c : Nat) (k : Option Nat) : Composes s (s.composeCabin c k) := composeKeys_composes ..
theorem composeText_composes (id : Nat) : Composes s (s.composeText id) := composeWhere_composes ..
theorem composeTargets_composes (ts : List Target) : Composes s (s.composeTargets ts) := composeWhere_composes ..
theorem composeRoutes_composes : Composes s s.composeRoutes := composeWhere_composes ..

end

/-! ## The entry into ALERT or MUSTER (R167) -/

section
variable {s : State}

/-- A composition that fills or replaces a back buffer leaves a card there. -/
theorem composeRecord_filled {k : Nat} {c : Cause} (h : (s.composeRecord k c).2 = true) :
    ((s.composeRecord k c).1.display k).buffers.backCard.isSome = true := by
  unfold State.composeRecord at h ⊢
  dsimp only at h ⊢
  split
  · simp_all
  split
  · simp_all
  split
  · simp_all
  · have hback : ∀ d : Display, d.buffers.backCard.isSome = true →
        ((s.setDisplay k d).display k).buffers.backCard.isSome = true := fun d hd => by
      rwa [State.display_setDisplay_same]
    split
    · exact hback _ (by simp)
    · exact hback _ (by simp)

/-- A composition empties no back buffer. -/
theorem composeRecord_backCard {k : Nat} {c : Cause} (j : Nat) (h : (s.display j).buffers.backCard.isSome = true) :
    ((s.composeRecord k c).1.display j).buffers.backCard.isSome = true := by
  have hset : ∀ d : Display, d.buffers.backCard.isSome = true ∨ d.buffers = (s.display k).buffers →
      ((s.setDisplay k d).display j).buffers.backCard.isSome = true := fun d hd => by
    rw [State.display_setDisplay]
    split
    · subst j
      rcases hd with hd | hd
      · exact hd
      · rwa [hd]
    · exact h
  unfold State.composeRecord
  dsimp only
  split
  · exact h
  split
  · exact hset _ (.inr rfl)
  split
  · exact hset _ (.inr rfl)
  · split
    · exact hset _ (.inl (by simp))
    · exact hset _ (.inl (by simp))

theorem composeKeys_backCard {c : Nat → Cause} {ks : List Nat} (j : Nat) (h : (s.display j).buffers.backCard.isSome = true) :
    ((s.composeKeys c ks).1.display j).buffers.backCard.isSome = true := by
  induction ks generalizing s with
  | nil => exact h
  | cons k ks ih => exact ih (composeRecord_backCard j h)

theorem composeKeys_sublist (c : Nat → Cause) (ks : List Nat) : (s.composeKeys c ks).2.Sublist ks := by
  induction ks generalizing s with
  | nil => exact List.Sublist.refl _
  | cons k ks ih =>
    rw [State.composeKeys]
    dsimp only
    split
    · exact (ih (s := (s.composeRecord k (c k)).1)).cons_cons k
    · exact (ih (s := (s.composeRecord k (c k)).1)).cons k

theorem composeKeys_filled {c : Nat → Cause} {ks : List Nat} {k : Nat} (h : k ∈ (s.composeKeys c ks).2) :
    ((s.composeKeys c ks).1.display k).buffers.backCard.isSome = true := by
  induction ks generalizing s with
  | nil => exact absurd h List.not_mem_nil
  | cons j ks ih =>
    rw [State.composeKeys] at h ⊢
    dsimp only at h ⊢
    split at h
    · rename_i hfilled
      rcases List.mem_cons.mp h with rfl | h
      · exact composeKeys_backCard _ (composeRecord_filled hfilled)
      · exact ih h
    · exact ih h

theorem Table.nodup_keys {α : Type} {t : Table α} (h : Table.wf t = true) : (Table.keys t).Nodup := by
  induction t with
  | nil => exact List.nodup_nil
  | cons x t ih =>
    obtain ⟨k, v⟩ := x
    simp only [Table.wf, Bool.and_eq_true] at h
    obtain ⟨habove, hwf⟩ := h
    refine List.nodup_cons.mpr ⟨fun hm => ?_, ih hwf⟩
    obtain ⟨y, hy, hk⟩ := List.mem_map.mp hm
    exact absurd ((Table.above_iff k t).mp habove y hy) (by rw [show y.1 = k from hk]; exact Nat.lt_irrefl k)

theorem keysWhere_nodup (h : Table.wf s.dir = true) (p : Nat → Display → Bool) : (s.keysWhere p).Nodup :=
  Table.nodup_keys (Table.wf_keep _ h)

end

/-- The addresses of the records of segment `g` among `ks` that take new places, in the order of R167. -/
def entryOrder (s : State) (g : Seg) (ks : List Nat) : List Nat :=
  [0, 1, 2].flatMap fun n =>
    ((ks.filter fun k => keySeg k == g && (s.display k).state.inService).filter fun k =>
      entryGroup (s.roleOf (s.display k)) == n).map keyAddr

section
variable (s : State)

theorem placeEntry_eq (g : Seg) (ks : List Nat) : s.placeEntry g ks =
    s.modSeg g fun x => { x with queue := x.queue.filter (fun a => !(entryOrder s g ks).contains a) ++ entryOrder s g ks } := rfl

theorem entryGroup_lt (r : Option Role) : entryGroup r ∈ [0, 1, 2] := by
  unfold entryGroup
  split <;> decide

theorem mem_entryOrder (g : Seg) (ks : List Nat) (a : Nat) :
    a ∈ entryOrder s g ks ↔ ∃ k ∈ ks, keySeg k = g ∧ (s.display k).state.inService = true ∧ keyAddr k = a := by
  simp only [entryOrder, List.mem_flatMap, List.mem_map, List.mem_filter, Bool.and_eq_true, beq_iff_eq]
  constructor
  · rintro ⟨n, -, k, ⟨⟨hk, hseg, hservice⟩, -⟩, ha⟩
    exact ⟨k, hk, hseg, hservice, ha⟩
  · rintro ⟨k, hk, hseg, hservice, ha⟩
    exact ⟨_, entryGroup_lt _, k, ⟨⟨hk, hseg, hservice⟩, rfl⟩, ha⟩

variable {s}

theorem entryOrder_nodup (hs : addressesValid s) (g : Seg) {ks : List Nat} (hk : ks.Nodup) : (entryOrder s g ks).Nodup := by
  have hinj : ∀ {j k}, keySeg j = g → keySeg k = g → (s.display j).state.inService = true → (s.display k).state.inService = true →
      keyAddr j = keyAddr k → j = k := by
    intro j k hj hk hsj hsk ha
    have hvalid : ∀ {i}, (s.display i).state.inService = true → keyValid i := fun hi =>
      hs.keyValid_of_state fun hfree => by rw [hfree] at hi; exact Bool.false_ne_true hi
    rw [← recKey_of_keyValid (hvalid hsj), ← recKey_of_keyValid (hvalid hsk), hj, hk, ha]
  refine List.nodup_flatMap.mpr ⟨fun n _ => ?_, ?_⟩
  · refine ((hk.filter _).filter _).map_on fun j hj k hk ha => ?_
    simp only [List.mem_filter, Bool.and_eq_true, beq_iff_eq] at hj hk
    exact hinj hj.1.2.1 hk.1.2.1 hj.1.2.2 hk.1.2.2 ha
  · refine List.Pairwise.imp_of_mem ?_ (show [0, 1, 2].Pairwise (· ≠ ·) by decide)
    intro m n _ _ hmn a hm hn
    simp only [List.mem_map, List.mem_filter, Bool.and_eq_true, beq_iff_eq] at hm hn
    obtain ⟨j, ⟨⟨-, hj, hsj⟩, rfl⟩, rfl⟩ := hm
    obtain ⟨k, ⟨⟨-, hk, hsk⟩, rfl⟩, ha⟩ := hn
    exact hmn (by rw [hinj hj hk hsj hsk ha.symm])

/-- Records that wait take new places in the queue they are in. -/
theorem queueExact.placeEntry (hs : queueExact s) (ha : addressesValid s) (g : Seg) {ks : List Nat} (hnodup : ks.Nodup)
    (hback : ∀ k ∈ ks, (s.display k).buffers.backCard.isSome = true) : queueExact (s.placeEntry g ks) := by
  rw [placeEntry_eq]
  intro g'
  by_cases hg : g' = g
  · subst hg
    rw [State.seg_modSeg]
    constructor
    · refine List.nodup_append.mpr ⟨(hs.nodup g').filter _, entryOrder_nodup ha g' hnodup, fun a hm b hb hab => ?_⟩
      obtain ⟨-, hnot⟩ := List.mem_filter.mp hm
      subst hab
      simp [hb] at hnot
    · intro a
      have horder : a ∈ entryOrder s g' ks → a ∈ (s.seg g').queue := fun h => by
        obtain ⟨k, hk, rfl, hservice, rfl⟩ := (mem_entryOrder ..).mp h
        have hv : keyValid k := ha.keyValid_of_state fun hfree => by rw [hfree] at hservice; exact Bool.false_ne_true hservice
        exact (hs.mem_key_iff hv).mpr ⟨hback k hk, hservice⟩
      refine Iff.trans ?_ ((hs g').2 a)
      simp only [List.mem_append, List.mem_filter, Bool.not_eq_true', ← Bool.not_eq_true, List.contains_iff_mem]
      tauto
  · rw [State.seg_modSeg_ne _ _ _ _ hg]
    exact hs g'

theorem noteTransit_composes (s : State) (g : Seg) : Composes s (s.noteTransit g) := by
  unfold State.noteTransit
  split
  · dsimp only
    split
    · exact Composes.refl s
    · exact setDisplay_composes s ‹_› ⟨rfl, fun h => absurd h ‹_›⟩ Iff.rfl
  · exact Composes.refl s

theorem placeEntry_display (s : State) (g : Seg) (ks : List Nat) (k : Nat) : (s.placeEntry g ks).display k = s.display k := rfl

theorem noteTransit_backCard (s : State) (g : Seg) (k : Nat) :
    ((s.noteTransit g).display k).buffers = (s.display k).buffers := by
  unfold State.noteTransit
  split
  · dsimp only
    split
    · rfl
    · rw [State.display_setDisplay]
      split
      · subst k
        rfl
      · rfl
  · rfl

/-- Placing the records of each segment keeps the queues exact, and so does noting one in transit. -/
theorem placeEntries_exact {r : List Nat} (hnodup : r.Nodup) (gs : List Seg) {t : State} (ha : addressesValid t)
    (hq : queueExact t)
    (hback : ∀ k ∈ r, (t.display k).buffers.backCard.isSome = true) :
    queueExact (gs.foldl (fun t g => (t.placeEntry g r).noteTransit g) t) := by
  induction gs generalizing t with
  | nil => exact hq
  | cons g gs ih =>
    have ha' : addressesValid (t.placeEntry g r) :=
      addressesValid_of_keys ha ha.1 (fun _ hk => .inl hk) fun g' c i a n hact => .inl (by
        rw [(placeEntry_composed t g r).activity_eq] at hact
        exact hact)
    have hnote := (noteTransit_composes (t.placeEntry g r) g).recomposed
    refine ih (hnote.addressesValid ha') (hnote.exact ha' (hq.placeEntry ha g hnodup hback)) fun k hk => ?_
    rw [noteTransit_backCard, placeEntry_display]
    exact hback k hk

theorem placeEntries_keys (r : List Nat) (gs : List Seg) (t : State) (k : Nat)
    (h : (Table.get (gs.foldl (fun t g => (t.placeEntry g r).noteTransit g) t).dir k).isSome = true) :
    (Table.get t.dir k).isSome = true := by
  induction gs generalizing t with
  | nil => exact h
  | cons g gs ih => exact (noteTransit_composes (t.placeEntry g r) g).recomposed.keys k (ih _ h)

theorem composeEntry_composes (s : State) : Composes s s.composeEntry := by
  have hc := composeEntry_composed s
  have hkeys := (composeKeys_composes s (fun _ => .other) (s.keysWhere fun _ _ => true)).recomposed
  refine ⟨hc, hc.cards, hc.queues, hc.wf, fun k hk => hkeys.keys k (placeEntries_keys _ _ _ k hk), fun ha hq => ?_⟩
  exact placeEntries_exact ((composeKeys_sublist ..).nodup (keysWhere_nodup ha.1 _)) _ (hkeys.addressesValid ha)
    (hkeys.exact ha hq) fun k hk => composeKeys_filled hk

end

end Sys2Proof.Machine
end


section
/-! PROOFS. Facets: the parts of the state cut finer, so that one statement of what a command leaves alone serves the frame of
every command and the invariants. Each shared operation's facets, said once. -/

namespace Sys2Proof.Machine

/-- The parts of the state, the condition table, route engine, timeline and muster controller cut into what changes together;
`records` is what compositions keep of the display records and segments. -/
inductive Facet where
  | store | active | edit | conditions | writing | confirm | profile | routes | events | texts | prog | muster | cabins | zones
  | stranded | watch | resolver | dir | segs | records | bus | ports | alarmLine | freeCount | pending
  deriving DecidableEq

/-- Facet `f` is the same in `s` and `t`. -/
def Facet.same (s t : State) : Facet → Prop
  | .store => t.store = s.store
  | .active => t.plan.active = s.plan.active
  | .edit => t.plan = { s.plan with active := t.plan.active }
  | .conditions => t.cond.edges = s.cond.edges ∧ t.cond.slots = s.cond.slots ∧ t.cond.remainders = s.cond.remainders
  | .writing => t.cond.writing = s.cond.writing
  | .confirm => t.cond.progress = s.cond.progress ∧ t.cond.fields = s.cond.fields
  | .profile => t.route.profile = s.route.profile
  | .routes => t.route = { s.route with profile := t.route.profile }
  | .events => t.prog.events = s.prog.events
  | .texts => t.prog.texts = s.prog.texts
  | .prog => t.prog = { s.prog with events := t.prog.events, texts := t.prog.texts }
  | .muster => t.muster = { s.muster with
      cabins := t.muster.cabins, tally := t.muster.tally, tallySerial := t.muster.tallySerial
      zoneOverrides := t.muster.zoneOverrides, stranded := t.muster.stranded, strandedGen := t.muster.strandedGen
      watch := t.muster.watch }
  | .cabins => t.muster.cabins = s.muster.cabins ∧ t.muster.tally = s.muster.tally ∧ t.muster.tallySerial = s.muster.tallySerial
  | .zones => t.muster.zoneOverrides = s.muster.zoneOverrides
  | .stranded => t.muster.stranded = s.muster.stranded ∧ t.muster.strandedGen = s.muster.strandedGen
  | .watch => t.muster.watch = s.muster.watch
  | .resolver => t.resolver = s.resolver
  | .dir => t.dir = s.dir
  | .segs => t.segs = s.segs
  | .records => Recomposed s t
  | .bus => t.bus = s.bus
  | .ports => t.ports = s.ports
  | .alarmLine => t.alarmLine = s.alarmLine
  | .freeCount => t.freeCount = s.freeCount
  | .pending => t.pending = s.pending

/-- The facets a part is made of. -/
def Part.facets : Part → List Facet
  | .store => [.store]
  | .plan => [.active, .edit]
  | .cond => [.conditions, .writing, .confirm]
  | .route => [.profile, .routes]
  | .prog => [.events, .texts, .prog]
  | .muster => [.muster, .cabins, .zones, .stranded, .watch]
  | .resolver => [.resolver]
  | .dir => [.dir]
  | .segs => [.segs]
  | .bus => [.bus]
  | .ports => [.ports]
  | .alarmLine => [.alarmLine]
  | .freeCount => [.freeCount]
  | .pending => [.pending]

/-- The part a facet belongs to; `records` is drawn from two. -/
def Facet.part : Facet → Option Part
  | .store => some .store
  | .active | .edit => some .plan
  | .conditions | .writing | .confirm => some .cond
  | .profile | .routes => some .route
  | .events | .texts | .prog => some .prog
  | .muster | .cabins | .zones | .stranded | .watch => some .muster
  | .resolver => some .resolver
  | .dir => some .dir
  | .segs => some .segs
  | .records => none
  | .bus => some .bus
  | .ports => some .ports
  | .alarmLine => some .alarmLine
  | .freeCount => some .freeCount
  | .pending => some .pending

/-- The facets that a change of the part may change. -/
def Part.reach : Part → List Facet
  | .dir => [.dir, .records]
  | .segs => [.segs, .records]
  | p => p.facets

/-- `t` is `s` but for the facets listed. -/
structure Keeps (fs : List Facet) (s t : State) : Prop where
  keeps : ∀ f : Facet, f ∉ fs → f.same s t

/-! ## The calculus of `Keeps` -/

theorem Facet.same_of_part {f : Facet} {p : Part} {s t : State} (hp : f.part = some p) (h : p.same s t) : f.same s t := by
  cases f <;> cases hp <;> simp_all [Part.same, Facet.same]

theorem Part.same_of_facets {p : Part} {s t : State} (h : ∀ f ∈ p.facets, f.same s t) : p.same s t := by
  cases p <;> simp only [Part.facets, List.forall_mem_cons, Facet.same] at h <;> simp only [Part.same]
  case cond =>
    obtain ⟨⟨he, hs, hr⟩, hw, ⟨hp, hf⟩, -⟩ := h
    cases hs' : s.cond
    cases ht' : t.cond
    simp_all
  case plan =>
    obtain ⟨ha, he, -⟩ := h
    rw [he, ha]
  case route =>
    obtain ⟨hp, hr, -⟩ := h
    rw [hr, hp]
  case prog =>
    obtain ⟨he, ht, hr, -⟩ := h
    rw [hr, he, ht]
  case muster =>
    obtain ⟨hm, ⟨hc, ht, hts⟩, hz, ⟨hs, hg⟩, hw, -⟩ := h
    rw [hm, hc, ht, hts, hz, hs, hg, hw]
  all_goals exact h.1

theorem Keeps.mono {fs gs : List Facet} {s t : State} (h : Keeps fs s t) (hs : ∀ f ∈ fs, f ∈ gs) : Keeps gs s t :=
  ⟨fun f hf => h.keeps f fun hm => hf (hs f hm)⟩

theorem Keeps.refl (fs : List Facet) (s : State) : Keeps fs s s := by
  refine ⟨fun f _ => ?_⟩
  cases f <;> simp only [Facet.same, and_self]
  exact Recomposed.refl s

theorem Facet.same.trans {f : Facet} {s t u : State} (h : f.same s t) (h' : f.same t u) : f.same s u := by
  cases f <;> simp only [Facet.same] at *
  case conditions => exact ⟨h'.1.trans h.1, h'.2.1.trans h.2.1, h'.2.2.trans h.2.2⟩
  case cabins => exact ⟨h'.1.trans h.1, h'.2.1.trans h.2.1, h'.2.2.trans h.2.2⟩
  case confirm => exact ⟨h'.1.trans h.1, h'.2.trans h.2⟩
  case stranded => exact ⟨h'.1.trans h.1, h'.2.trans h.2⟩
  case edit => rw [h', h]
  case routes => rw [h', h]
  case prog => rw [h', h]
  case muster => rw [h', h]
  case records => exact Recomposed.trans h h'
  all_goals exact h'.trans h

theorem Keeps.trans {fs : List Facet} {s t u : State} (h : Keeps fs s t) (h' : Keeps fs t u) : Keeps fs s u :=
  ⟨fun f hf => (h.keeps f hf).trans (h'.keeps f hf)⟩

theorem Keeps.ite {c : Prop} [Decidable c] {fs : List Facet} {s t u : State} (h : Keeps fs s t) (h' : Keeps fs s u) :
    Keeps fs s (if c then t else u) := by
  split <;> assumption

theorem Part.mem_reach {f : Facet} {p : Part} (h : f.part = some p) : f ∈ p.reach := by
  cases f <;> cases h <;> decide

theorem SameBut.toKeeps {ps : List Part} {s t : State} (h : SameBut ps s t) : Keeps (ps.flatMap Part.reach) s t := by
  have hout : ∀ {f : Facet} {p : Part}, f ∉ ps.flatMap Part.reach → f ∈ p.reach → p ∉ ps := fun hf hr hp =>
    hf (List.mem_flatMap.mpr ⟨_, hp, hr⟩)
  refine ⟨fun f hf => ?_⟩
  cases hp : f.part with
  | some p => exact Facet.same_of_part hp (h.keeps p (hout hf (Part.mem_reach hp)))
  | none =>
    obtain rfl : f = .records := by cases f <;> first | rfl | exact absurd hp nofun
    exact Recomposed.of_eq (h.keeps .dir (hout hf (by decide))) (h.keeps .segs (hout hf (by decide)))

theorem Part.part_of_mem_facets {p : Part} {f : Facet} : f ∈ p.facets → f.part = some p := by
  revert f
  cases p <;> simp [Part.facets, Facet.part]

theorem Keeps.toSameBut {fs : List Facet} {s t : State} (h : Keeps fs s t) : SameBut (fs.filterMap Facet.part) s t :=
  ⟨fun _ hp => Part.same_of_facets fun f hf => h.keeps f fun hm =>
    hp (List.mem_filterMap.mpr ⟨f, hm, Part.part_of_mem_facets hf⟩)⟩

/-! ## Shared operations -/

section
variable (s : State)

theorem composes_keeps {s t : State} (h : Composes s t) : Keeps [.dir, .segs] s t := by
  refine ⟨fun f hf => ?_⟩
  by_cases hr : f = .records
  · subst hr
    exact h.recomposed
  · exact h.composed.same.toKeeps.keeps f (by simp_all [Part.reach])

theorem modPort_keeps (l : LinkId) (f : Port → Port) : Keeps [.ports] s (s.modPort l f) := (modPort_same ..).toKeeps
theorem raise_keeps (l : LinkId) (x : Source) : Keeps [.ports] s (s.raise l x) := (raise_same ..).toKeeps
theorem raiseIf_keeps (c : Bool) (l : LinkId) (x : Source) : Keeps [.ports] s (s.raiseIf c l x) := (raiseIf_same ..).toKeeps

theorem abandonConfirm_keeps : Keeps [.confirm] s s.abandonConfirm := by
  refine ⟨fun f hf => ?_⟩
  cases f <;> simp_all [Facet.same, Recomposed.of_eq, State.abandonConfirm]

theorem startComputation_keeps : Keeps [.routes] s s.startComputation := by
  refine ⟨fun f hf => ?_⟩
  by_cases hp : f = .profile
  · subst hp
    change s.startComputation.route.profile = s.route.profile
    unfold State.startComputation
    split
    · rfl
    · dsimp only
      split <;> rfl
  · exact (startComputation_same s).toKeeps.keeps f (by simp_all [Part.reach, Part.facets])

theorem retally_keeps : Keeps [.cabins, .ports] s s.retally := by
  unfold State.retally
  dsimp only
  split
  · exact Keeps.refl ..
  · refine Keeps.trans ?_ ((raiseIf_keeps ..).mono (by decide))
    refine ⟨fun f hf => ?_⟩
    cases f <;> simp_all [Facet.same, Recomposed.of_eq]

/-- The facets of a state with another stranded list. -/
theorem withStranded_keeps (xs : List Stranded) (n : Nat) :
    Keeps [.stranded] s { s with muster := { s.muster with stranded := xs, strandedGen := n } } := by
  refine ⟨fun f hf => ?_⟩
  cases f <;> simp_all [Facet.same, Recomposed.of_eq]

theorem rebuildStranded_keeps : Keeps [.stranded, .ports] s s.rebuildStranded := by
  unfold State.rebuildStranded
  split
  · exact Keeps.refl ..
  · exact Keeps.ite (((withStranded_keeps ..).mono (by decide)).trans ((raiseIf_keeps ..).mono (by decide))) (Keeps.refl ..)

theorem strandedAtStart_keeps : Keeps [.stranded, .ports] s s.strandedAtStart :=
  Keeps.ite (rebuildStranded_keeps s) (Keeps.refl ..)

theorem handPublication_keeps : Keeps [.stranded, .dir, .segs, .ports] s s.handPublication :=
  ((composes_keeps (composeRoutes_composes s)).mono (by decide)).trans ((rebuildStranded_keeps _).mono (by decide))

/-- What a started computation may change; the ports are those of `runComputation_same`. -/
theorem runComputation_keeps : Keeps [.routes, .stranded, .dir, .segs] s s.runComputation := by
  refine ⟨fun f hf => ?_⟩
  by_cases hp : f = .ports
  · subst hp
    exact (runComputation_same s).keeps .ports (by decide)
  · have h : Keeps [.routes, .stranded, .dir, .segs, .ports] s s.runComputation := by
      unfold State.runComputation
      exact Keeps.ite (((startComputation_keeps s).mono (by decide)).trans ((handPublication_keeps _).mono (by decide)))
        ((startComputation_keeps s).mono (by decide))
    exact h.keeps f (by simp_all)

theorem withPending_keeps (b : Bool) : Keeps [.routes] s { s with route := { s.route with pending := b } } := by
  refine ⟨fun f hf => ?_⟩
  cases f <;> simp_all [Facet.same, Recomposed.of_eq]

theorem trigger_keeps : Keeps [.routes, .stranded, .dir, .segs] s s.trigger := by
  unfold State.trigger
  split
  · exact Keeps.refl ..
  · split
    · exact runComputation_keeps s
    · exact (withPending_keeps s true).mono (by decide)

theorem triggerIf_keeps (c : Bool) : Keeps [.routes, .stranded, .dir, .segs] s (s.triggerIf c) :=
  Keeps.ite (trigger_keeps s) (Keeps.refl ..)

/-- The facets of a state with other condition tables. -/
theorem withConditions_keeps (e : Table Condition) (d : Table Detour) (r : Table Remainder) :
    Keeps [.conditions] s { s with cond := { s.cond with edges := e, slots := d, remainders := r } } := by
  refine ⟨fun f hf => ?_⟩
  cases f <;> simp_all [Facet.same, Recomposed.of_eq]

theorem withDests_keeps (ds : List Dest) : Keeps [.routes] s { s with route := { s.route with dests := ds } } := by
  refine ⟨fun f hf => ?_⟩
  cases f <;> simp_all [Facet.same, Recomposed.of_eq]

theorem rebuildDests_keeps : Keeps [.routes, .stranded, .dir, .segs] s s.rebuildDests :=
  Keeps.ite (Keeps.refl ..) (((withDests_keeps ..).mono (by decide)).trans (trigger_keeps _))

theorem resumeComputation_keeps : Keeps [.routes, .stranded, .dir, .segs] s s.resumeComputation :=
  Keeps.ite (runComputation_keeps s) (Keeps.refl ..)

theorem withEdit_keeps (e : EditState) (p : Plan) : Keeps [.edit] s { s with plan := { s.plan with edit := e, shadow := p } } := by
  refine ⟨fun f hf => ?_⟩
  cases f <;> simp_all [Facet.same, Recomposed.of_eq]

theorem closeEdit_keeps : Keeps [.edit, .ports] s s.closeEdit :=
  Keeps.ite (((withEdit_keeps ..).mono (by decide)).trans ((raise_keeps ..).mono (by decide))) (Keeps.refl ..)

/-- The parts `handMuster` changes, the muster controller in its stranded list alone. -/
theorem handMuster_keeps (m : MusterState) :
    Keeps [.edit, .ports, .profile, .routes, .stranded, .dir, .segs] s (s.handMuster m) := by
  unfold State.handMuster
  dsimp only
  have h1 : Keeps [.edit, .ports, .profile, .routes, .stranded, .dir, .segs] s
      (if isEntry m s.muster.state then s.closeEdit else s) :=
    Keeps.ite ((closeEdit_keeps s).mono (by decide)) (Keeps.refl ..)
  generalize (if isEntry m s.muster.state = true then s.closeEdit else s) = s1 at h1 ⊢
  have h2 := h1.trans ((changeProfile_same s1 s1.muster.state.profile).toKeeps.mono (by decide))
  generalize s1.changeProfile s1.muster.state.profile = s2 at h2 ⊢
  have h3 := h2.trans (Keeps.ite (c := isEntry m s.muster.state = true)
    ((composes_keeps (composeEntry_composes s2)).mono (by decide)) ((composes_keeps (composeAll_composes s2)).mono (by decide)))
  exact (Keeps.ite h3 (h3.trans ((strandedAtStart_keeps _).mono (by decide)))).trans ((raise_keeps ..).mono (by decide))

/-- When it is no entry into ALERT or MUSTER, no edit ends. -/
theorem handMuster_calm_keeps (m : MusterState) (h : isEntry m s.muster.state = false) :
    Keeps [.ports, .profile, .routes, .stranded, .dir, .segs] s (s.handMuster m) := by
  refine ⟨fun f hf => ?_⟩
  by_cases he : f = .edit
  · subst he
    exact (handMuster_same_calm s m h).toKeeps.keeps .edit (by decide)
  · exact (handMuster_keeps s m).keeps f (by simp_all)

theorem withZones_keeps (z : Table Nat) :
    Keeps [.zones] s { s with muster := { s.muster with zoneOverrides := z } } := by
  refine ⟨fun f hf => ?_⟩
  cases f <;> simp_all [Facet.same, Recomposed.of_eq]

theorem setZoneStation_keeps (z : Nat) (st : Option Nat) :
    Keeps [.zones, .stranded, .ports, .dir, .segs] s (s.setZoneStation z st) := by
  unfold State.setZoneStation
  dsimp only
  refine Keeps.ite ((withZones_keeps ..).mono (by decide)) ?_
  exact ((withZones_keeps ..).mono (by decide)).trans (((rebuildStranded_keeps _).mono (by decide)).trans
    ((composes_keeps (composePlacements_composes ..)).mono (by decide)))

theorem setCabin_keeps (i : Nat) (c : CabinState) : Keeps [.cabins] s (s.setCabin i c) := by
  refine ⟨fun f hf => ?_⟩
  cases f <;> simp_all [Facet.same, Recomposed.of_eq, State.setCabin]

theorem changeCabin_keeps (i : Nat) (c : CabinState) (k : Option Nat) :
    Keeps [.cabins, .stranded, .ports, .dir, .segs] s (s.changeCabin i c k) := by
  unfold State.changeCabin
  refine Keeps.ite (Keeps.refl ..) ?_
  refine Keeps.trans ?_ ((composes_keeps (composeCabin_composes ..)).mono (by decide))
  have h : Keeps [.cabins, .stranded, .ports, .dir, .segs] s (s.setCabin i c).retally :=
    ((setCabin_keeps ..).mono (by decide)).trans ((retally_keeps _).mono (by decide))
  exact Keeps.ite h (h.trans ((rebuildStranded_keeps _).mono (by decide)))

theorem withChoice_keeps (vs : Table VenueChoice) (o : Option Nat) (ps : List Nat) :
    Keeps [.prog] s { s with prog := { s.prog with venues := vs, onBoard := o, programme := ps } } := by
  refine ⟨fun f hf => ?_⟩
  cases f <;> simp_all [Facet.same, Recomposed.of_eq]

theorem withEvents_keeps (es : Table Event) : Keeps [.events] s { s with prog := { s.prog with events := es } } := by
  refine ⟨fun f hf => ?_⟩
  cases f <;> simp_all [Facet.same, Recomposed.of_eq]

theorem withTexts_keeps (ts : Table Text) : Keeps [.texts] s { s with prog := { s.prog with texts := ts } } := by
  refine ⟨fun f hf => ?_⟩
  cases f <;> simp_all [Facet.same, Recomposed.of_eq]

theorem withClock_keeps (c : Option Clock) : Keeps [.prog] s { s with prog := { s.prog with clock := c } } := by
  refine ⟨fun f hf => ?_⟩
  cases f <;> simp_all [Facet.same, Recomposed.of_eq]

theorem withSettings_keeps (o : Int) (n p q : Nat) :
    Keeps [.prog] s { s with prog := { s.prog with offset := o, lookahead := n, primary := p, secondary := q } } := by
  refine ⟨fun f hf => ?_⟩
  cases f <;> simp_all [Facet.same, Recomposed.of_eq]

theorem handProgramme_keeps (vs : List Nat) : Keeps [.prog, .routes, .stranded, .dir, .segs] s (s.handProgramme vs) :=
  Keeps.ite (Keeps.refl ..) (((withChoice_keeps s s.prog.venues s.prog.onBoard vs).mono (by decide)).trans
    ((rebuildDests_keeps _).mono (by decide)))

theorem chooseAfresh_keeps (old : Table Event) : Keeps [.prog, .routes, .stranded, .dir, .segs] s (s.chooseAfresh old) := by
  unfold State.chooseAfresh
  exact ((withChoice_keeps s _ _ s.prog.programme).mono (by decide)).trans ((handProgramme_keeps ..).trans
    ((composes_keeps (composePlacements_composes ..)).mono (by decide)))

theorem expireNotices_keeps (n : Nat) : Keeps [.resolver, .dir, .segs] s (s.expireNotices n) := by
  unfold State.expireNotices
  exact ((withResolver_same ..).toKeeps.mono (by decide)).trans ((composes_keeps (composeTargets_composes ..)).mono (by decide))

theorem evaluateMinute_keeps (n : Nat) :
    Keeps [.events, .prog, .routes, .stranded, .resolver, .dir, .segs] s (s.evaluateMinute n) := by
  unfold State.evaluateMinute
  exact ((withEvents_keeps ..).mono (by decide)).trans (((chooseAfresh_keeps ..).mono (by decide)).trans
    ((expireNotices_keeps ..).mono (by decide)))

theorem storeEvent_keeps (id : Nat) (e : Event) : Keeps [.events, .prog, .routes, .stranded, .dir, .segs] s (s.storeEvent id e) :=
  ((withEvents_keeps ..).mono (by decide)).trans ((chooseAfresh_keeps ..).mono (by decide))

theorem dropEvent_keeps (id : Nat) : Keeps [.events, .prog, .routes, .stranded, .dir, .segs] s (s.dropEvent id) :=
  ((withEvents_keeps ..).mono (by decide)).trans ((chooseAfresh_keeps ..).mono (by decide))

theorem storeText_keeps (id lang : Nat) (t : Option Text) : Keeps [.texts, .dir, .segs] s (s.storeText id lang t) :=
  Keeps.ite (Keeps.refl ..) (((withTexts_keeps ..).mono (by decide)).trans
    ((composes_keeps (composeText_composes ..)).mono (by decide)))

theorem offerGuest_keeps (n : Nat) (k : GuestKind) (o : Bool) : Keeps [.bus, .ports] s (s.offerGuest n k o) :=
  (offerGuest_same ..).toKeeps

theorem vacate_keeps (k c : Nat) : Keeps [.cabins, .stranded, .ports, .dir, .segs] s (s.vacate k c) :=
  Keeps.ite (changeCabin_keeps ..) (Keeps.refl ..)

theorem handPress_keeps (k c : Nat) (x : PressCode) (o : Bool) :
    Keeps [.bus, .cabins, .stranded, .ports, .dir, .segs] s (s.handPress k c x o) := by
  cases x with
  | vacated => exact (vacate_keeps ..).mono (by decide)
  | dnd =>
    exact Keeps.ite (((changeCabin_keeps ..).mono (by decide)).trans ((offerGuest_keeps ..).mono (by decide))) (Keeps.refl ..)
  | service =>
    exact Keeps.ite (((changeCabin_keeps ..).mono (by decide)).trans ((offerGuest_keeps ..).mono (by decide))) (Keeps.refl ..)

theorem dispatchKind_keeps (k : Nat) (e : InboundEntry) :
    Keeps [.bus, .cabins, .stranded, .ports, .dir, .segs, .records] s (s.dispatchKind k e) := by
  unfold State.dispatchKind
  dsimp only
  split
  · exact Keeps.ite ((clearBusy_same ..).toKeeps.mono (by decide))
      (Keeps.ite ((setDisplay_same ..).toKeeps.mono (by decide)) (Keeps.refl ..))
  · exact Keeps.ite ((enterHeld_same ..).toKeeps.mono (by decide)) (Keeps.refl ..)
  · split
    · exact (handPress_keeps ..).mono (by decide)
    · exact Keeps.refl ..

end

end Sys2Proof.Machine
end


section
/-! PROOFS. What the block's handling of each request leaves alone. -/

namespace Sys2Proof.Machine

/-- The state in which a block leaves the part. -/
def Handled.state : Handled → State
  | .answer s _ => s
  | .hold s => s

/-- The block's handling changes the facets listed alone. -/
def Handled.keeps (fs : List Facet) (s : State) (x : Handled) : Prop := Keeps fs s x.state

theorem Handled.keeps.mono {fs gs : List Facet} {s : State} {x : Handled} (h : x.keeps fs s) (hs : ∀ f ∈ fs, f ∈ gs) :
    x.keeps gs s := Keeps.mono h hs

/-- A body that does not decode changes nothing. -/
theorem parsed_keeps {α : Type} {fs : List Facet} {p : Except Reason α} {s : State} {f : α → Handled}
    (hf : ∀ a, (f a).keeps fs s) : (parsed p s f).keeps fs s := by
  cases p with
  | ok a => exact hf a
  | error r => exact Keeps.refl ..

theorem settle_keeps {fs : List Facet} {l : LinkId} {tag kind : Byte} {s : State} {x : Handled} (hp : Facet.ports ∈ fs)
    (hx : x.keeps fs s) : Keeps fs s (settle l tag kind x) := by
  have hport : ∀ f, Keeps fs x.state (x.state.modPort l f) := fun f => (modPort_keeps ..).mono (by simpa using hp)
  cases x with
  | answer t r => exact Keeps.trans hx (hport fun p => { p with state := .answering ⟨tag, kind, r⟩ })
  | hold t => exact Keeps.trans hx (hport fun p => { p with state := .handling tag kind, silence := .held })

/-- Taking a request changes the port, on the safety link the confirm sequence, and what the block's handling changes. -/
theorem takeRequest_keeps {fs : List Facet} {area : Area} {own : Bool} {kind tag : Byte} {l : LinkId} {h : State → Handled}
    {s : State} (hp : Facet.ports ∈ fs) (hc : Facet.confirm ∈ fs) (hh : ∀ t, (h t).keeps fs t) :
    Keeps fs s (takeRequest area own kind l tag h s) := by
  have harrived : Keeps fs s (s.begin.modPort l Port.frameArrived) :=
    (frameTaken_same l s).toKeeps.mono (by simpa [Part.reach, Part.facets] using hp)
  unfold takeRequest
  dsimp only
  split
  · refine Keeps.trans (t := if l = .safety && !own then _ else _)
      (Keeps.ite (harrived.trans ((abandonConfirm_keeps _).mono (by simpa using hc))) harrived) ?_
    exact Keeps.ite ((modPort_keeps ..).mono (by simpa using hp)) (settle_keeps hp (hh _))
  · exact harrived

/-! ## Chapter 1 -/

section
variable (s : State) (l : LinkId) (tag : Byte)

theorem startWrite_keeps (w : Write) : Keeps [.store] s (s.startWrite w) := (startWrite_same ..).toKeeps

theorem beginOp_keeps (e : OpEntry) : Keeps [.ports] s (s.beginOp l e) := modPort_keeps ..

/-- A long operation starts: its write, and its entry on the in-flight list. -/
theorem startOp_keeps (w : Write) (e : OpEntry) : Keeps [.store, .ports] s ((s.startWrite w).beginOp l e) :=
  ((startWrite_keeps ..).mono (by decide)).trans ((beginOp_keeps ..).mono (by decide))

theorem planOpen_keeps (n : Nat) : (planOpen n s).keeps [.edit] s := by
  unfold planOpen
  split_ifs
  · exact Keeps.refl ..
  · exact Keeps.refl ..
  · exact Keeps.refl ..
  · split
    · exact withEdit_keeps ..
    · exact withEdit_keeps ..
    · exact Keeps.refl ..

theorem planWrite_keeps (b : Except Reason PlanWriteBody) : (planWrite b s).keeps [.edit] s := by
  unfold planWrite
  split
  · exact Keeps.refl ..
  · split
    · exact Keeps.refl ..
    · exact Keeps.refl ..
    · exact parsed_keeps fun _ => withEdit_keeps s s.plan.edit _

theorem planAbandon_keeps : (planAbandon s).keeps [.edit] s := by
  unfold planAbandon
  split
  · exact Keeps.refl ..
  · exact Keeps.refl ..
  · exact withEdit_keeps ..

theorem planCommit_keeps : (planCommit tag s).keeps [.edit, .store, .ports] s := by
  unfold planCommit
  split
  · exact Keeps.refl ..
  · exact Keeps.refl ..
  · split_ifs
    · exact Keeps.refl ..
    · split
      · exact Keeps.refl ..
      · exact ((withEdit_keeps s .committing s.plan.shadow).mono (by decide)).trans ((startOp_keeps ..).mono (by decide))

theorem bindDisplay_keeps (p : Nat) (g : Seg) (a : Nat) : (bindDisplay tag p g a s).keeps [.store, .ports] s := by
  unfold bindDisplay
  split_ifs
  · exact Keeps.refl ..
  · exact Keeps.refl ..
  · split
    · exact Keeps.refl ..
    · dsimp only
      split_ifs
      · exact Keeps.refl ..
      · split
        · exact Keeps.refl ..
        · split_ifs
          · exact Keeps.refl ..
          · exact startOp_keeps ..

theorem planRead_keeps (b : PlanReadBody) : (planRead l b s).keeps [] s := by
  unfold planRead
  split_ifs
  · exact Keeps.refl ..
  · exact Keeps.refl ..
  all_goals split <;> exact Keeps.refl ..

/-! ## Chapter 2 -/

theorem setCondition_keeps (ps : List (Nat × Nat)) :
    (setCondition ps s).keeps [.conditions, .routes, .stranded, .dir, .segs] s := by
  unfold setCondition
  split_ifs
  · split
    · exact Keeps.refl ..
    · exact ((withConditions_keeps s _ s.cond.slots s.cond.remainders).mono (by decide)).trans
        ((triggerIf_keeps ..).mono (by decide))
  · exact Keeps.refl ..

theorem softDetourSet_keeps (f : DetourFields) :
    (softDetourSet f s).keeps [.conditions, .routes, .stranded, .dir, .segs] s := by
  unfold softDetourSet
  split
  · exact Keeps.refl ..
  · split_ifs
    · exact Keeps.refl ..
    · exact Keeps.refl ..
    · exact ((withConditions_keeps s s.cond.edges _ s.cond.remainders).mono (by decide)).trans
        ((trigger_keeps _).mono (by decide))

theorem softDetourClear_keeps (z : Nat) :
    (softDetourClear z s).keeps [.conditions, .routes, .stranded, .dir, .segs] s := by
  unfold softDetourClear
  split_ifs
  · exact Keeps.refl ..
  · exact Keeps.refl ..
  · split
    · exact Keeps.refl ..
    · split_ifs
      · exact Keeps.refl ..
      · exact ((withConditions_keeps s s.cond.edges _ s.cond.remainders).mono (by decide)).trans
          ((trigger_keeps _).mono (by decide))

theorem withConfirm_keeps (n : Nat) (f : Option DetourFields) :
    Keeps [.confirm] s { s with cond := { s.cond with progress := n, fields := f } } := by
  refine ⟨fun x hx => ?_⟩
  cases x <;> simp_all [Facet.same, Recomposed.of_eq]

theorem confirmStep_keeps (k : Nat) (f : DetourFields) : (confirmStep k f s).keeps [.confirm] s := by
  unfold confirmStep
  split
  · exact abandonConfirm_keeps s
  · split
    · split
      · exact abandonConfirm_keeps s
      · split
        · exact abandonConfirm_keeps s
        · exact withConfirm_keeps ..
    · split
      · exact withConfirm_keeps s k s.cond.fields
      · exact abandonConfirm_keeps s

theorem withWriting_keeps (w : Option DetourFields) : Keeps [.writing] s { s with cond := { s.cond with writing := w } } := by
  refine ⟨fun x hx => ?_⟩
  cases x <;> simp_all [Facet.same, Recomposed.of_eq]

theorem fixedDetour_keeps (f : DetourFields) (c : ConditionTable) :
    (fixedDetour tag f c s).keeps [.writing, .store, .ports] s := by
  unfold fixedDetour
  split
  · exact Keeps.refl ..
  · split
    · exact Keeps.refl ..
    · split
      · exact Keeps.refl ..
      · split
        · exact Keeps.refl ..
        · exact ((withWriting_keeps ..).mono (by decide)).trans ((startOp_keeps ..).mono (by decide))

theorem remainderSet_keeps (xs : List RemainderItem) :
    (remainderSet l xs s).keeps [.conditions, .routes, .stranded, .dir, .segs] s := by
  unfold remainderSet
  split_ifs
  · split
    · exact Keeps.refl ..
    · exact ((withConditions_keeps s s.cond.edges s.cond.slots _).mono (by decide)).trans
        ((triggerIf_keeps ..).mono (by decide))
  · exact Keeps.refl ..

theorem remainderClear_keeps (n : Nat) : (remainderClear l n s).keeps [.conditions, .routes, .stranded, .dir, .segs] s := by
  unfold remainderClear
  split
  · exact Keeps.refl ..
  · split_ifs
    · exact Keeps.refl ..
    · exact ((withConditions_keeps s s.cond.edges s.cond.slots _).mono (by decide)).trans
        ((triggerIf_keeps ..).mono (by decide))

theorem conditionRead_keeps (a b : Nat) : (conditionRead a b s).keeps [] s := by
  unfold conditionRead
  split_ifs <;> exact Keeps.refl ..

theorem remainderRead_keeps (a : Nat) : (remainderRead a s).keeps [] s := by
  unfold remainderRead
  split_ifs <;> exact Keeps.refl ..

/-! ## Chapter 3 -/

theorem routeRead_keeps (b : RouteReadBody) : (routeRead b s).keeps [] s := by
  unfold routeRead
  split
  · exact Keeps.refl ..
  · split <;> split <;> exact Keeps.refl ..

/-! ## Chapter 4 -/

theorem setClock_keeps (m n : Nat) :
    (setClock m n s).keeps [.events, .prog, .routes, .stranded, .resolver, .dir, .segs] s :=
  ((withClock_keeps ..).mono (by decide)).trans (evaluateMinute_keeps ..)

theorem setOffset_keeps (v : Int) : (setOffset v s).keeps [.prog, .dir, .segs] s := by
  unfold setOffset
  dsimp only
  split_ifs
  · exact Keeps.refl ..
  · exact ((withSettings_keeps s _ s.prog.lookahead s.prog.primary s.prog.secondary).mono (by decide)).trans
      ((composes_keeps (composePlacements_composes ..)).mono (by decide))

theorem setLanguages_keeps (p q : Nat) : (setLanguages p q s).keeps [.prog, .dir, .segs] s := by
  unfold setLanguages
  split_ifs
  · exact Keeps.refl ..
  · exact Keeps.refl ..
  · exact ((withSettings_keeps s s.prog.offset s.prog.lookahead p q).mono (by decide)).trans
      ((composes_keeps (composeWhere_composes ..)).mono (by decide))

theorem setLookahead_keeps (n : Nat) : (setLookahead n s).keeps [.prog, .routes, .stranded, .dir, .segs] s := by
  unfold setLookahead
  dsimp only
  split_ifs
  · exact Keeps.refl ..
  · exact ((withSettings_keeps s s.prog.offset _ s.prog.primary s.prog.secondary).mono (by decide)).trans
      (chooseAfresh_keeps ..)

theorem eventAdd_keeps (b : EventAddBody) : (eventAdd b s).keeps [.events, .prog, .routes, .stranded, .dir, .segs] s := by
  unfold eventAdd
  split_ifs
  · exact Keeps.refl ..
  · exact Keeps.refl ..
  · exact Keeps.refl ..
  · exact storeEvent_keeps ..

theorem eventModify_keeps (b : EventModifyBody) :
    (eventModify b s).keeps [.events, .prog, .routes, .stranded, .dir, .segs] s := by
  unfold eventModify
  split
  · exact Keeps.refl ..
  · dsimp only
    split
    · exact Keeps.refl ..
    · exact Keeps.refl ..
    · split_ifs
      · exact Keeps.refl ..
      · exact Keeps.refl ..
      · exact storeEvent_keeps ..
    · split_ifs
      · exact Keeps.refl ..
      · exact storeEvent_keeps ..

theorem eventCancel_keeps (id : Nat) : (eventCancel id s).keeps [.events, .prog, .routes, .stranded, .dir, .segs] s := by
  unfold eventCancel
  split
  · exact Keeps.refl ..
  · split
    · exact Keeps.refl ..
    · exact Keeps.refl ..
    · exact storeEvent_keeps ..

theorem eventDelete_keeps (id : Nat) : (eventDelete id s).keeps [.events, .prog, .routes, .stranded, .dir, .segs] s := by
  unfold eventDelete
  split_ifs
  · exact dropEvent_keeps ..
  · exact Keeps.refl ..

theorem textPut_keeps (id lang : Nat) (t : Text) : (textPut id lang t s).keeps [.texts, .dir, .segs] s := by
  unfold textPut
  split_ifs
  · exact Keeps.refl ..
  · exact storeText_keeps ..

theorem textDelete_keeps (id lang : Nat) : (textDelete id lang s).keeps [.texts, .dir, .segs] s := by
  unfold textDelete
  split_ifs
  · exact storeText_keeps ..
  · exact Keeps.refl ..

theorem eventRead_keeps (id : Nat) : (eventRead id s).keeps [] s := by
  unfold eventRead
  split <;> exact Keeps.refl ..

theorem textRead_keeps (id lang : Nat) : (textRead id lang s).keeps [] s := by
  unfold textRead
  split <;> exact Keeps.refl ..

/-! ## Chapter 5 -/

/-- The facets of the muster controller and its neighbours (R108). -/
abbrev musterFacets : List Facet := [.ports, .profile, .routes, .muster, .cabins, .zones, .stranded, .watch, .dir, .segs]

theorem withMuster_keeps (m : MusterController) :
    Keeps [.muster, .cabins, .zones, .stranded, .watch] s { s with muster := m } := (withMuster_same ..).toKeeps

theorem requestLatch_keeps (w : LatchWrite) : Keeps [.store] s (s.requestLatch w) := (requestLatch_same ..).toKeeps

theorem enterAlert_keeps (d : Bool) : Keeps (.edit :: .store :: musterFacets) s (s.enterAlert d) :=
  ((withMuster_keeps ..).mono (by decide)).trans ((handMuster_keeps ..).mono (by decide))

theorem enterMuster_keeps (d : Bool) : Keeps (.edit :: .store :: musterFacets) s (s.enterMuster d) :=
  (((withMuster_keeps ..).mono (by decide)).trans (((retally_keeps _).mono (by decide)).trans
    ((requestLatch_keeps ..).mono (by decide)))).trans ((handMuster_keeps ..).mono (by decide))

theorem resume_keeps (d : Bool) : Keeps (.edit :: .store :: musterFacets) s (s.resume d) :=
  ((withMuster_keeps ..).mono (by decide)).trans ((Keeps.ite ((requestLatch_keeps ..).mono (by decide))
    (Keeps.refl ..)).trans ((handMuster_keeps ..).mono (by decide)))

theorem clearDrill_keeps : Keeps (.edit :: .store :: musterFacets) s s.clearDrill :=
  ((withMuster_keeps ..).mono (by decide)).trans ((Keeps.ite ((requestLatch_keeps ..).mono (by decide))
    (Keeps.refl ..)).trans ((handMuster_keeps ..).mono (by decide)))

theorem cancelAlert_state_keeps : Keeps musterFacets s s.cancelAlert :=
  ((withMuster_keeps ..).mono (by decide)).trans ((handMuster_calm_keeps _ _ (isEntry_quiet _)).mono (by decide))

theorem standDown_state_keeps : Keeps musterFacets s s.standDown :=
  ((withMuster_keeps ..).mono (by decide)).trans ((handMuster_calm_keeps _ _ (isEntry_standdown _ _)).mono (by decide))

theorem returnToQuiet_keeps : Keeps musterFacets s s.returnToQuiet := by
  unfold State.returnToQuiet
  refine ((withMuster_keeps ..).mono (by decide)).trans (((retally_keeps _).mono (by decide)).trans
    ((handMuster_calm_keeps _ _ ?_).mono (by decide)))
  rw [retally_muster_state]
  exact isEntry_quiet _

theorem alarmEvent_keeps : Keeps (.edit :: .store :: musterFacets) s s.alarmEvent := by
  have hraise : Keeps (.edit :: .store :: musterFacets) s (s.raise .safety .musterByLine) := (raise_keeps ..).mono (by decide)
  unfold State.alarmEvent
  dsimp only
  split
  · exact hraise.trans (enterMuster_keeps ..)
  · exact hraise.trans (enterMuster_keeps ..)
  · exact Keeps.ite (hraise.trans (clearDrill_keeps _)) hraise
  · exact hraise.trans (resume_keeps ..)

theorem alert_keeps (d : Bool) : (alert d s).keeps (.edit :: .store :: musterFacets) s := by
  unfold alert
  split
  · exact enterAlert_keeps ..
  · split_ifs
    · exact Keeps.refl ..
    · exact Keeps.refl ..
    · exact clearDrill_keeps _
  · exact Keeps.refl ..

theorem cancelAlert_keeps : (cancelAlert s).keeps musterFacets s := by
  unfold cancelAlert
  split
  · exact cancelAlert_state_keeps s
  · exact Keeps.refl ..

theorem musterRequest_keeps (d : Bool) : (musterRequest d s).keeps (.edit :: .store :: musterFacets) s := by
  unfold musterRequest
  split
  · exact enterMuster_keeps ..
  · split_ifs
    · exact Keeps.refl ..
    · exact enterMuster_keeps ..
  · split_ifs
    · exact Keeps.refl ..
    · exact Keeps.refl ..
    · exact clearDrill_keeps _
  · split_ifs
    · exact Keeps.refl ..
    · exact resume_keeps ..

theorem standdown_keeps : (standdown s).keeps musterFacets s := by
  unfold standdown
  split
  · exact standDown_state_keeps s
  · exact Keeps.refl ..

theorem assignCabin_keeps (n : Nat) (st : Option Nat) :
    (assignCabin n st s).keeps [.cabins, .stranded, .ports, .dir, .segs] s := by
  unfold assignCabin
  split
  · exact Keeps.refl ..
  · split
    · exact Keeps.refl ..
    · split
      · exact changeCabin_keeps ..
      · exact Keeps.refl ..

theorem assignZone_keeps (z : Nat) (st : Option Nat) :
    (assignZone z st s).keeps [.zones, .stranded, .ports, .dir, .segs] s := by
  unfold assignZone
  split_ifs
  · exact setZoneStation_keeps ..
  · exact Keeps.refl ..

theorem markCabin_keeps (n : Nat) (v : Vacated) : (markCabin n v s).keeps [.cabins, .stranded, .ports, .dir, .segs] s := by
  unfold markCabin
  split_ifs
  · exact Keeps.refl ..
  · split
    · exact Keeps.refl ..
    · exact Keeps.refl ..
    · split
      · exact Keeps.refl ..
      · exact changeCabin_keeps ..

theorem cabinGuests_keeps (b : CabinGuestsBody) : (cabinGuests b s).keeps [.cabins, .stranded, .ports, .dir, .segs] s := by
  unfold cabinGuests
  split
  · exact Keeps.refl ..
  · exact changeCabin_keeps ..

theorem setMusterTimers_keeps (o h : Nat) : (setMusterTimers l tag o h s).keeps [.store, .ports] s := by
  unfold setMusterTimers
  split_ifs
  · exact Keeps.refl ..
  · exact startOp_keeps ..

theorem cabinRead_keeps (n : Nat) : (cabinRead n s).keeps [] s := by
  unfold cabinRead
  split_ifs
  · exact Keeps.refl ..
  · split
    · exact Keeps.refl ..
    · split <;> exact Keeps.refl ..

theorem readOutstanding_keeps (a b : Nat) : (readOutstanding a b s).keeps [] s := by
  unfold readOutstanding
  split_ifs <;> exact Keeps.refl ..

theorem readStranded_keeps (a : Nat) : (readStranded a s).keeps [] s := by
  unfold readStranded
  split_ifs <;> exact Keeps.refl ..

/-! ## Chapter 6 -/

theorem withResolver_keeps (x : Resolver) : Keeps [.resolver] s { s with resolver := x } := (withResolver_same ..).toKeeps

theorem setInstruction_keeps (st : Nat) (c : Option InstructionCode) :
    (setInstruction st c s).keeps [.resolver, .dir, .segs] s := by
  unfold setInstruction
  split_ifs
  · exact Keeps.refl ..
  · exact ((withResolver_keeps ..).mono (by decide)).trans
      ((composes_keeps (composePlacements_composes ..)).mono (by decide))

theorem setParkedText_keeps (p : Nat) (t : Option Nat) : (setParkedText p t s).keeps [.resolver, .dir, .segs] s := by
  unfold setParkedText
  split_ifs
  · exact Keeps.refl ..
  · exact Keeps.refl ..
  · exact ((withResolver_keeps ..).mono (by decide)).trans
      ((composes_keeps (composePlacements_composes ..)).mono (by decide))

theorem postNotice_keeps (b : PostNoticeBody) : (postNotice l b s).keeps [.resolver, .dir, .segs] s := by
  unfold postNotice
  split_ifs
  · exact Keeps.refl ..
  · split
    · exact Keeps.refl ..
    · exact ((withResolver_keeps ..).mono (by decide)).trans
        ((composes_keeps (composeTargets_composes ..)).mono (by decide))

theorem withdrawNotice_keeps (i : Nat) : (withdrawNotice l i s).keeps [.resolver, .dir, .segs] s := by
  unfold withdrawNotice
  split_ifs
  · exact Keeps.refl ..
  · split
    · exact Keeps.refl ..
    · split_ifs
      · exact Keeps.refl ..
      · exact ((withResolver_keeps ..).mono (by decide)).trans
          ((composes_keeps (composeTargets_composes ..)).mono (by decide))

/-! ## Chapters 7 and 8 -/

theorem sweepRequest_keeps (g : Seg) : (sweepRequest tag g s).keeps [.segs, .records, .ports] s := by
  unfold sweepRequest
  split_ifs
  · exact Keeps.refl ..
  · exact (((modSeg_same ..).toKeeps.mono (by decide)).trans ((requestSweep_same ..).toKeeps.mono (by decide))).trans
      ((beginOp_keeps ..).mono (by decide))

theorem revive_keeps (g : Seg) (a : Nat) : (revive g a s).keeps [.dir, .segs, .records] s := by
  unfold revive
  split
  · exact Keeps.refl ..
  · exact (reviveRecord_same ..).toKeeps.mono (by decide)
  · exact Keeps.refl ..

theorem readGuests_keeps (n : Nat) : (readGuests n s).keeps [.bus] s := by
  unfold readGuests
  split_ifs
  · exact Keeps.refl ..
  · exact (withBus_same ..).toKeeps

/-! ## Chapter 9 -/

theorem clearSource_keeps (x : Source) : Keeps [.ports] s (s.clearSource l x) := (clearSource_same ..).toKeeps

theorem readAttention_keeps (n : Nat) : (readAttention l n s).keeps [.ports] s := by
  unfold readAttention readTop readCode
  split
  · split
    · exact Keeps.refl ..
    · exact clearSource_keeps s l _
  · split
    · exact Keeps.refl ..
    · exact clearSource_keeps s l _

theorem setAttentionMask_keeps (xs : List (Nat × Nat)) : (setAttentionMask l xs s).keeps [.ports] s := by
  unfold setAttentionMask
  split
  · exact Keeps.refl ..
  · exact modPort_keeps s l fun p => { p with mask := sourcesWhere l (enableAfter p.mask _) }

theorem setLinkTimeout_keeps (n : Nat) : (setLinkTimeout l tag n s).keeps [.store, .ports] s := by
  unfold setLinkTimeout
  split_ifs
  · exact Keeps.refl ..
  · exact startOp_keeps ..

end

end Sys2Proof.Machine
end


section
/-! PROOFS. What each command leaves alone, said by facets, and from it by parts. -/

namespace Sys2Proof.Machine

/-- The facets a frame may change. -/
abbrev frameFacets : List Facet :=
  .edit :: .store :: .conditions :: .writing :: .confirm :: .events :: .texts :: .prog :: .resolver :: .records :: .bus ::
    musterFacets

/-- The facets a command may change. A request restarts its port's silence timer, is answered there, and drops a confirm sequence;
a frame may be any request. -/
def facets : Instr → List Facet
  | .planOpen _ _ _ | .planWrite _ _ _ | .planAbandon _ _ _ => [.ports, .confirm, .edit]
  | .planCommit _ _ _ => [.ports, .confirm, .edit, .store]
  | .bind _ _ _ | .setMusterTimers _ _ _ | .setLinkTimeout _ _ _ => [.ports, .confirm, .store]
  | .fixedDetour _ _ _ => [.ports, .confirm, .writing, .store]
  | .setCondition _ _ _ | .softDetourSet _ _ _ | .softDetourClear _ _ _ | .remainderSet _ _ _ | .remainderClear _ _ _ =>
    [.ports, .confirm, .conditions, .routes, .stranded, .dir, .segs]
  | .alert _ _ _ | .muster _ _ _ => .confirm :: .edit :: .store :: musterFacets
  | .cancelAlert _ _ _ | .standdown _ _ _ => .confirm :: musterFacets
  | .assignCabinStation _ _ _ | .markCabin _ _ _ | .cabinGuests _ _ _ => [.ports, .confirm, .cabins, .stranded, .dir, .segs]
  | .assignZoneStation _ _ _ => [.ports, .confirm, .zones, .stranded, .dir, .segs]
  | .setInstruction _ _ _ | .setParkedText _ _ _ | .postNotice _ _ _ | .withdrawNotice _ _ _ =>
    [.ports, .confirm, .resolver, .dir, .segs]
  | .sweep _ _ _ => [.ports, .confirm, .segs, .records]
  | .segmentReset _ _ _ | .revive _ _ _ => [.ports, .confirm, .dir, .segs, .records]
  | .setClock _ _ _ => [.ports, .confirm, .events, .prog, .routes, .stranded, .resolver, .dir, .segs]
  | .setOffset _ _ _ | .setLanguages _ _ _ => [.ports, .confirm, .prog, .dir, .segs]
  | .textPut _ _ _ | .textDelete _ _ _ => [.ports, .confirm, .texts, .dir, .segs]
  | .setLookahead _ _ _ => [.ports, .confirm, .prog, .routes, .stranded, .dir, .segs]
  | .eventAdd _ _ _ | .eventModify _ _ _ | .eventCancel _ _ _ | .eventDelete _ _ _ =>
    [.ports, .confirm, .events, .prog, .routes, .stranded, .dir, .segs]
  | .readGuestRequests _ _ _ => [.ports, .confirm, .bus]
  | .confirm _ _ _ | .planRead _ _ _ | .readAttention _ _ _ | .setAttentionMask _ _ _ | .lastOperation _ _ _
  | .linkStatus _ _ _ | .planStatus _ _ _ | .conditionRead _ _ _ | .detourRead _ _ _ | .remainderRead _ _ _
  | .routeStatus _ _ _ | .routeRead _ _ _ | .programmeStatus _ _ _ | .eventRead _ _ _ | .eventList _ _ _
  | .textRead _ _ _ | .cabinRead _ _ _ | .readOutstanding _ _ _ | .readStranded _ _ _ | .musterStatus _ _ _
  | .cardRead _ _ _ | .noticeRead _ _ _ | .displayRead _ _ _ | .segmentStatus _ _ _ | .queueRead _ _ _ => [.ports, .confirm]
  | .unknownKind _ _ _ _ | .badCrcFrame _ _ _ _ _ | .frameWhileBusy _ _ _ _ | .startByte _ | .lengthOutOfRange _ _ => frameFacets
  | .receiveGap _ | .missingStopBit _ | .answerSent _ => [.ports]
  | .silenceTimerExpiry _ => [.ports, .confirm]
  | .reset =>
    .active :: .edit :: .store :: .conditions :: .writing :: .confirm :: .events :: .texts :: .prog :: .resolver :: .records ::
      .bus :: .freeCount :: musterFacets
  | .generalAlarmAsserted | .generalAlarmDeasserted => [.alarmLine, .watch]
  | .generalAlarmEvent => .edit :: .store :: musterFacets
  | .overdueTimerExpiry => [.muster, .ports]
  | .standDownHoldExpiry => [.muster, .store]
  | .commitCompletion =>
    [.store, .active, .edit, .conditions, .confirm, .routes, .prog, .cabins, .zones, .stranded, .resolver, .dir, .segs, .records,
      .ports]
  | .bindCompletion => [.store, .active, .dir, .segs, .records, .ports]
  | .fixedDetourCompletion => [.store, .conditions, .writing, .routes, .stranded, .dir, .segs, .ports]
  | .latchSetCompletion => [.store, .muster]
  | .latchClearCompletion => .store :: musterFacets
  | .settingsWriteCompletion => [.store, .muster, .ports]
  | .computationCompletion => [.routes, .stranded, .dir, .segs, .ports]
  | .minuteEvent => [.events, .prog, .routes, .stranded, .resolver, .dir, .segs]
  | .clockRunStateHeld => [.prog]
  | .sweepStart _ | .automaticSweepTimerExpiry _ | .cardExchange _ | .pollExchange _ => [.segs, .records]
  | .presence _ _ | .assignReplyTimeout _ => [.segs, .records, .ports]
  | .bit _ _ | .capabilityReply _ _ _ _ _ _ _ | .panelReplyTimeout _ | .refreshLimitExpiry _ _ => [.dir, .segs, .records, .ports]
  | .ack _ _ | .nak _ _ | .pollNone _ _ | .pollNak _ _ => [.dir, .segs, .records]
  | .report _ _ _ _ _ => [.dir, .segs, .records, .bus]
  | .creditRefill => [.dir, .records, .bus]
  | .dispatch => [.bus, .cabins, .stranded, .ports, .dir, .segs, .records]

theorem facets_touches (c : Instr) : ∀ p ∈ (facets c).filterMap Facet.part, p ∈ touches c := by
  cases c <;> exact of_decide_eq_true rfl

/-! ## Events and completions -/

theorem begin_keeps (s : State) : Keeps [] s s.begin := (begin_same s).toKeeps

section
variable (s : State) (g : Seg) (l : LinkId)

theorem commitConditions_keeps : Keeps [.conditions, .confirm] s (commitConditions s) := by
  refine ⟨fun f hf => ?_⟩
  cases f <;> simp_all [Facet.same, Recomposed.of_eq, commitConditions]

theorem commitCarry_keeps (p : Plan) : Keeps [.cabins, .zones, .resolver] s (commitCarry p s) := by
  refine ⟨fun f hf => ?_⟩
  cases f <;> simp_all [Facet.same, Recomposed.of_eq, commitCarry]

theorem commitRoutes_keeps : Keeps [.routes] s (commitRoutes s) := by
  refine Keeps.trans ⟨fun f hf => ?_⟩ (startComputation_keeps _)
  cases f <;> simp_all [Facet.same, Recomposed.of_eq]

theorem commitCompletion_keeps :
    Keeps [.store, .active, .edit, .conditions, .confirm, .routes, .prog, .cabins, .zones, .stranded, .resolver, .dir, .segs,
      .records, .ports] s (commitCompletion s) := by
  unfold commitCompletion
  split
  case h_2 => exact Keeps.refl ..
  dsimp only
  refine Keeps.trans ?_ ((strandedAtStart_keeps _).mono (by decide))
  refine Keeps.trans ?_ ((composes_keeps (composeAll_composes _)).mono (by decide))
  refine Keeps.trans ?_ ((raise_keeps ..).mono (by decide))
  refine Keeps.trans ?_ ((raise_keeps ..).mono (by decide))
  refine Keeps.trans ?_ ((completeOp_same ..).toKeeps.mono (by decide))
  refine Keeps.trans ?_ ((commitRoutes_keeps _).mono (by decide))
  refine Keeps.trans ?_ ((withChoice_keeps _ _ _ (State.prog _).programme).mono (by decide))
  refine Keeps.trans ?_ ((retally_keeps _).mono (by decide))
  refine Keeps.trans ?_ ((finishWrite_same _).toKeeps.mono (by decide))
  refine Keeps.trans ?_ ((commitMatch_same _).toKeeps.mono (by decide))
  refine Keeps.trans ?_ ((commitCarry_keeps ..).mono (by decide))
  refine Keeps.trans ?_ ((commitConditions_keeps _).mono (by decide))
  exact (commitStore_same ..).toKeeps.mono (by decide)

theorem bindPlans_keeps (p : Nat) (i : Identity) (l : Option Nat) : Keeps [.store, .active] s (bindPlans p i l s) := by
  refine ⟨fun f hf => ?_⟩
  cases f <;> simp_all [Facet.same, Recomposed.of_eq, bindPlans]

theorem bindCompletion_keeps : Keeps [.store, .active, .dir, .segs, .records, .ports] s (bindCompletion s) := by
  unfold bindCompletion
  split
  case h_2 => exact Keeps.refl ..
  dsimp only
  refine Keeps.trans ?_ ((composes_keeps (composeWhere_composes ..)).mono (by decide))
  refine Keeps.trans ?_ ((completeOp_same ..).toKeeps.mono (by decide))
  refine Keeps.trans ?_ ((raiseIf_keeps ..).mono (by decide))
  refine Keeps.trans ?_ ((withDir_same _ _).toKeeps.mono (by decide))
  refine Keeps.trans ?_ ((finishWrite_same _).toKeeps.mono (by decide))
  exact (bindPlans_keeps ..).mono (by decide)

theorem fixedDetourCompletion_keeps :
    Keeps [.store, .conditions, .writing, .routes, .stranded, .dir, .segs, .ports] s (fixedDetourCompletion s) := by
  unfold fixedDetourCompletion
  split
  case h_2 => exact Keeps.refl ..
  dsimp only
  refine Keeps.trans ?_ ((completeOp_same ..).toKeeps.mono (by decide))
  refine Keeps.trans ?_ ((trigger_keeps _).mono (by decide))
  refine Keeps.trans ?_ ((finishWrite_same _).toKeeps.mono (by decide))
  refine ⟨fun f hf => ?_⟩
  cases f <;> simp_all [Facet.same, Recomposed.of_eq]

theorem storeLatch_keeps (x : Latch) : Keeps [.store, .muster] s (s.storeLatch x) := by
  unfold State.storeLatch
  refine Keeps.trans ?_ ((finishWrite_same _).toKeeps.mono (by decide))
  refine ⟨fun f hf => ?_⟩
  cases f <;> simp_all [Facet.same, Recomposed.of_eq]

theorem latchSetCompletion_keeps : Keeps [.store, .muster] s (latchSetCompletion s) := by
  unfold latchSetCompletion
  split
  · exact storeLatch_keeps ..
  · exact Keeps.refl ..

theorem latchClearCompletion_keeps : Keeps (.store :: musterFacets) s (latchClearCompletion s) := by
  unfold latchClearCompletion
  split
  · dsimp only
    exact Keeps.ite (((storeLatch_keeps ..).mono (by decide)).trans ((returnToQuiet_keeps _).mono (by decide)))
      ((storeLatch_keeps ..).mono (by decide))
  · exact Keeps.refl ..

theorem settingsCompletion_keeps : Keeps [.store, .muster, .ports] s (settingsCompletion s) := by
  unfold settingsCompletion
  split
  case h_2 => exact Keeps.refl ..
  refine Keeps.trans (t := (s.applySettings _).finishWrite) (Keeps.trans ?_ ((finishWrite_same _).toKeeps.mono (by decide)))
    ((modPort_keeps ..).mono (by decide))
  refine ⟨fun f hf => ?_⟩
  unfold State.applySettings
  split <;> cases f <;> simp_all [Facet.same, Recomposed.of_eq] <;> exact Recomposed.of_eq rfl rfl

theorem computationCompletion_keeps : Keeps [.routes, .stranded, .dir, .segs, .ports] s (computationCompletion s) := by
  unfold computationCompletion
  split
  · exact Keeps.refl ..
  · refine Keeps.trans (Keeps.trans ⟨fun f hf => ?_⟩ ((handPublication_keeps _).mono (by decide)))
      ((resumeComputation_keeps _).mono (by decide))
    cases f <;> simp_all [Facet.same, Recomposed.of_eq, State.publish]

theorem minuteEvent_keeps : Keeps [.events, .prog, .routes, .stranded, .resolver, .dir, .segs] s (minuteEvent s) := by
  unfold minuteEvent
  split
  · exact Keeps.refl ..
  · exact Keeps.ite (((withClock_keeps ..).mono (by decide)).trans (evaluateMinute_keeps ..)) (Keeps.refl ..)

theorem clockHeld_keeps : Keeps [.prog] s (clockHeld s) := by
  unfold clockHeld
  split
  · exact Keeps.refl ..
  · exact Keeps.ite (withClock_keeps ..) (Keeps.refl ..)

theorem silenceExpiry_keeps : Keeps [.ports, .confirm] s (silenceExpiry l s) := by
  unfold silenceExpiry
  split
  · dsimp only
    have h : Keeps [.ports, .confirm] s ((s.modPort l fun p => { p with live := .lost, silence := .stopped }).raiseIf
        (decide ((s.port l).live = .live)) l.peer .peerLost) :=
      ((modPort_keeps ..).mono (by decide)).trans ((raiseIf_keeps ..).mono (by decide))
    exact Keeps.ite (h.trans ((abandonConfirm_keeps _).mono (by decide))) h
  · exact Keeps.refl ..

theorem withWatch_keeps (b : Bool) (w : AlarmWatch) :
    Keeps [.alarmLine, .watch] s { s with alarmLine := b, muster := { s.muster with watch := w } } := by
  refine ⟨fun f hf => ?_⟩
  cases f <;> simp_all [Facet.same, Recomposed.of_eq]

theorem alarmAsserted_keeps : Keeps [.alarmLine, .watch] s (alarmAsserted s) := by
  unfold alarmAsserted
  dsimp only
  split
  · exact withWatch_keeps ..
  · exact withWatch_keeps s true s.muster.watch

theorem generalAlarm_keeps : Keeps (.edit :: .store :: musterFacets) s (generalAlarm s) := by
  unfold generalAlarm
  split
  · exact ((withMuster_keeps ..).mono (by decide)).trans (alarmEvent_keeps _)
  · exact Keeps.refl ..

theorem overdueExpiry_keeps : Keeps [.muster, .ports] s (overdueExpiry s) := by
  unfold overdueExpiry
  split
  · refine Keeps.trans ⟨fun f hf => ?_⟩ ((raiseIf_keeps ..).mono (by decide))
    cases f <;> simp_all [Facet.same, Recomposed.of_eq]
  · exact Keeps.refl ..

theorem holdExpiry_keeps : Keeps [.muster, .store] s (holdExpiry s) := by
  unfold holdExpiry
  split
  · refine Keeps.trans ⟨fun f hf => ?_⟩ ((requestLatch_same ..).toKeeps.mono (by decide))
    cases f <;> simp_all [Facet.same, Recomposed.of_eq]
  · exact Keeps.refl ..

theorem sweepStart_same : SameBut [.segs] s (sweepStart g s) := by
  unfold sweepStart
  dsimp only
  split
  · exact ((startWaiting_same ..).trans ((send_same ..).mono (by decide))).trans (toPresence_same ..)
  · exact SameBut.refl ..

theorem automaticExpiry_same : SameBut [.segs] s (automaticExpiry g s) := by
  unfold automaticExpiry
  split
  · exact SameBut.refl ..
  · exact SameBut.ite (modSeg_same ..) ((modSeg_same ..).trans (requestSweep_same ..))

theorem presenceWindow_same (b : Bool) : SameBut [.segs, .ports] s (presenceWindow g b s) := by
  unfold presenceWindow
  split
  · exact SameBut.ite (((setPhase_same ..).mono (by decide)).trans ((send_same ..).mono (by decide))) (closeSweep_same ..)
  · exact SameBut.refl ..

theorem bitWindow_same (b : Bool) : SameBut [.dir, .segs, .ports] s (bitWindow g b s) := by
  unfold bitWindow
  split
  · dsimp only
    exact SameBut.ite (((setPhase_same ..).mono (by decide)).trans ((send_same ..).mono (by decide)))
      (((setPhase_same ..).mono (by decide)).trans ((send_same ..).mono (by decide)))
  · dsimp only
    exact SameBut.ite (((setPhase_same ..).mono (by decide)).trans ((send_same ..).mono (by decide))) (checkOutcome_same ..)
  · exact SameBut.refl ..

theorem assignTimeout_same : SameBut [.segs, .ports] s (assignTimeout g s) := by
  unfold assignTimeout
  split
  · exact assignFailed_same ..
  · exact SameBut.refl ..

theorem capabilityReply_same (a : Nat) (i : Identity) (c : Capability) :
    SameBut [.dir, .segs, .ports] s (capabilityReply g a i c s) := by
  unfold capabilityReply
  split
  · exact SameBut.ite (SameBut.refl ..) (SameBut.ite (takeReply_same ..) ((assignFailed_same ..).mono (by decide)))
  · exact SameBut.refl ..

theorem cardExchange_same : SameBut [.segs] s (cardExchange g s) := by
  unfold cardExchange State.sendCard
  split
  · dsimp only
    split
    · exact SameBut.refl ..
    · exact (modSeg_same ..).trans ((send_same ..).mono (by decide))
  · exact SameBut.refl ..

theorem pollExchange_same : SameBut [.segs] s (pollExchange g s) := by
  unfold pollExchange
  split
  · exact (modSeg_same ..).trans ((send_same ..).mono (by decide))
  · exact SameBut.refl ..

theorem ack_same (a : Nat) : SameBut [.dir, .segs] s (ack g a s) := by
  unfold ack
  split
  · exact SameBut.ite ((applyAck_same ..).trans (endCard_same ..)) (SameBut.refl ..)
  · exact SameBut.refl ..

theorem nak_same (a : Nat) : SameBut [.dir, .segs] s (nak g a s) := by
  unfold nak
  split
  · exact SameBut.ite (((setDisplay_same ..).mono (by decide)).trans (endCard_same ..)) (SameBut.refl ..)
  · exact SameBut.refl ..

theorem pollNone_same (a : Nat) : SameBut [.dir, .segs] s (pollNone g a s) := by
  unfold pollNone
  split
  · exact SameBut.ite (((answered_same ..).mono (by decide)).trans ((endPoll_same ..).mono (by decide))) (SameBut.refl ..)
  · exact SameBut.refl ..

theorem pollNak_same (a : Nat) : SameBut [.dir, .segs] s (pollNak g a s) := by
  unfold pollNak
  split
  · exact SameBut.ite (((pollRefused_same ..).mono (by decide)).trans ((endPoll_same ..).mono (by decide))) (SameBut.refl ..)
  · exact SameBut.refl ..

theorem report_same (a : Nat) (k c o : Byte) : SameBut [.dir, .segs, .bus] s (report g a k c o s) := by
  unfold report
  split
  · split
    · split
      · exact takeReport_same ..
      · exact SameBut.refl ..
    · exact SameBut.refl ..
  · exact SameBut.refl ..

theorem replyTimeout_same : SameBut [.dir, .segs, .ports] s (replyTimeout g s) := by
  unfold replyTimeout
  split
  · exact (missed_same ..).trans ((endCard_same ..).mono (by decide))
  · exact (missed_same ..).trans ((endPoll_same ..).mono (by decide))
  · exact SameBut.refl ..

theorem limitExpiry_same (a : Nat) : SameBut [.dir, .segs, .ports] s (limitExpiry g a s) := by
  unfold limitExpiry
  dsimp only
  split
  · exact SameBut.refl ..
  · exact SameBut.ite (enterHeld_same ..) ((setDisplay_same ..).mono (by decide))

theorem creditRefill_same : SameBut [.dir, .bus] s (creditRefill s) := by
  refine ⟨fun p hp => ?_⟩
  cases p <;> first | rfl | exact absurd (by decide) hp

theorem dispatch_keeps : Keeps [.bus, .cabins, .stranded, .ports, .dir, .segs, .records] s (dispatch s) := by
  unfold dispatch
  split
  · exact Keeps.refl ..
  · dsimp only
    refine Keeps.trans ?_ (dispatchKind_keeps ..)
    exact Keeps.ite (((withBus_same ..).toKeeps.mono (by decide)).trans ((clearBusy_same ..).toKeeps.mono (by decide)))
      ((withBus_same ..).toKeeps.mono (by decide))

end

/-! ## Frames of the links -/

/-- The commands that bring a frame, or a byte that may complete one. -/
def isFrame : Instr → Bool
  | .unknownKind _ _ _ _ | .badCrcFrame _ _ _ _ _ | .frameWhileBusy _ _ _ _ | .startByte _ | .lengthOutOfRange _ _ => true
  | _ => false

/-- A request of kind known or not is no bare frame, but for the frame of an unknown kind. -/
theorem isFrame_ofFrame (l : LinkId) (tag kind : Byte) (body : List Byte) : knownKind kind = true →
    isFrame (Instr.ofFrame l tag kind body) = false ∧ Instr.ofFrame l tag kind body ≠ .reset := by
  revert kind
  refine forall_kind fun n hn => ?_
  interval_cases n <;> first | exact fun _ => ⟨rfl, nofun⟩ | exact nofun

/-- A frame is a request, or changes nothing but its port and a confirm sequence. -/
def frameOutcome (s t : State) : Prop :=
  (∃ l tag kind body, knownKind kind = true ∧ exec (Instr.ofFrame l tag kind body) s = .next t) ∨ Keeps [.ports, .confirm] s t

theorem unknownRequest_keeps {l : LinkId} {tag kind : Byte} {s t : State} (h : unknownRequest l tag kind s = .next t) :
    Keeps [.ports, .confirm] s t := by
  cases h
  exact takeRequest_keeps (by decide) (by decide) fun _ => Keeps.refl ..

theorem takeFrame_outcome {l : LinkId} {tag kind : Byte} {body : List Byte} {s t : State}
    (h : takeFrame l tag kind body s = .next t) : frameOutcome s t := by
  cases hk : knownKind kind with
  | true => exact .inl ⟨l, tag, kind, body, hk, (takeFrame_eq_exec ..).symm.trans h⟩
  | false => exact .inr (unknownRequest_keeps ((exec_unknownKind l tag kind body s hk).symm.trans h))

theorem next_modPort_outcome {l : LinkId} {f : Port → Port} {s t : State}
    (h : (Host.Outcome.next (s.begin.modPort l f) : Host.Outcome State Fault Refusal) = .next t) : frameOutcome s t := by
  cases h
  exact .inr (((begin_keeps s).mono (by decide)).trans ((modPort_keeps ..).mono (by decide)))

theorem checkFrame_outcome {l : LinkId} {tag kind : Byte} {body : List Byte} {crc : BitVec 16} {s t : State}
    (h : checkFrame l tag kind body crc s = .next t) : frameOutcome s t := by
  unfold checkFrame at h
  split at h
  · exact takeFrame_outcome h
  · exact next_modPort_outcome h

theorem receiveByte_outcome {l : LinkId} {b : Byte} {s t : State} (h : receiveByte l b s = .next t) : frameOutcome s t := by
  unfold receiveByte at h
  split at h
  · split at h
    · exact next_modPort_outcome h
    · cases h
      exact .inr ((begin_keeps s).mono (by decide))
  · split at h
    · exact next_modPort_outcome h
    · exact next_modPort_outcome h
  · dsimp only at h
    split at h
    · exact next_modPort_outcome h
    · split at h
      · exact checkFrame_outcome h
      · exact next_modPort_outcome h

theorem exec_frame_outcome {c : Instr} {s t : State} (hc : isFrame c = true) (h : exec c s = .next t) : frameOutcome s t := by
  cases c <;> try exact absurd hc Bool.false_ne_true
  case unknownKind => exact takeFrame_outcome h
  case badCrcFrame => exact checkFrame_outcome h
  case frameWhileBusy => exact takeFrame_outcome h
  case startByte => exact receiveByte_outcome h
  case lengthOutOfRange => exact receiveByte_outcome h

/-- What holds of every command but the frames, and of a change of the ports and the confirm sequence, holds of every command. -/
theorem exec_cases {P : State → State → Prop} (hports : ∀ s t, Keeps [.ports, .confirm] s t → P s t)
    (hplain : ∀ c s t, isFrame c = false → c ≠ .reset → exec c s = .next t → P s t)
    (hreset : ∀ s t, exec .reset s = .next t → P s t) {c : Instr} {s t : State} (h : exec c s = .next t) : P s t := by
  cases hf : isFrame c with
  | true =>
    rcases exec_frame_outcome hf h with ⟨l, tag, kind, body, hknown, hexec⟩ | hk
    · obtain ⟨hd, hr⟩ := isFrame_ofFrame l tag kind body hknown
      exact hplain _ s t hd hr hexec
    · exact hports s t hk
  | false =>
    by_cases hr : c = .reset
    · subst hr
      exact hreset s t h
    · exact hplain c s t hf hr h

/-! ## Every command -/

theorem execRequest_keeps {fs gs : List Facet} {area : Area} {own : Bool} {kind tag : Byte} {l : LinkId} {h : State → Handled}
    {s t : State} (hexec : (Host.Outcome.next (takeRequest area own kind l tag h s) : Host.Outcome State Fault Refusal) = .next t)
    (hh : ∀ t, (h t).keeps gs t) (hs : ∀ f ∈ Facet.ports :: .confirm :: gs, f ∈ fs := by decide) : Keeps fs s t := by
  cases hexec
  exact takeRequest_keeps (hs _ (by simp)) (hs _ (by simp)) fun t =>
    (hh t).mono fun f hf => hs f (List.mem_cons_of_mem _ (List.mem_cons_of_mem _ hf))

theorem execEvent_keeps {fs : List Facet} {f : State → State} {s t : State}
    (hexec : (Host.Outcome.next (f s.begin) : Host.Outcome State Fault Refusal) = .next t) (hf : ∀ u, Keeps fs u (f u)) :
    Keeps fs s t := by
  cases hexec
  exact ((begin_keeps s).mono (by simp)).trans (hf _)

theorem execEvent_same {ps : List Part} {fs : List Facet} {f : State → State} {s t : State}
    (hexec : (Host.Outcome.next (f s.begin) : Host.Outcome State Fault Refusal) = .next t) (hf : ∀ u, SameBut ps u (f u))
    (hs : ∀ x ∈ ps.flatMap Part.reach, x ∈ fs := by decide) : Keeps fs s t :=
  execEvent_keeps hexec fun u => (hf u).toKeeps.mono hs

end Sys2Proof.Machine
end


section
/-! PROOFS. The facets of every command, and the frame of every command by parts. -/

namespace Sys2Proof.Machine

/-- A reset leaves the commands that wait; the alarm line keeps its level. -/
theorem reset_keeps {s t : State} (h : exec .reset s = .next t) : Keeps (facets .reset) s t := by
  cases h
  refine ⟨fun f hf => ?_⟩
  simp only [facets, List.mem_cons, List.not_mem_nil, or_false, not_or] at hf
  have hstart : ∀ u, Keeps [.routes, .stranded, .ports] u u.startComputation.strandedAtStart := fun u =>
    ((startComputation_keeps u).mono (by decide)).trans ((strandedAtStart_keeps _).mono (by decide))
  cases f
  case alarmLine => exact (hstart _).keeps .alarmLine (by decide)
  case pending => exact (hstart _).keeps .pending (by decide)
  all_goals simp at hf

theorem execPlain_keeps {c : Instr} {s t : State} (hc : isFrame c = false) (hr : c ≠ .reset) (h : exec c s = .next t) :
    Keeps (facets c) s t := by
  cases c <;> simp only [facets]
  case unknownKind | badCrcFrame | frameWhileBusy | startByte | lengthOutOfRange => exact absurd hc.symm Bool.false_ne_true
  case reset => exact absurd rfl hr
  case planOpen => exact execRequest_keeps h fun t => parsed_keeps fun _ => planOpen_keeps ..
  case planWrite => exact execRequest_keeps h fun t => planWrite_keeps ..
  case planAbandon => exact execRequest_keeps h fun t => planAbandon_keeps t
  case planCommit => exact execRequest_keeps h fun t => planCommit_keeps ..
  case bind => exact execRequest_keeps h fun t => parsed_keeps fun _ => bindDisplay_keeps ..
  case setCondition => exact execRequest_keeps h fun t => parsed_keeps fun _ => setCondition_keeps ..
  case softDetourSet => exact execRequest_keeps h fun t => parsed_keeps fun _ => softDetourSet_keeps ..
  case softDetourClear => exact execRequest_keeps h fun t => parsed_keeps fun _ => softDetourClear_keeps ..
  case confirm =>
    refine execRequest_keeps (gs := [.confirm]) h fun t => ?_
    split
    · exact abandonConfirm_keeps t
    · exact confirmStep_keeps ..
  case fixedDetour =>
    refine execRequest_keeps (gs := [.confirm, .writing, .store, .ports]) h fun t => ?_
    unfold parsed
    split
    · exact ((abandonConfirm_keeps t).mono (by decide)).trans ((fixedDetour_keeps ..).mono (by decide))
    · exact (abandonConfirm_keeps t).mono (by decide)
  case alert => exact execRequest_keeps h fun t => parsed_keeps fun _ => alert_keeps ..
  case cancelAlert => exact execRequest_keeps h fun t => cancelAlert_keeps t
  case muster => exact execRequest_keeps h fun t => parsed_keeps fun _ => musterRequest_keeps ..
  case standdown => exact execRequest_keeps h fun t => standdown_keeps t
  case assignCabinStation => exact execRequest_keeps h fun t => parsed_keeps fun _ => parsed_keeps fun _ => assignCabin_keeps ..
  case assignZoneStation =>
    exact execRequest_keeps h fun t =>
      parsed_keeps fun _ => parsed_keeps fun _ => parsed_keeps fun _ => assignZone_keeps ..
  case markCabin => exact execRequest_keeps h fun t => parsed_keeps fun _ => parsed_keeps fun _ => markCabin_keeps ..
  case setMusterTimers => exact execRequest_keeps h fun t => parsed_keeps fun _ => setMusterTimers_keeps ..
  case setInstruction =>
    exact execRequest_keeps h fun t =>
      parsed_keeps fun _ => parsed_keeps fun _ => parsed_keeps fun _ => setInstruction_keeps ..
  case sweep => exact execRequest_keeps h fun t => parsed_keeps fun _ => sweepRequest_keeps ..
  case segmentReset => exact execRequest_keeps h fun t => parsed_keeps fun _ => (resetSegment_same ..).toKeeps
  case revive => exact execRequest_keeps h fun t => parsed_keeps fun _ => revive_keeps ..
  case setClock => exact execRequest_keeps h fun t => parsed_keeps fun _ => setClock_keeps ..
  case setOffset => exact execRequest_keeps h fun t => parsed_keeps fun _ => setOffset_keeps ..
  case setLanguages => exact execRequest_keeps h fun t => parsed_keeps fun _ => setLanguages_keeps ..
  case setLookahead => exact execRequest_keeps h fun t => parsed_keeps fun _ => setLookahead_keeps ..
  case eventAdd => exact execRequest_keeps h fun t => parsed_keeps fun _ => eventAdd_keeps ..
  case eventModify => exact execRequest_keeps h fun t => parsed_keeps fun _ => eventModify_keeps ..
  case eventCancel => exact execRequest_keeps h fun t => parsed_keeps fun _ => eventCancel_keeps ..
  case eventDelete => exact execRequest_keeps h fun t => parsed_keeps fun _ => eventDelete_keeps ..
  case textPut => exact execRequest_keeps h fun t => parsed_keeps fun _ => textPut_keeps ..
  case textDelete => exact execRequest_keeps h fun t => parsed_keeps fun _ => textDelete_keeps ..
  case cabinGuests => exact execRequest_keeps h fun t => parsed_keeps fun _ => cabinGuests_keeps ..
  case setParkedText => exact execRequest_keeps h fun t => parsed_keeps fun _ => setParkedText_keeps ..
  case readGuestRequests => exact execRequest_keeps h fun t => parsed_keeps fun _ => readGuests_keeps ..
  case remainderSet => exact execRequest_keeps h fun t => parsed_keeps fun _ => remainderSet_keeps ..
  case remainderClear => exact execRequest_keeps h fun t => parsed_keeps fun _ => remainderClear_keeps ..
  case postNotice => exact execRequest_keeps h fun t => parsed_keeps fun _ => postNotice_keeps ..
  case withdrawNotice => exact execRequest_keeps h fun t => parsed_keeps fun _ => withdrawNotice_keeps ..
  case planRead => exact execRequest_keeps h fun t => parsed_keeps fun _ => planRead_keeps ..
  case readAttention => exact execRequest_keeps h fun t => parsed_keeps fun _ => readAttention_keeps ..
  case setAttentionMask => exact execRequest_keeps h fun t => parsed_keeps fun _ => setAttentionMask_keeps ..
  case setLinkTimeout => exact execRequest_keeps h fun t => parsed_keeps fun _ => setLinkTimeout_keeps ..
  case lastOperation => exact execRequest_keeps h fun _ => Keeps.refl [] _
  case linkStatus => exact execRequest_keeps h fun _ => Keeps.refl [] _
  case planStatus => exact execRequest_keeps h fun _ => Keeps.refl [] _
  case detourRead => exact execRequest_keeps h fun _ => Keeps.refl [] _
  case routeStatus => exact execRequest_keeps h fun _ => Keeps.refl [] _
  case programmeStatus => exact execRequest_keeps h fun _ => Keeps.refl [] _
  case musterStatus => exact execRequest_keeps h fun _ => Keeps.refl [] _
  case noticeRead => exact execRequest_keeps h fun _ => Keeps.refl [] _
  case eventList => exact execRequest_keeps h fun _ => parsed_keeps fun _ => Keeps.refl [] _
  case cardRead => exact execRequest_keeps h fun _ => parsed_keeps fun _ => Keeps.refl [] _
  case displayRead => exact execRequest_keeps h fun _ => parsed_keeps fun _ => Keeps.refl [] _
  case segmentStatus => exact execRequest_keeps h fun _ => parsed_keeps fun _ => Keeps.refl [] _
  case queueRead => exact execRequest_keeps h fun _ => parsed_keeps fun _ => Keeps.refl [] _
  case conditionRead => exact execRequest_keeps h fun t => parsed_keeps fun _ => conditionRead_keeps ..
  case remainderRead => exact execRequest_keeps h fun t => parsed_keeps fun _ => remainderRead_keeps ..
  case routeRead => exact execRequest_keeps h fun t => parsed_keeps fun _ => routeRead_keeps ..
  case eventRead => exact execRequest_keeps h fun t => parsed_keeps fun _ => eventRead_keeps ..
  case textRead => exact execRequest_keeps h fun t => parsed_keeps fun _ => textRead_keeps ..
  case cabinRead => exact execRequest_keeps h fun t => parsed_keeps fun _ => cabinRead_keeps ..
  case readOutstanding => exact execRequest_keeps h fun t => parsed_keeps fun _ => readOutstanding_keeps ..
  case readStranded => exact execRequest_keeps h fun t => parsed_keeps fun _ => readStranded_keeps ..
  case receiveGap l => exact execEvent_keeps (f := fun u => u.hunt l) h fun u => modPort_keeps ..
  case missingStopBit l => exact execEvent_keeps (f := fun u => u.hunt l) h fun u => modPort_keeps ..
  case answerSent l => exact execEvent_keeps (f := fun u => u.modPort l Port.sentAnswer) h fun u => modPort_keeps ..
  case silenceTimerExpiry => exact execEvent_keeps h fun u => silenceExpiry_keeps ..
  case generalAlarmAsserted => exact execEvent_keeps h fun u => alarmAsserted_keeps u
  case generalAlarmDeasserted => exact execEvent_keeps h fun u => withWatch_keeps ..
  case generalAlarmEvent => exact execEvent_keeps h fun u => generalAlarm_keeps u
  case overdueTimerExpiry => exact execEvent_keeps h fun u => overdueExpiry_keeps u
  case standDownHoldExpiry => exact execEvent_keeps h fun u => holdExpiry_keeps u
  case commitCompletion => exact execEvent_keeps h fun u => commitCompletion_keeps u
  case bindCompletion => exact execEvent_keeps h fun u => bindCompletion_keeps u
  case fixedDetourCompletion => exact execEvent_keeps h fun u => fixedDetourCompletion_keeps u
  case latchSetCompletion => exact execEvent_keeps h fun u => latchSetCompletion_keeps u
  case latchClearCompletion => exact execEvent_keeps h fun u => latchClearCompletion_keeps u
  case settingsWriteCompletion => exact execEvent_keeps h fun u => settingsCompletion_keeps u
  case computationCompletion => exact execEvent_keeps h fun u => computationCompletion_keeps u
  case minuteEvent => exact execEvent_keeps h fun u => minuteEvent_keeps u
  case clockRunStateHeld => exact execEvent_keeps h fun u => clockHeld_keeps u
  case sweepStart => exact execEvent_same h fun u => sweepStart_same ..
  case automaticSweepTimerExpiry => exact execEvent_same h fun u => automaticExpiry_same ..
  case presence => exact execEvent_same h fun u => presenceWindow_same ..
  case bit => exact execEvent_same h fun u => bitWindow_same ..
  case capabilityReply => exact execEvent_same h fun u => capabilityReply_same ..
  case assignReplyTimeout => exact execEvent_same h fun u => assignTimeout_same ..
  case cardExchange => exact execEvent_same h fun u => cardExchange_same ..
  case pollExchange => exact execEvent_same h fun u => pollExchange_same ..
  case ack => exact execEvent_same h fun u => ack_same ..
  case nak => exact execEvent_same h fun u => nak_same ..
  case pollNone => exact execEvent_same h fun u => pollNone_same ..
  case pollNak => exact execEvent_same h fun u => pollNak_same ..
  case report => exact execEvent_same h fun u => report_same ..
  case panelReplyTimeout => exact execEvent_same h fun u => replyTimeout_same ..
  case refreshLimitExpiry => exact execEvent_same h fun u => limitExpiry_same ..
  case creditRefill => exact execEvent_same h fun u => creditRefill_same u
  case dispatch => exact execEvent_keeps h fun u => dispatch_keeps u

theorem facets_ofFrame (l : LinkId) (tag kind : Byte) (body : List Byte) :
    (facets (Instr.ofFrame l tag kind body)).all (frameFacets.contains ·) = true := by
  revert kind
  refine forall_kind fun n hn => ?_
  interval_cases n <;> rfl

theorem facets_frame {c : Instr} (hc : isFrame c = true) : facets c = frameFacets := by
  cases c <;> first | rfl | exact absurd hc Bool.false_ne_true

/-- Every command by its facets; a frame by those of the request it is. -/
theorem exec_keeps {c : Instr} {s t : State} (h : exec c s = .next t) : Keeps (facets c) s t := by
  cases hf : isFrame c with
  | true =>
    rw [facets_frame hf]
    rcases exec_frame_outcome hf h with ⟨l, tag, kind, body, hknown, hexec⟩ | hk
    · obtain ⟨hplain, hreset⟩ := isFrame_ofFrame l tag kind body hknown
      refine (execPlain_keeps hplain hreset hexec).mono fun f hm => ?_
      exact List.contains_iff_mem.mp (List.all_eq_true.mp (facets_ofFrame l tag kind body) f hm)
    · exact hk.mono (by decide)
  | false =>
    by_cases hr : c = .reset
    · subst hr
      exact reset_keeps h
    · exact execPlain_keeps hf hr h

/-- Settles O3: the parts of the facets. -/
theorem everyCommandKeepsTheRest : Obligations.EveryCommandKeepsTheRest := by
  intro c s t h
  exact (exec_keeps h).toSameBut.mono (facets_touches c)

end Sys2Proof.Machine
end


section
/-! PROOFS. The retained store and the plan edit (R8, R12, R14, R22, R25, R37): the invariant, operation by operation. -/

namespace Sys2Proof.Machine

/-! ## Steps in general -/

/-- A step is a passing second or a command on the queue's rest. -/
theorem step_cases {s t : State} (h : step s = .next t) :
    t = s.tick ∨ ∃ c rest, exec c { s with pending := rest } = .next t := by
  unfold step at h
  split at h
  · cases h
    exact .inl rfl
  · exact .inr ⟨_, _, h⟩

/-- What the ports and a confirm sequence do not decide, and the block's handling keeps, a request keeps. -/
theorem takeRequest_keeps_pred {P : State → Prop} (hports : ∀ {u v}, Keeps [.ports, .confirm] u v → P u → P v)
    {area : Area} {own : Bool} {kind tag : Byte} {l : LinkId} {h : State → Handled} {s : State}
    (hh : ∀ u, P u → P (h u).state) (hs : P s) : P (takeRequest area own kind l tag h s) := by
  have harrived : P (s.begin.modPort l Port.frameArrived) := hports ((frameTaken_same l s).toKeeps.mono (by decide)) hs
  unfold takeRequest
  dsimp only
  split
  · have htaken : P (if l = .safety && !own then (s.begin.modPort l Port.frameArrived).abandonConfirm
        else s.begin.modPort l Port.frameArrived) := by
      split
      · exact hports ((abandonConfirm_keeps _).mono (by decide)) harrived
      · exact harrived
    split
    · exact hports ((modPort_keeps ..).mono (by decide)) htaken
    · have hblock := hh _ htaken
      generalize h _ = x at hblock
      cases x with
      | answer t r => exact hports ((answer_same t l tag kind r).toKeeps.mono (by decide)) hblock
      | hold t =>
        have hheld := modPort_keeps t l fun p => { p with state := .handling tag kind, silence := .held }
        exact hports (hheld.mono (by decide)) hblock
  · exact harrived

theorem parsed_state {α : Type} {P : State → Prop} {p : Except Reason α} {s : State} {f : α → Handled}
    (hs : P s) (hf : ∀ a, P (f a).state) : P (parsed p s f).state := by
  cases p with
  | ok a => exact hf a
  | error r => exact hs

theorem execRequest_pred {P : State → Prop} (hports : ∀ {u v}, Keeps [.ports, .confirm] u v → P u → P v)
    {area : Area} {own : Bool} {kind tag : Byte} {l : LinkId} {h : State → Handled} {s t : State}
    (hexec : (Host.Outcome.next (takeRequest area own kind l tag h s) : Host.Outcome State Fault Refusal) = .next t)
    (hs : P s) (hh : ∀ u, P u → P (h u).state) : P t := by
  cases hexec
  exact takeRequest_keeps_pred hports hh hs

/-! ## The invariant -/

/-- The part of the invariant that the muster state does not enter. -/
structure StoreOk (s : State) : Prop where
  plan : planKept s
  order : writeOrder s
  edit : editOrder s
  detour : detourWrite s

theorem StoreOk.of_eq {s t : State} (h : StoreOk s) (hstore : t.store = s.store) (hplan : t.plan = s.plan)
    (hwriting : t.cond.writing = s.cond.writing) : StoreOk t := by
  obtain ⟨h1, h2, h3, h4⟩ := h
  constructor
  · rwa [planKept, hplan, hstore]
  · rwa [writeOrder, hstore]
  · rwa [editOrder, hplan, hstore]
  · rwa [detourWrite, hwriting, hstore]

/-- The plan store from its facets. -/
theorem Keeps.plan_eq {fs : List Facet} {s t : State} (h : Keeps fs s t) (ha : Facet.active ∉ fs) (he : Facet.edit ∉ fs) :
    t.plan = s.plan :=
  Part.same_of_facets (p := .plan) fun f hf => h.keeps f (by
    simp only [Part.facets, List.mem_cons, List.not_mem_nil, or_false] at hf
    rcases hf with rfl | rfl <;> assumption)

theorem StoreOk.of_keeps {fs : List Facet} {s t : State} (h : StoreOk s) (hk : Keeps fs s t)
    (hfs : Facet.store ∉ fs ∧ (Facet.active ∉ fs ∧ Facet.edit ∉ fs) ∧ Facet.writing ∉ fs) : StoreOk t :=
  h.of_eq (hk.keeps _ hfs.1) (hk.plan_eq hfs.2.1.1 hfs.2.1.2) (hk.keeps _ hfs.2.2)

theorem storeBusy_eq_false {s : State} : s.storeBusy = false ↔ s.store.inFlight = none ∧ s.store.waiting = none := by
  simp [State.storeBusy]

/-- No commit write is in flight behind an idle store or a write of another kind. -/
theorem StoreOk.edit_ne_committing {s : State} (h : StoreOk s) (hc : ∀ n, s.store.inFlight ≠ some (.commit n)) :
    s.plan.edit ≠ .committing := fun he => by
  obtain ⟨n, hn⟩ := h.edit.1.mpr he
  exact hc n hn

theorem StoreOk.writing_eq_none {s : State} (h : StoreOk s) (hd : ∀ f, s.store.inFlight ≠ some (.fixedDetour f)) :
    s.cond.writing = none := by
  cases hw : s.cond.writing with
  | none => rfl
  | some f => exact absurd ((h.detour f).mp hw) (hd f)

/-- The invariant with no commit and no fixed-detour write in flight. -/
theorem StoreOk.of_calm {s : State} (hp : planKept s) (ho : writeOrder s) (hc : ∀ n, s.store.inFlight ≠ some (.commit n))
    (he : s.plan.edit ≠ .committing) (hsh : s.plan.edit = .closed → s.plan.shadow = .empty)
    (hd : ∀ f, s.store.inFlight ≠ some (.fixedDetour f)) (hw : s.cond.writing = none) : StoreOk s where
  plan := hp
  order := ho
  edit := ⟨⟨fun ⟨n, hn⟩ => absurd hn (hc n), fun h => absurd h he⟩, hsh⟩
  detour := fun f => ⟨fun h => (nomatch hw.symm.trans h), fun h => absurd h (hd f)⟩

theorem StoreOk.startWrite {s : State} (h : StoreOk s) (hb : s.storeBusy = false) {w : Write} (hc : ∀ n, w ≠ .commit n)
    (hd : ∀ f, w ≠ .fixedDetour f) : StoreOk (s.startWrite w) := by
  obtain ⟨hi, hw⟩ := storeBusy_eq_false.mp hb
  refine .of_calm h.plan (fun _ => rfl) (fun n hn => hc n (Option.some.inj hn)) (h.edit_ne_committing fun n => ?_) h.edit.2
    (fun f hf => hd f (Option.some.inj hf)) (h.writing_eq_none fun f => ?_)
  · rw [hi]
    exact nofun
  · rw [hi]
    exact nofun

theorem StoreOk.startOp {s : State} (h : StoreOk s) (hb : s.storeBusy = false) {w : Write} (hc : ∀ n, w ≠ .commit n)
    (hd : ∀ f, w ≠ .fixedDetour f) (l : LinkId) (e : OpEntry) : StoreOk ((s.startWrite w).beginOp l e) :=
  (h.startWrite hb hc hd).of_keeps (beginOp_keeps ..) (by decide)

theorem StoreOk.requestLatch {s : State} (h : StoreOk s) (w : LatchWrite) : StoreOk (s.requestLatch w) := by
  unfold State.requestLatch
  split
  · rename_i hi
    refine .of_calm h.plan (fun h => absurd h Bool.false_ne_true) nofun (h.edit_ne_committing ?_) h.edit.2 nofun
      (h.writing_eq_none ?_)
    · rw [hi]
      exact nofun
    · rw [hi]
      exact nofun
  · rename_i w' hi
    exact ⟨h.plan, fun _ => Option.isSome_of_eq_some hi, h.edit, h.detour⟩

/-- The write in flight is over and nothing but it was about the plan edit or the condition table. -/
theorem StoreOk.finishWrite {s : State} (hp : planKept s) (he : s.plan.edit ≠ .committing)
    (hsh : s.plan.edit = .closed → s.plan.shadow = .empty) (hw : s.cond.writing = none) : StoreOk s.finishWrite := by
  refine .of_calm hp (fun h => absurd h Bool.false_ne_true) (fun n => ?_) he hsh (fun f => ?_) hw
  all_goals
    change s.store.waiting.map Write.latch ≠ _
    cases s.store.waiting <;> simp

/-! ## The muster state and the open edit -/

theorem closeEdit_plan (s : State) :
    s.closeEdit.plan = if s.plan.edit = .editing then { s.plan with edit := .closed, shadow := .empty } else s.plan := by
  unfold State.closeEdit
  split <;> rfl

theorem handMuster_facets (s : State) (m : MusterState) :
    (s.handMuster m).store = s.store ∧ (s.handMuster m).cond = s.cond ∧ (s.handMuster m).muster.state = s.muster.state := by
  refine ⟨(handMuster_same s m).keeps .store (by decide), (handMuster_same s m).keeps .cond (by decide), ?_⟩
  have h : (s.handMuster m).muster = _ := (handMuster_keeps s m).keeps .muster (by decide)
  rw [h]

theorem handMuster_plan (s : State) (m : MusterState) :
    (s.handMuster m).plan = if isEntry m s.muster.state then s.closeEdit.plan else s.plan := by
  have hrest : ∀ u v : State, Keeps [.ports, .profile, .routes, .stranded, .dir, .segs] u v → v.plan = u.plan := fun u v h =>
    h.plan_eq (by decide) (by decide)
  rw [← apply_ite State.plan]
  unfold State.handMuster
  dsimp only
  generalize (if isEntry m s.muster.state = true then s.closeEdit else s) = s1
  refine hrest s1 _ ?_
  have h2 : Keeps [.ports, .profile, .routes, .stranded, .dir, .segs] s1 (s1.changeProfile s1.muster.state.profile) :=
    (changeProfile_same ..).toKeeps.mono (by decide)
  have h3 := h2.trans (Keeps.ite (c := isEntry m s.muster.state = true)
    ((composes_keeps (composeEntry_composes _)).mono (by decide)) ((composes_keeps (composeAll_composes _)).mono (by decide)))
  exact (Keeps.ite h3 (h3.trans ((strandedAtStart_keeps _).mono (by decide)))).trans ((raise_keeps ..).mono (by decide))

/-- Both parts of the invariant. -/
def editStoreOk (s : State) : Prop := StoreOk s ∧ editQuiet s

theorem editStoreOk.of_keeps {fs : List Facet} {s t : State} (h : editStoreOk s) (hk : Keeps fs s t)
    (hfs : Facet.store ∉ fs ∧ (Facet.active ∉ fs ∧ Facet.edit ∉ fs) ∧ Facet.writing ∉ fs ∧ Facet.muster ∉ fs) :
    editStoreOk t := by
  obtain ⟨hstore, hplan, hwriting, hmuster⟩ := hfs
  refine ⟨h.1.of_keeps hk ⟨hstore, hplan, hwriting⟩, ?_⟩
  have hp : t.plan = s.plan := hk.plan_eq hplan.1 hplan.2
  have hm : t.muster = _ := hk.keeps _ hmuster
  unfold editQuiet
  rw [hp, hm]
  exact h.2

/-- Handing on a muster state closes the edit at an entry into ALERT or MUSTER; elsewhere it has to be closed before, or QUIET. -/
theorem StoreOk.handMuster {s : State} (h : StoreOk s) (m : MusterState)
    (hq : s.plan.edit = .editing → s.muster.state = .quiet ∨ isEntry m s.muster.state = true) : editStoreOk (s.handMuster m) := by
  obtain ⟨hstore, hcond, hstate⟩ := handMuster_facets s m
  have hplan := handMuster_plan s m
  have hsame : (s.handMuster m).plan = s.plan → (s.plan.edit = .editing → s.muster.state = .quiet) →
      editStoreOk (s.handMuster m) := fun hp hquiet =>
    ⟨h.of_eq hstore hp (congrArg _ hcond), fun he => hstate.trans (hquiet (hp ▸ he))⟩
  by_cases hentry : isEntry m s.muster.state = true
  · rw [if_pos hentry, closeEdit_plan] at hplan
    split at hplan
    · rename_i hediting
      have hne : ∀ n, s.store.inFlight ≠ some (.commit n) := fun n hn =>
        nomatch hediting.symm.trans (h.edit.1.mp ⟨n, hn⟩)
      refine ⟨⟨?_, ?_, ?_, ?_⟩, ?_⟩
      · rw [planKept, hplan, hstore]
        exact h.plan
      · rw [writeOrder, hstore]
        exact h.order
      · rw [editOrder, hplan, hstore]
        exact ⟨⟨fun ⟨n, hn⟩ => absurd hn (hne n), nofun⟩, fun _ => rfl⟩
      · rw [detourWrite, hcond, hstore]
        exact h.detour
      · rw [editQuiet, hplan]
        exact nofun
    · rename_i hediting
      exact hsame hplan fun he => absurd he hediting
  · rw [if_neg hentry] at hplan
    exact hsame hplan fun he => (hq he).resolve_right hentry

theorem editQuiet.not_editing {s : State} (h : editQuiet s) (hm : s.muster.state ≠ .quiet) : s.plan.edit ≠ .editing :=
  fun he => hm (h he)

/-! ## The muster requests and events -/

section
variable {s : State}

theorem StoreOk.withMuster (h : StoreOk s) (m : MusterController) : StoreOk { s with muster := m } := h.of_eq rfl rfl rfl

theorem StoreOk.enterAlert (h : StoreOk s) (hm : s.muster.state = .quiet) (d : Bool) : editStoreOk (s.enterAlert d) :=
  (h.withMuster _).handMuster _ fun _ => .inr (by simp [isEntry, hm])

theorem StoreOk.enterMuster (h : StoreOk s) (hm : s.muster.state ≠ .muster) (d : Bool) : editStoreOk (s.enterMuster d) := by
  unfold State.enterMuster
  refine ((((h.withMuster _).of_keeps (retally_keeps _) (by decide)).requestLatch _)).handMuster _ fun _ => .inr ?_
  rw [State.requestLatch_muster, retally_muster_state]
  simp [isEntry, hm]

theorem StoreOk.resume (h : StoreOk s) (hm : s.muster.state ≠ .muster) (d : Bool) : editStoreOk (s.resume d) := by
  unfold State.resume
  dsimp only
  split
  · refine ((h.withMuster _).requestLatch _).handMuster _ fun _ => .inr ?_
    rw [State.requestLatch_muster]
    simp [isEntry, hm]
  · exact (h.withMuster _).handMuster _ fun _ => .inr (by simp [isEntry, hm])

theorem editStoreOk.clearDrill (h : editStoreOk s) (hm : s.muster.state ≠ .quiet) : editStoreOk s.clearDrill := by
  unfold State.clearDrill
  dsimp only
  split
  · refine ((h.1.withMuster _).requestLatch _).handMuster _ fun he => ?_
    rw [State.requestLatch_plan] at he
    exact absurd he (h.2.not_editing hm)
  · exact (h.1.withMuster _).handMuster _ fun he => absurd he (h.2.not_editing hm)

theorem editStoreOk.standDown (h : editStoreOk s) (hm : s.muster.state ≠ .quiet) : editStoreOk s.standDown :=
  (h.1.withMuster _).handMuster _ fun he => absurd he (h.2.not_editing hm)

theorem editStoreOk.cancelAlert (h : editStoreOk s) : editStoreOk s.cancelAlert :=
  (h.1.withMuster _).handMuster _ fun _ => .inl rfl

theorem editStoreOk.returnToQuiet (h : editStoreOk s) : editStoreOk s.returnToQuiet := by
  unfold State.returnToQuiet
  refine ((h.1.withMuster _).of_keeps (retally_keeps _) (by decide)).handMuster _ fun _ => .inl ?_
  rw [retally_muster_state]

theorem editStoreOk.alarmEvent (h : editStoreOk s) : editStoreOk s.alarmEvent := by
  have hr : editStoreOk (s.raise .safety .musterByLine) := h.of_keeps (raise_keeps ..) (by decide)
  unfold State.alarmEvent
  dsimp only
  split
  · rename_i hm
    exact hr.1.enterMuster (by simp [hm]) _
  · rename_i hm
    exact hr.1.enterMuster (by simp [hm]) _
  · rename_i hm
    split
    · exact hr.clearDrill (by simp [hm])
    · exact hr
  · rename_i hm
    exact hr.1.resume (by simp [hm]) _

/-- The edit and the muster state stay where only the times of the muster controller change. -/
theorem editStoreOk.withMuster (h : editStoreOk s) {m : MusterController} (hm : m.state = s.muster.state) :
    editStoreOk { s with muster := m } := ⟨h.1.withMuster m, fun he => hm.trans (h.2 he)⟩

end

/-! ## The requests -/

section
variable {s : State} (h : editStoreOk s)
include h

theorem planOpen_storeOk (n : Nat) : editStoreOk (planOpen n s).state := by
  unfold planOpen
  split
  · exact h
  · rename_i hopen
    have hquiet : s.muster.state = .quiet := by
      revert hopen
      cases s.muster.state <;> simp [MusterState.refusesOpen, MusterState.isSafety]
    split
    · exact h
    · rename_i hclosed
      have hne : ∀ n, s.store.inFlight ≠ some (.commit n) := fun n hn => hclosed (by
        rw [h.1.edit.1.mp ⟨n, hn⟩]
        exact nofun)
      have hedit : ∀ p, editStoreOk { s with plan := { s.plan with edit := .editing, shadow := p } } := fun p =>
        ⟨⟨h.1.plan, h.1.order, ⟨⟨fun ⟨n, hn⟩ => absurd hn (hne n), nofun⟩, nofun⟩, h.1.detour⟩, fun _ => hquiet⟩
      split
      · exact h
      · split
        · exact hedit _
        · exact hedit _
        · exact h

theorem planWrite_storeOk (b : Except Reason PlanWriteBody) : editStoreOk (planWrite b s).state := by
  unfold planWrite
  split
  · exact h
  · split
    · exact h
    · exact h
    · rename_i hediting
      refine parsed_state h fun w => ?_
      refine ⟨⟨h.1.plan, h.1.order, ⟨h.1.edit.1, fun hc => ?_⟩, h.1.detour⟩, h.2⟩
      cases hediting.symm.trans hc

theorem planAbandon_storeOk : editStoreOk (planAbandon s).state := by
  unfold planAbandon
  split
  · exact h
  · exact h
  · rename_i hediting
    refine ⟨⟨h.1.plan, h.1.order, ⟨⟨fun hc => ?_, nofun⟩, fun _ => rfl⟩, h.1.detour⟩, nofun⟩
    cases hediting.symm.trans (h.1.edit.1.mp hc)

theorem planCommit_storeOk (tag : Byte) : editStoreOk (planCommit tag s).state := by
  unfold planCommit
  split
  · exact h
  · exact h
  · split
    · exact h
    · rename_i hb
      obtain ⟨hi, hw⟩ := storeBusy_eq_false.mp (Bool.not_eq_true _ ▸ hb)
      split
      · exact h
      · have hwriting : s.cond.writing = none := h.1.writing_eq_none fun f => by
          rw [hi]
          exact nofun
        have hstarted : editStoreOk ({ s with plan := { s.plan with edit := .committing } }.startWrite
            (.commit (nextSerial s.serial))) :=
          ⟨⟨h.1.plan, fun _ => rfl, ⟨⟨fun _ => rfl, fun _ => ⟨_, rfl⟩⟩, nofun⟩,
            fun f => ⟨fun hf => (nomatch hwriting.symm.trans hf), nofun⟩⟩, nofun⟩
        exact hstarted.of_keeps (beginOp_keeps ..) (by decide)

theorem bindDisplay_storeOk (tag : Byte) (p : Nat) (g : Seg) (a : Nat) : editStoreOk (bindDisplay tag p g a s).state := by
  unfold bindDisplay
  split
  · exact h
  · split
    · exact h
    · rename_i hb
      split
      · exact h
      · dsimp only
        split
        · exact h
        · split
          · exact h
          · split
            · exact h
            · exact ⟨h.1.startOp (Bool.not_eq_true _ ▸ hb) (by exact nofun) (by exact nofun) .., h.2⟩

theorem setMusterTimers_storeOk (l : LinkId) (tag : Byte) (o t : Nat) : editStoreOk (setMusterTimers l tag o t s).state := by
  unfold setMusterTimers
  split
  · exact h
  · rename_i hb
    exact ⟨h.1.startOp (Bool.not_eq_true _ ▸ hb) (by exact nofun) (by exact nofun) .., h.2⟩

theorem setLinkTimeout_storeOk (l : LinkId) (tag : Byte) (n : Nat) : editStoreOk (setLinkTimeout l tag n s).state := by
  unfold setLinkTimeout
  split
  · exact h
  · rename_i hb
    exact ⟨h.1.startOp (Bool.not_eq_true _ ▸ hb) (by exact nofun) (by exact nofun) .., h.2⟩

theorem fixedDetour_storeOk (tag : Byte) (f : DetourFields) (c : ConditionTable) : editStoreOk (fixedDetour tag f c s).state := by
  unfold fixedDetour
  split
  · exact h
  · split
    · exact h
    · split
      · exact h
      · split
        · exact h
        · rename_i hb
          obtain ⟨hi, hw⟩ := storeBusy_eq_false.mp (Bool.not_eq_true _ ▸ hb)
          have hne : s.plan.edit ≠ .committing := h.1.edit_ne_committing fun n => by
            rw [hi]
            exact nofun
          have hstarted : editStoreOk ({ s with cond := { s.cond with writing := some f } }.startWrite (.fixedDetour f)) := by
            refine ⟨⟨h.1.plan, fun _ => rfl, ⟨⟨nofun, fun he => absurd he hne⟩, h.1.edit.2⟩, fun g => ?_⟩, h.2⟩
            change some f = some g ↔ some (Write.fixedDetour f) = some (Write.fixedDetour g)
            simp
          exact hstarted.of_keeps (beginOp_keeps ..) (by decide)

theorem alert_storeOk (d : Bool) : editStoreOk (alert d s).state := by
  unfold alert
  split
  · exact h.1.enterAlert ‹_› d
  · rename_i hm
    split
    · exact h
    · split
      · exact h
      · exact h.clearDrill (by simp [hm])
  · exact h

theorem cancelAlert_storeOk : editStoreOk (cancelAlert s).state := by
  unfold cancelAlert
  split
  · exact h.cancelAlert
  · exact h

theorem musterRequest_storeOk (d : Bool) : editStoreOk (musterRequest d s).state := by
  unfold musterRequest
  split
  · rename_i hm
    exact h.1.enterMuster (by simp [hm]) d
  · rename_i hm
    split
    · exact h
    · exact h.1.enterMuster (by simp [hm]) d
  · rename_i hm
    split
    · exact h
    · split
      · exact h
      · exact h.clearDrill (by simp [hm])
  · rename_i hm
    split
    · exact h
    · exact h.1.resume (by simp [hm]) d

theorem standdown_storeOk : editStoreOk (standdown s).state := by
  unfold standdown
  split
  · rename_i hm
    exact h.standDown (by simp [hm])
  · exact h

/-! ## Events and completions -/

theorem generalAlarm_storeOk : editStoreOk (generalAlarm s) := by
  unfold generalAlarm
  split
  · exact (h.withMuster (m := { s.muster with watch := .given }) rfl).alarmEvent
  · exact h

theorem overdueExpiry_storeOk : editStoreOk (overdueExpiry s) := by
  unfold overdueExpiry
  split
  · exact (h.withMuster (m := { s.muster with overdue := .expired }) rfl).of_keeps (raiseIf_keeps ..) (by decide)
  · exact h

theorem holdExpiry_storeOk : editStoreOk (holdExpiry s) := by
  unfold holdExpiry
  split
  · rename_i hm
    refine ⟨(h.1.withMuster _).requestLatch _, fun he => ?_⟩
    rw [State.requestLatch_plan] at he
    exact absurd he (h.2.not_editing (by simp [hm]))
  · exact h

theorem commitCompletion_storeOk : editStoreOk (commitCompletion s) := by
  unfold commitCompletion
  split
  case h_2 => exact h
  rename_i n hn
  dsimp only
  have hwriting : s.cond.writing = none := h.1.writing_eq_none fun f => by
    rw [hn]
    exact nofun
  have hcarry : Keeps [.conditions, .confirm, .cabins, .zones, .resolver, .dir, .records, .ports] (commitStore n s)
      (commitMatch (commitCarry s.activePlan (commitConditions (commitStore n s)))) := by
    refine Keeps.trans ?_ ((commitMatch_same _).toKeeps.mono (by decide))
    exact ((commitConditions_keeps _).mono (by decide)).trans ((commitCarry_keeps ..).mono (by decide))
  generalize commitMatch (commitCarry s.activePlan (commitConditions (commitStore n s))) = u at hcarry
  have hplan : u.plan = ⟨some ⟨s.plan.shadow, n⟩, .empty, .closed⟩ := hcarry.plan_eq (by decide) (by decide)
  have hstore : u.store = (commitStore n s).store := hcarry.keeps .store (by decide)
  have hw : u.cond.writing = s.cond.writing := hcarry.keeps .writing (by decide)
  have hu : editStoreOk u.finishWrite := by
    refine ⟨.finishWrite ?_ ?_ ?_ (hw.trans hwriting), ?_⟩
    · rw [planKept, hplan, hstore]
      rfl
    · rw [hplan]
      exact nofun
    · rw [hplan]
      exact fun _ => rfl
    · rw [editQuiet, State.finishWrite_plan, hplan]
      exact nofun
  have hrest : Keeps [.cabins, .prog, .routes, .ports, .dir, .segs, .stranded] u.finishWrite
      ((((commitRoutes (commitSelection u.finishWrite.retally)).completeOp .planCommit none (.commit n)).raise .safety
        .reload).raise .hotel .reload).composeAll.strandedAtStart := by
    refine Keeps.trans ?_ ((strandedAtStart_keeps _).mono (by decide))
    refine Keeps.trans ?_ ((composes_keeps (composeAll_composes _)).mono (by decide))
    refine Keeps.trans ?_ ((raise_keeps ..).mono (by decide))
    refine Keeps.trans ?_ ((raise_keeps ..).mono (by decide))
    refine Keeps.trans ?_ ((completeOp_same ..).toKeeps.mono (by decide))
    refine Keeps.trans ?_ ((commitRoutes_keeps _).mono (by decide))
    refine Keeps.trans ?_ ((withChoice_keeps _ _ _ (State.prog _).programme).mono (by decide))
    exact (retally_keeps _).mono (by decide)
  exact hu.of_keeps hrest (by decide)

theorem bindCompletion_storeOk : editStoreOk (bindCompletion s) := by
  unfold bindCompletion
  split
  case h_2 => exact h
  rename_i p i loser hi
  dsimp only
  have hfin : editStoreOk (bindPlans p i loser s).finishWrite := by
    refine ⟨.finishWrite ?_ (h.1.edit_ne_committing fun n => ?_) h.1.edit.2 (h.1.writing_eq_none fun f => ?_), h.2⟩
    · exact congrArg (Option.map _) h.1.plan
    · rw [hi]
      exact nofun
    · rw [hi]
      exact nofun
  refine hfin.of_keeps (fs := [.dir, .segs, .records, .ports]) ?_ (by decide)
  refine Keeps.trans ?_ ((composes_keeps (composeWhere_composes ..)).mono (by decide))
  refine Keeps.trans ?_ ((completeOp_same ..).toKeeps.mono (by decide))
  refine Keeps.trans ?_ ((raiseIf_keeps ..).mono (by decide))
  exact (withDir_same _ _).toKeeps.mono (by decide)

theorem fixedDetourCompletion_storeOk : editStoreOk (fixedDetourCompletion s) := by
  unfold fixedDetourCompletion
  split
  case h_2 => exact h
  rename_i f hf
  dsimp only
  have hne : s.plan.edit ≠ .committing := h.1.edit_ne_committing fun n => by
    rw [hf]
    exact nofun
  refine editStoreOk.of_keeps ?_ (((trigger_keeps _).mono (gs := [.routes, .stranded, .dir, .segs, .ports]) (by decide)).trans
    ((completeOp_same ..).toKeeps.mono (by decide))) (by decide)
  exact ⟨.finishWrite h.1.plan hne h.1.edit.2 rfl, h.2⟩

/-- A latch write completes: the plan edit and the condition table had no write about. -/
theorem storeLatch_storeOk {w : LatchWrite} (hi : s.store.inFlight = some (.latch w)) (x : Latch) :
    editStoreOk (s.storeLatch x) := by
  refine ⟨.finishWrite h.1.plan (h.1.edit_ne_committing fun n => ?_) h.1.edit.2 (h.1.writing_eq_none fun f => ?_), h.2⟩
  · rw [hi]
    exact nofun
  · rw [hi]
    exact nofun

theorem latchSetCompletion_storeOk : editStoreOk (latchSetCompletion s) := by
  unfold latchSetCompletion
  split
  · exact storeLatch_storeOk h ‹_› _
  · exact h

theorem latchClearCompletion_storeOk : editStoreOk (latchClearCompletion s) := by
  unfold latchClearCompletion
  split
  · have hl := storeLatch_storeOk h ‹_› ⟨false, false⟩
    dsimp only
    split
    · exact hl.returnToQuiet
    · exact hl
  · exact h

theorem settingsCompletion_storeOk : editStoreOk (settingsCompletion s) := by
  unfold settingsCompletion
  split
  case h_2 => exact h
  rename_i w hw
  have hne : s.plan.edit ≠ .committing := h.1.edit_ne_committing fun n => by
    rw [hw]
    exact nofun
  have hwriting : s.cond.writing = none := h.1.writing_eq_none fun f => by
    rw [hw]
    exact nofun
  refine editStoreOk.of_keeps (fs := [.ports]) ?_ (modPort_keeps ..) (by decide)
  unfold State.applySettings
  split
  · exact ⟨.finishWrite h.1.plan hne h.1.edit.2 hwriting, h.2⟩
  · exact ⟨.finishWrite h.1.plan hne h.1.edit.2 hwriting, h.2⟩
  · exact ⟨.finishWrite h.1.plan hne h.1.edit.2 hwriting, h.2⟩

theorem tick_storeOk : editStoreOk s.tick := ⟨h.1.of_eq rfl rfl rfl, h.2⟩

end

theorem startBlocks_storeOk {st : RetainedStore} (hi : st.inFlight = none) (hw : st.waiting = none) (line : Bool) (n : Nat)
    (q : List Instr) : editStoreOk (startBlocks st line n q) := by
  have hin : (startBlocks st line n q).store.inFlight = none := hi
  refine ⟨.of_calm rfl (fun h => ?_) (fun n => ?_) nofun (fun _ => rfl) (fun f => ?_) rfl, nofun⟩
  · exact absurd hw (Option.isSome_iff_ne_none.mp h)
  · rw [hin]
    exact nofun
  · rw [hin]
    exact nofun

theorem reset_storeOk {s t : State} (h : exec .reset s = .next t) : editStoreOk t := by
  cases h
  refine editStoreOk.of_keeps (fs := [.routes, .stranded, .ports])
    (startBlocks_storeOk (st := s.store.afterReset s.freeCount) rfl rfl s.alarmLine (s.freeCount + freeValuesPerReset)
      s.pending) ?_ (by decide)
  exact ((withDests_keeps ..).mono (by decide)).trans (((startComputation_keeps _).mono (by decide)).trans
    ((strandedAtStart_keeps _).mono (by decide)))

/-! ## Every command -/

theorem exec_storeOk {c : Instr} {s t : State} (h : exec c s = .next t) (hs : editStoreOk s) : editStoreOk t := by
  have hports : ∀ {u v}, Keeps [.ports, .confirm] u v → editStoreOk u → editStoreOk v := fun hk hu => hu.of_keeps hk (by decide)
  revert hs
  refine exec_cases (P := fun s t => editStoreOk s → editStoreOk t) (fun s t hk hs => hs.of_keeps hk (by decide))
    (fun c s t hf hr h hs => ?_)
    (fun s t h _ => reset_storeOk h) h
  have hbegin : editStoreOk s.begin := hs.of_keeps (begin_keeps s) (by decide)
  cases c
  case planOpen =>
    exact execRequest_pred hports h hs fun u hu => parsed_state hu fun _ => planOpen_storeOk hu _
  case planWrite => exact execRequest_pred hports h hs fun u hu => planWrite_storeOk hu _
  case planAbandon => exact execRequest_pred hports h hs fun u hu => planAbandon_storeOk hu
  case planCommit => exact execRequest_pred hports h hs fun u hu => planCommit_storeOk hu _
  case bind =>
    exact execRequest_pred hports h hs fun u hu => parsed_state hu fun _ => bindDisplay_storeOk hu ..
  case setMusterTimers =>
    exact execRequest_pred hports h hs fun u hu => parsed_state hu fun _ => setMusterTimers_storeOk hu ..
  case setLinkTimeout =>
    exact execRequest_pred hports h hs fun u hu => parsed_state hu fun _ => setLinkTimeout_storeOk hu ..
  case fixedDetour =>
    refine execRequest_pred hports h hs fun u hu => ?_
    have hu' := hu.of_keeps (abandonConfirm_keeps u) (by decide)
    exact parsed_state (P := editStoreOk) hu' fun _ => fixedDetour_storeOk hu' ..
  case alert => exact execRequest_pred hports h hs fun u hu => parsed_state hu fun _ => alert_storeOk hu _
  case cancelAlert => exact execRequest_pred hports h hs fun u hu => cancelAlert_storeOk hu
  case muster => exact execRequest_pred hports h hs fun u hu => parsed_state hu fun _ => musterRequest_storeOk hu _
  case standdown => exact execRequest_pred hports h hs fun u hu => standdown_storeOk hu
  case reset => exact absurd rfl hr
  case generalAlarmEvent => cases h; exact generalAlarm_storeOk hbegin
  case overdueTimerExpiry => cases h; exact overdueExpiry_storeOk hbegin
  case standDownHoldExpiry => cases h; exact holdExpiry_storeOk hbegin
  case commitCompletion => cases h; exact commitCompletion_storeOk hbegin
  case bindCompletion => cases h; exact bindCompletion_storeOk hbegin
  case fixedDetourCompletion => cases h; exact fixedDetourCompletion_storeOk hbegin
  case latchSetCompletion => cases h; exact latchSetCompletion_storeOk hbegin
  case latchClearCompletion => cases h; exact latchClearCompletion_storeOk hbegin
  case settingsWriteCompletion => cases h; exact settingsCompletion_storeOk hbegin
  case unknownKind | badCrcFrame | frameWhileBusy | startByte | lengthOutOfRange => exact absurd hf.symm Bool.false_ne_true
  all_goals exact hs.of_keeps (execPlain_keeps hf hr h) (by simp only [facets]; decide)

/-- Settles O55: the invariant of the store and the edit, kept by the passing second and by every command. -/
theorem storeAndEditInvariantIsKept : Obligations.StoreAndEditInvariantIsKept := by
  intro s t hplan horder hedit hquiet hdetour hstep
  have hs : editStoreOk s := ⟨⟨hplan, horder, hedit, hdetour⟩, hquiet⟩
  have ht : editStoreOk t := by
    rcases step_cases hstep with rfl | ⟨c, rest, h⟩
    · exact tick_storeOk hs
    · exact exec_storeOk h ⟨hs.1.of_eq rfl rfl rfl, hs.2⟩
  obtain ⟨⟨h1, h2, h3, h4⟩, h5⟩ := ht
  exact ⟨h1, h2, h3, h5, h4⟩

end Sys2Proof.Machine
end


section
/-! PROOFS. The muster invariant (R46, R59, R62, R93, R105 to R109, R113, R116), in three parts: the engine's marks, the tally,
and the latch with the timers and the profile. -/

namespace Sys2Proof.Machine

/-! ## The engine's activity and mark -/

/-- No computation runs or is due in PLANLESS operation, and a mark stands only during a computation. -/
def engineOk (s : State) : Prop := planlessIdle s ∧ markInFlight s

theorem engineOk.of_eq {s t : State} (h : engineOk s) (hp : t.plan.active = s.plan.active)
    (ha : t.route.activity = s.route.activity) (hm : t.route.pending = s.route.pending) : engineOk t := by
  obtain ⟨hidle, hmark⟩ := h
  constructor
  · rwa [planlessIdle, hp, ha, hm]
  · rwa [markInFlight, ha, hm]

theorem engineOk.of_keeps {fs : List Facet} {s t : State} (h : engineOk s) (hk : Keeps fs s t)
    (hfs : Facet.active ∉ fs ∧ Facet.routes ∉ fs) : engineOk t := by
  have hr : t.route = { s.route with profile := t.route.profile } := hk.keeps .routes hfs.2
  exact h.of_eq (hk.keeps .active hfs.1) (by rw [hr]) (by rw [hr])

/-- A state whose mark is clear and that has a plan, or no computation. -/
theorem engineOk.of_clear {s : State} (hm : s.route.pending = false) (ha : s.plan.active = none → s.route.activity = .idle) :
    engineOk s :=
  ⟨fun hp => ⟨ha hp, hm⟩, fun h => absurd (hm.symm.trans h) Bool.false_ne_true⟩

section
variable {s : State}

/-- Whatever it started from, a started computation leaves the engine in order. -/
theorem startComputation_engineOk (s : State) : engineOk s.startComputation := by
  have hplan : s.startComputation.plan = s.plan := State.startComputation_plan s
  refine .of_clear ?_ fun hp => ?_
  · unfold State.startComputation
    split
    · rfl
    · dsimp only
      split <;> rfl
  · rw [hplan] at hp
    simp [State.startComputation, hp]

theorem runComputation_engineOk (s : State) : engineOk s.runComputation := by
  unfold State.runComputation
  split
  · exact (startComputation_engineOk s).of_keeps (handPublication_keeps _) (by decide)
  · exact startComputation_engineOk s

theorem engineOk.trigger (h : engineOk s) : engineOk s.trigger := by
  unfold State.trigger
  split
  · exact h
  · rename_i a ha
    split
    · exact runComputation_engineOk s
    · rename_i sn hsn
      refine ⟨fun hp => (nomatch ha.symm.trans hp), fun _ => ?_⟩
      change s.route.activity ≠ .idle
      rw [hsn]
      exact nofun

theorem engineOk.triggerIf (h : engineOk s) (c : Bool) : engineOk (s.triggerIf c) := by
  unfold State.triggerIf
  split
  · exact h.trigger
  · exact h

theorem engineOk.rebuildDests (h : engineOk s) : engineOk s.rebuildDests := by
  unfold State.rebuildDests
  split
  · exact h
  · exact (h.of_eq (t := { s with route := { s.route with dests := s.destList } }) rfl rfl rfl).trigger

theorem engineOk.changeProfile (h : engineOk s) (p : Profile) : engineOk (s.changeProfile p) := by
  unfold State.changeProfile
  split
  · exact h
  · exact startComputation_engineOk _

theorem engineOk.handMuster (h : engineOk s) (m : MusterState) : engineOk (s.handMuster m) := by
  unfold State.handMuster
  dsimp only
  have h1 : engineOk (if isEntry m s.muster.state then s.closeEdit else s) := by
    split
    · exact h.of_keeps (closeEdit_keeps s) (by decide)
    · exact h
  generalize (if isEntry m s.muster.state = true then s.closeEdit else s) = s1 at h1 ⊢
  have h2 := h1.changeProfile s1.muster.state.profile
  refine h2.of_keeps (fs := [.dir, .segs, .stranded, .ports]) ?_ (by decide)
  refine Keeps.trans ?_ ((raise_keeps ..).mono (by decide))
  have h3 := Keeps.ite (c := isEntry m s.muster.state = true)
    ((composes_keeps (composeEntry_composes (s1.changeProfile s1.muster.state.profile))).mono
      (gs := [.dir, .segs, .stranded, .ports]) (by decide)) ((composes_keeps (composeAll_composes _)).mono (by decide))
  exact Keeps.ite h3 (h3.trans ((strandedAtStart_keeps _).mono (by decide)))

theorem engineOk.handProgramme (h : engineOk s) (vs : List Nat) : engineOk (s.handProgramme vs) := by
  unfold State.handProgramme
  split
  · exact h
  · exact (h.of_keeps (withChoice_keeps s s.prog.venues s.prog.onBoard vs) (by decide)).rebuildDests

theorem engineOk.chooseAfresh (h : engineOk s) (old : Table Event) : engineOk (s.chooseAfresh old) :=
  ((h.of_keeps (withChoice_keeps s _ _ s.prog.programme) (by decide)).handProgramme _).of_keeps
    (composes_keeps (composePlacements_composes ..)) (by decide)

theorem engineOk.evaluateMinute (h : engineOk s) (n : Nat) : engineOk (s.evaluateMinute n) :=
  ((h.of_keeps (withEvents_keeps ..) (by decide)).chooseAfresh _).of_keeps (expireNotices_keeps ..) (by decide)

theorem engineOk.storeEvent (h : engineOk s) (id : Nat) (e : Event) : engineOk (s.storeEvent id e) :=
  (h.of_keeps (withEvents_keeps ..) (by decide)).chooseAfresh _

theorem engineOk.dropEvent (h : engineOk s) (id : Nat) : engineOk (s.dropEvent id) :=
  (h.of_keeps (withEvents_keeps ..) (by decide)).chooseAfresh _

theorem engineOk.withMuster (h : engineOk s) (m : MusterController) : engineOk { s with muster := m } := h.of_eq rfl rfl rfl

theorem engineOk.enterMuster (h : engineOk s) (d : Bool) : engineOk (s.enterMuster d) :=
  (((h.withMuster _).of_keeps (retally_keeps _) (by decide)).of_keeps (requestLatch_keeps ..) (by decide)).handMuster _

theorem engineOk.resume (h : engineOk s) (d : Bool) : engineOk (s.resume d) := by
  unfold State.resume
  refine engineOk.handMuster ?_ _
  exact (h.withMuster _).of_keeps (fs := [.store]) (Keeps.ite (requestLatch_keeps ..) (Keeps.refl ..)) (by decide)

theorem engineOk.clearDrill (h : engineOk s) : engineOk s.clearDrill := by
  unfold State.clearDrill
  refine engineOk.handMuster ?_ _
  exact (h.withMuster _).of_keeps (fs := [.store]) (Keeps.ite (requestLatch_keeps ..) (Keeps.refl ..)) (by decide)

theorem engineOk.returnToQuiet (h : engineOk s) : engineOk s.returnToQuiet :=
  ((h.withMuster _).of_keeps (retally_keeps _) (by decide)).handMuster _

theorem engineOk.alarmEvent (h : engineOk s) : engineOk s.alarmEvent := by
  have hr : engineOk (s.raise .safety .musterByLine) := h.of_keeps (raise_keeps ..) (by decide)
  unfold State.alarmEvent
  dsimp only
  split
  · exact hr.enterMuster _
  · exact hr.enterMuster _
  · split
    · exact hr.clearDrill
    · exact hr
  · exact hr.resume _

end

section
variable {s : State} (h : engineOk s)
include h

theorem setCondition_engineOk (ps : List (Nat × Nat)) : engineOk (setCondition ps s).state := by
  unfold setCondition
  split
  · split
    · exact h
    · exact (h.of_keeps (withConditions_keeps s _ s.cond.slots s.cond.remainders) (by decide)).triggerIf _
  · exact h

theorem softDetourSet_engineOk (f : DetourFields) : engineOk (softDetourSet f s).state := by
  unfold softDetourSet
  split
  · exact h
  · split
    · exact h
    · split
      · exact h
      · exact (h.of_keeps (withConditions_keeps s s.cond.edges _ s.cond.remainders) (by decide)).trigger

theorem softDetourClear_engineOk (z : Nat) : engineOk (softDetourClear z s).state := by
  unfold softDetourClear
  split
  · exact h
  · split
    · exact h
    · split
      · exact h
      · split
        · exact h
        · exact (h.of_keeps (withConditions_keeps s s.cond.edges _ s.cond.remainders) (by decide)).trigger

theorem remainderSet_engineOk (l : LinkId) (xs : List RemainderItem) : engineOk (remainderSet l xs s).state := by
  unfold remainderSet
  split
  · split
    · exact h
    · exact (h.of_keeps (withConditions_keeps s s.cond.edges s.cond.slots _) (by decide)).triggerIf _
  · exact h

theorem remainderClear_engineOk (l : LinkId) (n : Nat) : engineOk (remainderClear l n s).state := by
  unfold remainderClear
  split
  · exact h
  · split
    · exact h
    · exact (h.of_keeps (withConditions_keeps s s.cond.edges s.cond.slots _) (by decide)).triggerIf _

theorem setClock_engineOk (m n : Nat) : engineOk (setClock m n s).state :=
  (h.of_keeps (withClock_keeps ..) (by decide)).evaluateMinute _

theorem setLookahead_engineOk (n : Nat) : engineOk (setLookahead n s).state := by
  unfold setLookahead
  dsimp only
  split
  · exact h
  · exact (h.of_keeps (withSettings_keeps s s.prog.offset _ s.prog.primary s.prog.secondary) (by decide)).chooseAfresh _

theorem eventAdd_engineOk (b : EventAddBody) : engineOk (eventAdd b s).state := by
  unfold eventAdd
  split
  · exact h
  · split
    · exact h
    · split
      · exact h
      · exact h.storeEvent ..

theorem eventModify_engineOk (b : EventModifyBody) : engineOk (eventModify b s).state := by
  unfold eventModify
  split
  · exact h
  · dsimp only
    split
    · exact h
    · exact h
    · split
      · exact h
      · split
        · exact h
        · exact h.storeEvent ..
    · split
      · exact h
      · exact h.storeEvent ..

theorem eventCancel_engineOk (id : Nat) : engineOk (eventCancel id s).state := by
  unfold eventCancel
  split
  · exact h
  · split
    · exact h
    · exact h
    · exact h.storeEvent ..

theorem eventDelete_engineOk (id : Nat) : engineOk (eventDelete id s).state := by
  unfold eventDelete
  split
  · exact h.dropEvent _
  · exact h

theorem alert_engineOk (d : Bool) : engineOk (alert d s).state := by
  unfold alert
  split
  · exact (h.withMuster _).handMuster _
  · split
    · exact h
    · split
      · exact h
      · exact h.clearDrill
  · exact h

theorem cancelAlert_engineOk : engineOk (cancelAlert s).state := by
  unfold cancelAlert
  split
  · exact (h.withMuster _).handMuster _
  · exact h

theorem musterRequest_engineOk (d : Bool) : engineOk (musterRequest d s).state := by
  unfold musterRequest
  split
  · exact h.enterMuster d
  · split
    · exact h
    · exact h.enterMuster d
  · split
    · exact h
    · split
      · exact h
      · exact h.clearDrill
  · split
    · exact h
    · exact h.resume d

theorem standdown_engineOk : engineOk (standdown s).state := by
  unfold standdown
  split
  · exact (h.withMuster _).handMuster _
  · exact h

theorem generalAlarm_engineOk : engineOk (generalAlarm s) := by
  unfold generalAlarm
  split
  · exact (h.withMuster { s.muster with watch := .given }).alarmEvent
  · exact h

theorem bindCompletion_engineOk : engineOk (bindCompletion s) := by
  unfold bindCompletion
  split
  case h_2 => exact h
  rename_i p i l _
  dsimp only
  have hb : engineOk (bindPlans p i l s) := by
    refine ⟨fun hp => h.1 ?_, h.2⟩
    simpa [bindPlans] using hp
  refine hb.of_keeps (fs := [.store, .dir, .segs, .records, .ports]) ?_ (by decide)
  refine Keeps.trans ?_ ((composes_keeps (composeWhere_composes ..)).mono (by decide))
  refine Keeps.trans ?_ ((completeOp_same ..).toKeeps.mono (by decide))
  refine Keeps.trans ?_ ((raiseIf_keeps ..).mono (by decide))
  refine Keeps.trans ?_ ((withDir_same _ _).toKeeps.mono (by decide))
  exact (finishWrite_same _).toKeeps.mono (by decide)

theorem commitCompletion_engineOk : engineOk (commitCompletion s) := by
  unfold commitCompletion
  split
  case h_2 => exact h
  dsimp only
  generalize commitSelection _ = u
  refine engineOk.of_keeps (s := commitRoutes u) (fs := [.dir, .segs, .ports, .stranded]) (startComputation_engineOk _) ?_
    (by decide)
  refine Keeps.trans ?_ ((strandedAtStart_keeps _).mono (by decide))
  refine Keeps.trans ?_ ((composes_keeps (composeAll_composes _)).mono (by decide))
  refine Keeps.trans ?_ ((raise_keeps ..).mono (by decide))
  refine Keeps.trans ?_ ((raise_keeps ..).mono (by decide))
  exact (completeOp_same ..).toKeeps.mono (by decide)

theorem fixedDetourCompletion_engineOk : engineOk (fixedDetourCompletion s) := by
  unfold fixedDetourCompletion
  split
  case h_2 => exact h
  dsimp only
  refine engineOk.of_keeps (fs := [.ports]) ?_ (completeOp_same ..).toKeeps (by decide)
  refine engineOk.trigger (engineOk.of_keeps (fs := [.store]) ?_ (finishWrite_same _).toKeeps (by decide))
  exact h.of_eq rfl rfl rfl

theorem latchClearCompletion_engineOk : engineOk (latchClearCompletion s) := by
  unfold latchClearCompletion
  split
  · have hl := h.of_keeps (storeLatch_keeps s ⟨false, false⟩) (by decide)
    dsimp only
    split
    · exact hl.returnToQuiet
    · exact hl
  · exact h

/-- The mark that stood during the computation starts the next one. -/
theorem computationCompletion_engineOk : engineOk (computationCompletion s) := by
  unfold computationCompletion
  split
  · exact h
  · rename_i sn hsn
    unfold State.resumeComputation
    split
    · exact runComputation_engineOk _
    · rename_i hmark
      exact .of_clear (Bool.not_eq_true _ ▸ hmark) fun hp => by
        have hr : (s.publish sn).handPublication.route = _ := (handPublication_keeps (s.publish sn)).keeps .routes (by decide)
        rw [hr]
        rfl

theorem minuteEvent_engineOk : engineOk (minuteEvent s) := by
  unfold minuteEvent
  split
  · exact h
  · split
    · exact (h.of_keeps (withClock_keeps ..) (by decide)).evaluateMinute _
    · exact h

end

theorem exec_engineOk {c : Instr} {s t : State} (h : exec c s = .next t) (hs : engineOk s) : engineOk t := by
  have hports : ∀ {u v}, Keeps [.ports, .confirm] u v → engineOk u → engineOk v := fun hk hu => hu.of_keeps hk (by decide)
  revert hs
  refine exec_cases (P := fun s t => engineOk s → engineOk t) (fun s t hk hs => hs.of_keeps hk (by decide))
    (fun c s t hf hr h hs => ?_)
    (fun s t h _ => ?_) h
  · have hbegin : engineOk s.begin := hs.of_keeps (begin_keeps s) (by decide)
    cases c
    case setCondition => exact execRequest_pred hports h hs fun u hu => parsed_state hu fun _ => setCondition_engineOk hu _
    case softDetourSet => exact execRequest_pred hports h hs fun u hu => parsed_state hu fun _ => softDetourSet_engineOk hu _
    case softDetourClear => exact execRequest_pred hports h hs fun u hu => parsed_state hu fun _ => softDetourClear_engineOk hu _
    case remainderSet => exact execRequest_pred hports h hs fun u hu => parsed_state hu fun _ => remainderSet_engineOk hu ..
    case remainderClear => exact execRequest_pred hports h hs fun u hu => parsed_state hu fun _ => remainderClear_engineOk hu ..
    case setClock => exact execRequest_pred hports h hs fun u hu => parsed_state hu fun _ => setClock_engineOk hu ..
    case setLookahead => exact execRequest_pred hports h hs fun u hu => parsed_state hu fun _ => setLookahead_engineOk hu _
    case eventAdd => exact execRequest_pred hports h hs fun u hu => parsed_state hu fun _ => eventAdd_engineOk hu _
    case eventModify => exact execRequest_pred hports h hs fun u hu => parsed_state hu fun _ => eventModify_engineOk hu _
    case eventCancel => exact execRequest_pred hports h hs fun u hu => parsed_state hu fun _ => eventCancel_engineOk hu _
    case eventDelete => exact execRequest_pred hports h hs fun u hu => parsed_state hu fun _ => eventDelete_engineOk hu _
    case alert => exact execRequest_pred hports h hs fun u hu => parsed_state hu fun _ => alert_engineOk hu _
    case cancelAlert => exact execRequest_pred hports h hs fun u hu => cancelAlert_engineOk hu
    case muster => exact execRequest_pred hports h hs fun u hu => parsed_state hu fun _ => musterRequest_engineOk hu _
    case standdown => exact execRequest_pred hports h hs fun u hu => standdown_engineOk hu
    case generalAlarmEvent => cases h; exact generalAlarm_engineOk hbegin
    case commitCompletion => cases h; exact commitCompletion_engineOk hbegin
    case bindCompletion => cases h; exact bindCompletion_engineOk hbegin
    case fixedDetourCompletion => cases h; exact fixedDetourCompletion_engineOk hbegin
    case latchClearCompletion => cases h; exact latchClearCompletion_engineOk hbegin
    case computationCompletion => cases h; exact computationCompletion_engineOk hbegin
    case minuteEvent => cases h; exact minuteEvent_engineOk hbegin
    case reset => exact absurd rfl hr
    case unknownKind | badCrcFrame | frameWhileBusy | startByte | lengthOutOfRange => exact absurd hf.symm Bool.false_ne_true
    all_goals exact hs.of_keeps (execPlain_keeps hf hr h) (by simp only [facets]; decide)
  · cases h
    exact engineOk.of_keeps (fs := [.stranded, .ports]) (startComputation_engineOk _) (strandedAtStart_keeps _) (by decide)

end Sys2Proof.Machine
end


section
/-! PROOFS. The muster invariant: the tally, the latch, the timers and the profile. -/

namespace Sys2Proof.Machine

/-! ## The tally (R113) -/

theorem tallyCounts.of_eq {s t : State} (h : tallyCounts s) (ha : t.plan.active = s.plan.active)
    (hc : t.muster.cabins = s.muster.cabins) (ht : t.muster.tally = s.muster.tally) : tallyCounts t := by
  unfold tallyCounts State.tallyNow State.activePlan at *
  rw [ha, hc, ht, h]

theorem tallyCounts.of_keeps {fs : List Facet} {s t : State} (h : tallyCounts s) (hk : Keeps fs s t)
    (hfs : Facet.active ∉ fs ∧ Facet.cabins ∉ fs) : tallyCounts t := by
  obtain ⟨hc, ht, -⟩ := hk.keeps .cabins hfs.2
  exact h.of_eq (hk.keeps .active hfs.1) hc ht

/-- The tally counts the cabins after it has followed, whatever it was. -/
theorem retally_tallyCounts (s : State) : tallyCounts s.retally := by
  unfold State.retally
  dsimp only
  split
  · rename_i h
    exact h.symm
  · unfold tallyCounts State.tallyNow State.activePlan
    rw [State.raiseIf_muster, State.raiseIf_plan]

section
variable {s : State}

theorem tallyCounts.handMuster (h : tallyCounts s) (m : MusterState) : tallyCounts (s.handMuster m) :=
  h.of_keeps (handMuster_keeps s m) (by decide)

theorem tallyCounts.changeCabin (h : tallyCounts s) (i : Nat) (c : CabinState) (k : Option Nat) :
    tallyCounts (s.changeCabin i c k) := by
  unfold State.changeCabin
  split
  · exact h
  · refine tallyCounts.of_keeps (fs := [.dir, .segs, .stranded, .ports]) (retally_tallyCounts (s.setCabin i c)) ?_ (by decide)
    refine Keeps.trans ?_ ((composes_keeps (composeCabin_composes ..)).mono (by decide))
    exact Keeps.ite (Keeps.refl ..) ((rebuildStranded_keeps _).mono (by decide))

theorem enterMuster_tallyCounts (s : State) (d : Bool) : tallyCounts (s.enterMuster d) :=
  ((retally_tallyCounts _).of_keeps (requestLatch_keeps ..) (by decide)).handMuster _

theorem tallyCounts.resume (h : tallyCounts s) (d : Bool) : tallyCounts (s.resume d) := by
  unfold State.resume
  refine tallyCounts.handMuster ?_ _
  refine tallyCounts.of_keeps (fs := [.store]) ?_ (Keeps.ite (requestLatch_keeps ..) (Keeps.refl ..)) (by decide)
  exact h.of_eq rfl rfl rfl

theorem tallyCounts.clearDrill (h : tallyCounts s) : tallyCounts s.clearDrill := by
  unfold State.clearDrill
  refine tallyCounts.handMuster ?_ _
  refine tallyCounts.of_keeps (fs := [.store]) ?_ (Keeps.ite (requestLatch_keeps ..) (Keeps.refl ..)) (by decide)
  exact h.of_eq rfl rfl rfl

theorem tallyCounts.vacate (h : tallyCounts s) (k c : Nat) : tallyCounts (s.vacate k c) := by
  unfold State.vacate
  dsimp only
  split
  · exact h.changeCabin ..
  · exact h

theorem tallyCounts.handPress (h : tallyCounts s) (k c : Nat) (x : PressCode) (o : Bool) : tallyCounts (s.handPress k c x o) := by
  unfold State.handPress
  dsimp only
  split
  · exact h.vacate ..
  · split
    · exact (h.changeCabin ..).of_keeps (offerGuest_keeps ..) (by decide)
    · exact h
  · split
    · exact (h.changeCabin ..).of_keeps (offerGuest_keeps ..) (by decide)
    · exact h

/-- Binding changes no cabin and no station. -/
theorem setExpected_cabins (p : Plan) (k : Nat) (e : Option Identity) : (setExpected p k e).cabins = p.cabins := by
  unfold setExpected
  split <;> rfl

theorem applyBind_cabins (p : Plan) (k : Nat) (i : Identity) (l : Option Nat) : (applyBind p k i l).cabins = p.cabins := by
  unfold applyBind
  rw [setExpected_cabins]
  split
  · exact setExpected_cabins ..
  · rfl

theorem computeTally_congr {p q : Plan} (h : p.cabins = q.cabins) (cs : Table CabinState) :
    computeTally p cs = computeTally q cs := by
  unfold computeTally tallyAt occupiedAt cabinStation
  rw [h]

end

section
variable {s : State} (h : tallyCounts s)
include h

theorem alert_tallyCounts (d : Bool) : tallyCounts (alert d s).state := by
  unfold alert
  split
  · refine tallyCounts.handMuster ?_ _
    exact h.of_eq rfl rfl rfl
  · split
    · exact h
    · split
      · exact h
      · exact h.clearDrill
  · exact h

theorem cancelAlert_tallyCounts : tallyCounts (cancelAlert s).state := by
  unfold cancelAlert
  split
  · refine tallyCounts.handMuster ?_ _
    exact h.of_eq rfl rfl rfl
  · exact h

theorem musterRequest_tallyCounts (d : Bool) : tallyCounts (musterRequest d s).state := by
  unfold musterRequest
  split
  · exact enterMuster_tallyCounts ..
  · split
    · exact h
    · exact enterMuster_tallyCounts ..
  · split
    · exact h
    · split
      · exact h
      · exact h.clearDrill
  · split
    · exact h
    · exact h.resume d

theorem standdown_tallyCounts : tallyCounts (standdown s).state := by
  unfold standdown
  split
  · refine tallyCounts.handMuster ?_ _
    exact h.of_eq rfl rfl rfl
  · exact h

theorem assignCabin_tallyCounts (n : Nat) (st : Option Nat) : tallyCounts (assignCabin n st s).state := by
  unfold assignCabin
  split
  · exact h
  · split
    · exact h
    · split
      · exact h.changeCabin ..
      · exact h

theorem markCabin_tallyCounts (n : Nat) (v : Vacated) : tallyCounts (markCabin n v s).state := by
  unfold markCabin
  split
  · exact h
  · split
    · exact h
    · exact h
    · split
      · exact h
      · exact h.changeCabin ..

theorem cabinGuests_tallyCounts (b : CabinGuestsBody) : tallyCounts (cabinGuests b s).state := by
  unfold cabinGuests
  split
  · exact h
  · exact h.changeCabin ..

theorem generalAlarm_tallyCounts : tallyCounts (generalAlarm s) := by
  unfold generalAlarm
  split
  case h_2 => exact h
  have hr : tallyCounts (State.raise { s with muster := { s.muster with watch := .given } } .safety .musterByLine) :=
    h.of_eq rfl rfl rfl
  unfold State.alarmEvent
  dsimp only
  split
  · exact enterMuster_tallyCounts ..
  · exact enterMuster_tallyCounts ..
  · split
    · exact hr.clearDrill
    · exact hr
  · exact hr.resume _

theorem commitCompletion_tallyCounts : tallyCounts (commitCompletion s) := by
  unfold commitCompletion
  split
  case h_2 => exact h
  rename_i n _
  dsimp only
  generalize (commitMatch (commitCarry s.activePlan (commitConditions (commitStore n s)))).finishWrite = u
  refine tallyCounts.of_keeps (fs := [.prog, .routes, .ports, .dir, .segs, .stranded]) (retally_tallyCounts u) ?_ (by decide)
  refine Keeps.trans ?_ ((strandedAtStart_keeps _).mono (by decide))
  refine Keeps.trans ?_ ((composes_keeps (composeAll_composes _)).mono (by decide))
  refine Keeps.trans ?_ ((raise_keeps ..).mono (by decide))
  refine Keeps.trans ?_ ((raise_keeps ..).mono (by decide))
  refine Keeps.trans ?_ ((completeOp_same ..).toKeeps.mono (by decide))
  refine Keeps.trans ?_ ((commitRoutes_keeps _).mono (by decide))
  exact (withChoice_keeps _ _ _ (State.prog _).programme).mono (by decide)

theorem bindCompletion_tallyCounts : tallyCounts (bindCompletion s) := by
  unfold bindCompletion
  split
  case h_2 => exact h
  rename_i p i l _
  dsimp only
  have hb : tallyCounts (bindPlans p i l s) := by
    refine Eq.trans h (computeTally_congr ?_ _)
    unfold State.activePlan bindPlans
    cases s.plan.active with
    | none => rfl
    | some a => exact (applyBind_cabins ..).symm
  refine hb.of_keeps (fs := [.store, .dir, .segs, .records, .ports]) ?_ (by decide)
  refine Keeps.trans ?_ ((composes_keeps (composeWhere_composes ..)).mono (by decide))
  refine Keeps.trans ?_ ((completeOp_same ..).toKeeps.mono (by decide))
  refine Keeps.trans ?_ ((raiseIf_keeps ..).mono (by decide))
  refine Keeps.trans ?_ ((withDir_same _ _).toKeeps.mono (by decide))
  exact (finishWrite_same _).toKeeps.mono (by decide)

theorem latchClearCompletion_tallyCounts : tallyCounts (latchClearCompletion s) := by
  unfold latchClearCompletion
  split
  · dsimp only
    split
    · exact (retally_tallyCounts _).handMuster _
    · exact h.of_keeps (storeLatch_keeps ..) (by decide)
  · exact h

theorem dispatch_tallyCounts : tallyCounts (dispatch s) := by
  unfold dispatch
  split
  case h_1 => exact h
  rename_i e rest _
  dsimp only
  have hu : ∀ u : State, tallyCounts u → tallyCounts (u.dispatchKind (recKey e.seg e.addr) e) := by
    intro u hu
    unfold State.dispatchKind
    dsimp only
    split
    · exact hu.of_keeps (fs := [.dir, .records]) (Keeps.ite (clearBusy_same ..).toKeeps
        (Keeps.ite (setDisplay_same ..).toKeeps (Keeps.refl ..))) (by decide)
    · exact hu.of_keeps (fs := [.dir, .segs, .records, .ports])
        (Keeps.ite ((enterHeld_same ..).toKeeps.mono (by decide)) (Keeps.refl ..)) (by decide)
    · split
      · exact hu.handPress ..
      · exact hu
  refine hu _ ?_
  refine tallyCounts.of_keeps (s := { s with bus := { s.bus with inbound := rest } }) (fs := [.dir, .records])
    (h.of_eq rfl rfl rfl) ?_ (by decide)
  exact Keeps.ite (clearBusy_same ..).toKeeps (Keeps.refl ..)

end

theorem startUp_tallyCounts (st : RetainedStore) (line : Bool) (n : Nat) (q : List Instr) :
    tallyCounts (startUp st line n q) := by
  have hstart : tallyCounts (startBlocks st line n q) := rfl
  refine hstart.of_keeps (fs := [.routes, .stranded, .ports]) ?_ (by decide)
  exact ((withDests_keeps ..).mono (by decide)).trans (((startComputation_keeps _).mono (by decide)).trans
    ((strandedAtStart_keeps _).mono (by decide)))

theorem exec_tallyCounts {c : Instr} {s t : State} (h : exec c s = .next t) (hs : tallyCounts s) : tallyCounts t := by
  have hports : ∀ {u v}, Keeps [.ports, .confirm] u v → tallyCounts u → tallyCounts v := fun hk hu => hu.of_keeps hk (by decide)
  revert hs
  refine exec_cases (P := fun s t => tallyCounts s → tallyCounts t) (fun s t hk hs => hs.of_keeps hk (by decide))
    (fun c s t hf hr h hs => ?_) (fun s t h _ => ?_) h
  · have hbegin : tallyCounts s.begin := hs.of_keeps (begin_keeps s) (by decide)
    cases c
    case alert => exact execRequest_pred hports h hs fun u hu => parsed_state hu fun _ => alert_tallyCounts hu _
    case cancelAlert => exact execRequest_pred hports h hs fun u hu => cancelAlert_tallyCounts hu
    case muster => exact execRequest_pred hports h hs fun u hu => parsed_state hu fun _ => musterRequest_tallyCounts hu _
    case standdown => exact execRequest_pred hports h hs fun u hu => standdown_tallyCounts hu
    case assignCabinStation =>
      exact execRequest_pred hports h hs fun u hu => parsed_state hu fun _ => parsed_state hu fun _ =>
        assignCabin_tallyCounts hu ..
    case markCabin =>
      exact execRequest_pred hports h hs fun u hu => parsed_state hu fun _ => parsed_state hu fun _ =>
        markCabin_tallyCounts hu ..
    case cabinGuests => exact execRequest_pred hports h hs fun u hu => parsed_state hu fun _ => cabinGuests_tallyCounts hu _
    case generalAlarmEvent => cases h; exact generalAlarm_tallyCounts hbegin
    case commitCompletion => cases h; exact commitCompletion_tallyCounts hbegin
    case bindCompletion => cases h; exact bindCompletion_tallyCounts hbegin
    case latchClearCompletion => cases h; exact latchClearCompletion_tallyCounts hbegin
    case dispatch => cases h; exact dispatch_tallyCounts hbegin
    case reset => exact absurd rfl hr
    case unknownKind | badCrcFrame | frameWhileBusy | startByte | lengthOutOfRange => exact absurd hf.symm Bool.false_ne_true
    all_goals exact hs.of_keeps (execPlain_keeps hf hr h) (by simp only [facets]; decide)
  · cases h
    exact startUp_tallyCounts ..

/-! ## The profile (R46) -/

theorem profileFits.of_keeps {fs : List Facet} {s t : State} (h : profileFits s) (hk : Keeps fs s t)
    (hfs : Facet.profile ∉ fs ∧ Facet.muster ∉ fs) : profileFits t := by
  have hp : t.route.profile = s.route.profile := hk.keeps .profile hfs.1
  have hm : t.muster = _ := hk.keeps .muster hfs.2
  unfold profileFits
  rw [hp, hm]
  exact h

theorem changeProfile_profile (s : State) (p : Profile) : (s.changeProfile p).route.profile = p := by
  unfold State.changeProfile
  split
  · assumption
  · exact (startComputation_keeps _).keeps .profile (by decide)

/-- Handing on the muster state fits the profile to it, whatever it was. -/
theorem handMuster_profileFits (s : State) (m : MusterState) : profileFits (s.handMuster m) := by
  have hstate : (s.handMuster m).muster.state = s.muster.state := (handMuster_facets s m).2.2
  unfold profileFits
  rw [hstate]
  unfold State.handMuster
  dsimp only
  have h1 : (if isEntry m s.muster.state then s.closeEdit else s).muster.state = s.muster.state := by
    have hk : Keeps [.edit, .ports] s (if isEntry m s.muster.state then s.closeEdit else s) :=
      Keeps.ite (closeEdit_keeps s) (Keeps.refl ..)
    have hm : State.muster _ = _ := hk.keeps .muster (by decide)
    rw [hm]
  generalize (if isEntry m s.muster.state = true then s.closeEdit else s) = s1 at h1 ⊢
  have h2 := changeProfile_profile s1 s1.muster.state.profile
  generalize s1.changeProfile s1.muster.state.profile = s2 at h2 ⊢
  have h3 := Keeps.ite (c := isEntry m s.muster.state = true)
    ((composes_keeps (composeEntry_composes s2)).mono (gs := [.dir, .segs, .stranded, .ports]) (by decide))
    ((composes_keeps (composeAll_composes s2)).mono (by decide))
  have h4 := (Keeps.ite (c := s1.route.profile = s1.muster.state.profile) h3
    (h3.trans ((strandedAtStart_keeps _).mono (by decide)))).trans ((raise_keeps _ .hotel .musterState).mono (by decide))
  have hp : (State.route _).profile = s2.route.profile := h4.keeps .profile (by decide)
  rw [hp, h2, h1]

/-! ## The latch and the timers (R105 to R109, R116) -/

/-- The latch, the latch writes and the timers are in order. -/
structure LatchOk (s : State) : Prop where
  quiet : latchQuiet s
  kept : latchKept s
  timers : timersInState s

theorem LatchOk.of_eq {s t : State} (h : LatchOk s) (hlatch : t.store.latch = s.store.latch)
    (hin : t.store.inFlight = s.store.inFlight) (hwait : t.store.waiting = s.store.waiting)
    (hm : t.muster.state = s.muster.state ∧ t.muster.latchCopy = s.muster.latchCopy ∧ t.muster.overdue = s.muster.overdue ∧
      t.muster.hold = s.muster.hold) : LatchOk t := by
  obtain ⟨hq, hk, ht⟩ := h
  obtain ⟨h1, h2, h3, h4⟩ := hm
  constructor
  · rwa [latchQuiet, h1, h2, hin, hwait]
  · rwa [latchKept, h2, hlatch]
  · rwa [timersInState, h1, h3, h4]

theorem Keeps.muster_eq {fs : List Facet} {s t : State} (hk : Keeps fs s t) (hfs : Facet.muster ∉ fs) :
    t.muster.state = s.muster.state ∧ t.muster.latchCopy = s.muster.latchCopy ∧ t.muster.overdue = s.muster.overdue ∧
      t.muster.hold = s.muster.hold := by
  have hm : t.muster = _ := hk.keeps .muster hfs
  rw [hm]
  exact ⟨rfl, rfl, rfl, rfl⟩

theorem LatchOk.of_keeps {fs : List Facet} {s t : State} (h : LatchOk s) (hk : Keeps fs s t)
    (hfs : Facet.store ∉ fs ∧ Facet.muster ∉ fs) : LatchOk t := by
  have hs : t.store = s.store := hk.keeps .store hfs.1
  exact h.of_eq (by rw [hs]) (by rw [hs]) (by rw [hs]) (hk.muster_eq hfs.2)

/-- The store starts at most a write that is no latch write. -/
def storeStarts (s t : State) : Prop :=
  t.store = s.store ∨ ∃ w, (∀ x, w ≠ .latch x) ∧ t.store = { s.store with inFlight := some w }

theorem LatchOk.storeStarts {s t : State} (h : LatchOk s) (hst : storeStarts s t)
    (hm : t.muster.state = s.muster.state ∧ t.muster.latchCopy = s.muster.latchCopy ∧ t.muster.overdue = s.muster.overdue ∧
      t.muster.hold = s.muster.hold) : LatchOk t := by
  rcases hst with hs | ⟨w, hw, hs⟩
  · exact h.of_eq (by rw [hs]) (by rw [hs]) (by rw [hs]) hm
  · obtain ⟨hq, hk, ht⟩ := h
    obtain ⟨h1, h2, h3, h4⟩ := hm
    constructor
    · rw [latchQuiet, h1, h2, hs]
      refine fun hstate => ⟨(hq hstate).1, fun d hd => hw _ (Option.some.inj hd), (hq hstate).2.2⟩
    · rwa [latchKept, h2, hs]
    · rwa [timersInState, h1, h3, h4]

theorem LatchOk.finishWrite {s : State} (h : LatchOk s) : LatchOk s.finishWrite := by
  refine ⟨fun hstate => ⟨(h.quiet hstate).1, fun d => ?_, fun _ => nofun⟩, h.kept, h.timers⟩
  have hw := (h.quiet hstate).2.2
  change s.store.waiting.map Write.latch ≠ _
  cases hx : s.store.waiting with
  | none => exact nofun
  | some w =>
    intro hd
    cases hd
    exact hw d hx

theorem requestLatch_latch (s : State) (w : LatchWrite) : (s.requestLatch w).store.latch = s.store.latch := by
  unfold State.requestLatch
  split <;> rfl

/-- Outside QUIET and ALERT the latch is asked for, with the timers of the state. -/
theorem LatchOk.of_away {s : State} (hstate : s.muster.state ≠ .quiet ∧ s.muster.state ≠ .alert) (hk : latchKept s)
    (ht : timersInState s) : LatchOk s :=
  ⟨fun h => absurd h (by simp [hstate]), hk, ht⟩

section
variable {s : State}

theorem latchKept.requestLatch (h : latchKept s) (w : LatchWrite) : latchKept (s.requestLatch w) := by
  rw [latchKept, State.requestLatch_muster, requestLatch_latch]
  exact h

theorem timersInState.requestLatch (h : timersInState s) (w : LatchWrite) : timersInState (s.requestLatch w) := by
  rw [timersInState, State.requestLatch_muster]
  exact h

theorem LatchOk.handMuster (h : LatchOk s) (m : MusterState) :
    LatchOk (s.handMuster m) := h.of_keeps (handMuster_keeps s m) (by decide)

theorem LatchOk.requestLatch (h : LatchOk s) (hstate : s.muster.state ≠ .quiet ∧ s.muster.state ≠ .alert) (w : LatchWrite) :
    LatchOk (s.requestLatch w) :=
  .of_away (by rwa [State.requestLatch_muster]) (h.kept.requestLatch w) (h.timers.requestLatch w)

/-- The hold timer stands outside HOLDING. -/
theorem LatchOk.hold_eq_none (h : LatchOk s) (hstate : s.muster.state ≠ .standdown .holding) : s.muster.hold = none := by
  cases hh : s.muster.hold with
  | none => rfl
  | some n => exact absurd (h.timers.2.mp (Option.isSome_of_eq_some hh)) hstate

theorem LatchOk.overdue_stopped (h : LatchOk s) (hstate : s.muster.state ≠ .muster) (n : Nat) : s.muster.overdue ≠ .running n :=
  fun hn => hstate (h.timers.1 ⟨n, hn⟩)

theorem LatchOk.enterAlert (h : LatchOk s) (hm : s.muster.state = .quiet) (d : Bool) : LatchOk (s.enterAlert d) := by
  refine LatchOk.handMuster ?_ _
  refine ⟨fun _ => h.quiet (.inl hm), h.kept, ⟨fun ⟨n, hn⟩ => ?_, ?_⟩⟩
  · exact absurd hn (h.overdue_stopped (by simp [hm]) n)
  · have := h.hold_eq_none (by simp [hm])
    simp [this]

theorem LatchOk.enterMuster (h : LatchOk s) (hm : s.muster.state = .quiet ∨ s.muster.state = .alert) (d : Bool) :
    LatchOk (s.enterMuster d) := by
  have hhold := h.hold_eq_none (by rcases hm with hm | hm <;> simp [hm])
  unfold State.enterMuster
  refine LatchOk.handMuster (LatchOk.requestLatch (LatchOk.of_keeps (fs := [.cabins, .ports]) ?_ (retally_keeps _) (by decide))
    ?_ _) _
  · exact .of_away (by simp) h.kept ⟨fun _ => rfl, by simp [hhold]⟩
  · rw [retally_muster_state]
    simp

theorem LatchOk.resume (h : LatchOk s) (d : Bool) : LatchOk (s.resume d) := by
  unfold State.resume
  dsimp only
  refine LatchOk.handMuster ?_ _
  have hs : LatchOk { s with muster := { s.muster with
      state := .muster, drill := d, hold := none, overdue := .running (s.muster.overdueTime * 60) } } :=
    .of_away (by simp) h.kept ⟨fun _ => rfl, by simp⟩
  split
  · exact hs.requestLatch (by simp) _
  · exact hs

theorem LatchOk.withDrill (h : LatchOk s) (d : Bool) : LatchOk { s with muster := { s.muster with drill := d } } :=
  h.of_eq rfl rfl rfl ⟨rfl, rfl, rfl, rfl⟩

/-- In QUIET and ALERT no latch is held or asked for. -/
theorem LatchOk.latchHeld_eq_false (h : LatchOk s) (hm : s.muster.state = .quiet ∨ s.muster.state = .alert) :
    s.latchHeld = false := by
  obtain ⟨hset, hin, hwait⟩ := h.quiet hm
  unfold State.latchHeld
  rw [hset]
  split
  · rename_i d hd
    exact absurd hd (hin d)
  · split
    · rename_i d hd
      exact absurd hd (hwait d)
    · rfl

theorem LatchOk.clearDrill (h : LatchOk s) : LatchOk s.clearDrill := by
  unfold State.clearDrill
  dsimp only
  refine LatchOk.handMuster ?_ _
  split
  · rename_i hheld
    refine (h.withDrill false).requestLatch ⟨fun hq => ?_, fun ha => ?_⟩ _
    · exact absurd (h.latchHeld_eq_false (.inl hq) ▸ hheld) Bool.false_ne_true
    · exact absurd (h.latchHeld_eq_false (.inr ha) ▸ hheld) Bool.false_ne_true
  · exact h.withDrill false

theorem LatchOk.standDown (h : LatchOk s) : LatchOk s.standDown := by
  refine LatchOk.handMuster ?_ _
  exact .of_away ⟨nofun, nofun⟩ h.kept ⟨fun ⟨_, hn⟩ => (nomatch hn), by simp⟩

theorem LatchOk.cancelAlert (h : LatchOk s) (hm : s.muster.state = .alert) : LatchOk s.cancelAlert := by
  refine LatchOk.handMuster ?_ _
  refine ⟨fun _ => h.quiet (.inr hm), h.kept, ⟨fun ⟨n, hn⟩ => ?_, ?_⟩⟩
  · exact absurd hn (h.overdue_stopped (by simp [hm]) n)
  · have := h.hold_eq_none (by simp [hm])
    simp [this]

theorem LatchOk.alarmEvent (h : LatchOk s) : LatchOk s.alarmEvent := by
  have hr : LatchOk (s.raise .safety .musterByLine) := h.of_keeps (raise_keeps ..) (by decide)
  unfold State.alarmEvent
  dsimp only
  split
  · exact hr.enterMuster (.inl ‹_›) _
  · exact hr.enterMuster (.inr ‹_›) _
  · split
    · exact hr.clearDrill
    · exact hr
  · exact hr.resume _

/-- A latch write completes. In QUIET and ALERT it was the clearing of the latch. -/
theorem LatchOk.storeLatch (h : LatchOk s) {x : Latch}
    (hx : s.muster.state = .quiet ∨ s.muster.state = .alert → x.set = false) : LatchOk (s.storeLatch x) := by
  refine LatchOk.finishWrite ⟨fun hstate => ⟨hx hstate, (h.quiet hstate).2⟩, rfl, h.timers⟩

end

section
variable {s : State} (h : LatchOk s)
include h

theorem alert_latchOk (d : Bool) : LatchOk (alert d s).state := by
  unfold alert
  split
  · exact h.enterAlert ‹_› d
  · split
    · exact h
    · split
      · exact h
      · exact h.clearDrill
  · exact h

theorem cancelAlert_latchOk : LatchOk (cancelAlert s).state := by
  unfold cancelAlert
  split
  · exact h.cancelAlert ‹_›
  · exact h

theorem musterRequest_latchOk (d : Bool) : LatchOk (musterRequest d s).state := by
  unfold musterRequest
  split
  · exact h.enterMuster (.inl ‹_›) d
  · split
    · exact h
    · exact h.enterMuster (.inr ‹_›) d
  · split
    · exact h
    · split
      · exact h
      · exact h.clearDrill
  · split
    · exact h
    · exact h.resume d

theorem standdown_latchOk : LatchOk (standdown s).state := by
  unfold standdown
  split
  · exact h.standDown
  · exact h

theorem generalAlarm_latchOk : LatchOk (generalAlarm s) := by
  unfold generalAlarm
  split
  · exact LatchOk.alarmEvent (h.of_eq rfl rfl rfl ⟨rfl, rfl, rfl, rfl⟩)
  · exact h

theorem overdueExpiry_latchOk : LatchOk (overdueExpiry s) := by
  unfold overdueExpiry
  split
  · refine LatchOk.of_keeps (fs := [.ports]) ?_ (raiseIf_keeps ..) (by decide)
    exact ⟨h.quiet, h.kept, ⟨nofun, h.timers.2⟩⟩
  · exact h

theorem holdExpiry_latchOk : LatchOk (holdExpiry s) := by
  unfold holdExpiry
  split
  · rename_i n hn hm
    refine LatchOk.requestLatch ?_ ⟨?_, ?_⟩ _
    case refine_2 | refine_3 => exact nofun
    refine .of_away ⟨nofun, nofun⟩ h.kept ⟨fun ⟨n, hn⟩ => ?_, by simp⟩
    exact absurd hn (h.overdue_stopped (by simp [hm]) n)
  · exact h

theorem latchSetCompletion_latchOk : LatchOk (latchSetCompletion s) := by
  unfold latchSetCompletion
  split
  · rename_i d hd
    exact h.storeLatch fun hstate => absurd hd ((h.quiet hstate).2.1 d)
  · exact h

theorem latchClearCompletion_latchOk : LatchOk (latchClearCompletion s) := by
  unfold latchClearCompletion
  split
  · have hl := h.storeLatch (x := ⟨false, false⟩) fun _ => rfl
    dsimp only
    split
    · rename_i hclear
      obtain ⟨-, hwait⟩ := hclear
      unfold State.returnToQuiet
      refine LatchOk.handMuster (LatchOk.of_keeps (fs := [.cabins, .ports]) ?_ (retally_keeps _) (by decide)) _
      refine ⟨fun _ => ⟨rfl, fun d => ?_, fun d => nofun⟩, hl.kept, ⟨nofun, by simp⟩⟩
      change s.store.waiting.map Write.latch ≠ _
      rw [hwait]
      exact nofun
    · exact hl
  · exact h

theorem commitCompletion_latchOk : LatchOk (commitCompletion s) := by
  unfold commitCompletion
  split
  case h_2 => exact h
  rename_i n _
  dsimp only
  have hcommit : LatchOk (commitMatch (commitCarry s.activePlan (commitConditions (commitStore n s)))) := by
    refine LatchOk.of_keeps (s := commitStore n s) (fs := [.conditions, .confirm, .cabins, .zones, .resolver, .dir, .records,
      .ports])
      (h.of_eq rfl rfl rfl ⟨rfl, rfl, rfl, rfl⟩) ?_ (by decide)
    refine Keeps.trans ?_ ((commitMatch_same _).toKeeps.mono (by decide))
    exact ((commitConditions_keeps _).mono (by decide)).trans ((commitCarry_keeps ..).mono (by decide))
  refine hcommit.finishWrite.of_keeps (fs := [.cabins, .prog, .routes, .ports, .dir, .segs, .stranded]) ?_ (by decide)
  refine Keeps.trans ?_ ((strandedAtStart_keeps _).mono (by decide))
  refine Keeps.trans ?_ ((composes_keeps (composeAll_composes _)).mono (by decide))
  refine Keeps.trans ?_ ((raise_keeps ..).mono (by decide))
  refine Keeps.trans ?_ ((raise_keeps ..).mono (by decide))
  refine Keeps.trans ?_ ((completeOp_same ..).toKeeps.mono (by decide))
  refine Keeps.trans ?_ ((commitRoutes_keeps _).mono (by decide))
  refine Keeps.trans ?_ ((withChoice_keeps _ _ _ (State.prog _).programme).mono (by decide))
  exact (retally_keeps _).mono (by decide)

theorem bindCompletion_latchOk : LatchOk (bindCompletion s) := by
  unfold bindCompletion
  split
  case h_2 => exact h
  rename_i p i l _
  dsimp only
  have hb : LatchOk (bindPlans p i l s) := h.of_eq rfl rfl rfl ⟨rfl, rfl, rfl, rfl⟩
  refine hb.finishWrite.of_keeps (fs := [.dir, .segs, .records, .ports]) ?_ (by decide)
  refine Keeps.trans ?_ ((composes_keeps (composeWhere_composes ..)).mono (by decide))
  refine Keeps.trans ?_ ((completeOp_same ..).toKeeps.mono (by decide))
  refine Keeps.trans ?_ ((raiseIf_keeps ..).mono (by decide))
  exact (withDir_same _ _).toKeeps.mono (by decide)

theorem fixedDetourCompletion_latchOk : LatchOk (fixedDetourCompletion s) := by
  unfold fixedDetourCompletion
  split
  case h_2 => exact h
  dsimp only
  refine LatchOk.of_keeps (fs := [.routes, .stranded, .dir, .segs, .ports]) ?_
    (((trigger_keeps _).mono (by decide)).trans ((completeOp_same ..).toKeeps.mono (by decide))) (by decide)
  exact LatchOk.finishWrite (h.of_eq rfl rfl rfl ⟨rfl, rfl, rfl, rfl⟩)

theorem settingsCompletion_latchOk : LatchOk (settingsCompletion s) := by
  unfold settingsCompletion
  split
  case h_2 => exact h
  refine LatchOk.of_keeps (fs := [.ports]) (LatchOk.finishWrite ?_) (modPort_keeps ..) (by decide)
  unfold State.applySettings
  split <;> exact h.of_eq rfl rfl rfl ⟨rfl, rfl, rfl, rfl⟩

theorem tick_latchOk : LatchOk s.tick := by
  refine ⟨h.quiet, h.kept, ⟨fun ⟨n, hn⟩ => ?_, ?_⟩⟩
  · change s.muster.overdue.tick = .running n at hn
    cases ho : s.muster.overdue with
    | running m => exact h.timers.1 ⟨m, ho⟩
    | stopped => rw [ho] at hn; cases hn
    | expired => rw [ho] at hn; cases hn
  · change (s.muster.hold.map lessOne).isSome = true ↔ _
    rw [Option.isSome_map]
    exact h.timers.2

end

/-! ## The requests that need the store -/

section
variable (s : State) (tag : Byte)

theorem planCommit_storeStarts : storeStarts s (planCommit tag s).state := by
  unfold planCommit
  split
  · exact .inl rfl
  · exact .inl rfl
  · split
    · exact .inl rfl
    · split
      · exact .inl rfl
      · exact .inr ⟨_, by exact fun _ => nofun, rfl⟩

theorem bindDisplay_storeStarts (p : Nat) (g : Seg) (a : Nat) : storeStarts s (bindDisplay tag p g a s).state := by
  unfold bindDisplay
  split
  · exact .inl rfl
  · split
    · exact .inl rfl
    · split
      · exact .inl rfl
      · dsimp only
        split
        · exact .inl rfl
        · split
          · exact .inl rfl
          · split
            · exact .inl rfl
            · exact .inr ⟨_, by exact fun _ => nofun, rfl⟩

theorem setMusterTimers_storeStarts (l : LinkId) (o t : Nat) : storeStarts s (setMusterTimers l tag o t s).state := by
  unfold setMusterTimers
  split
  · exact .inl rfl
  · exact .inr ⟨_, by exact fun _ => nofun, rfl⟩

theorem setLinkTimeout_storeStarts (l : LinkId) (n : Nat) : storeStarts s (setLinkTimeout l tag n s).state := by
  unfold setLinkTimeout
  split
  · exact .inl rfl
  · exact .inr ⟨_, by exact fun _ => nofun, rfl⟩

theorem fixedDetour_storeStarts (f : DetourFields) (c : ConditionTable) : storeStarts s (fixedDetour tag f c s).state := by
  unfold fixedDetour
  split
  · exact .inl rfl
  · split
    · exact .inl rfl
    · split
      · exact .inl rfl
      · split
        · exact .inl rfl
        · exact .inr ⟨_, by exact fun _ => nofun, rfl⟩

end

theorem startBlocks_latchOk (st : RetainedStore) (hin : st.inFlight = none) (hwait : st.waiting = none) (line : Bool) (n : Nat)
    (q : List Instr) : LatchOk (startBlocks st line n q) := by
  have hstore : (startBlocks st line n q).store = st := rfl
  have hm : (startBlocks st line n q).muster = startMuster st line := rfl
  cases hset : st.latch.set with
  | true =>
    refine .of_away ?_ rfl ⟨fun _ => ?_, ?_⟩ <;> simp [hm, startMuster, hset]
  | false =>
    refine ⟨fun _ => ⟨hset, ?_, ?_⟩, rfl, ⟨fun ⟨k, hk⟩ => ?_, ?_⟩⟩
    · simp [hstore, hin]
    · simp [hstore, hwait]
    · simp [hm, startMuster, hset] at hk
    · simp [hm, startMuster, hset]

theorem reset_latchOk {s t : State} (h : exec .reset s = .next t) : LatchOk t := by
  cases h
  refine (startBlocks_latchOk (s.store.afterReset s.freeCount) rfl rfl s.alarmLine (s.freeCount + freeValuesPerReset)
    s.pending).of_keeps (fs := [.routes, .stranded, .ports]) ?_ (by decide)
  exact ((withDests_keeps ..).mono (by decide)).trans (((startComputation_keeps _).mono (by decide)).trans
    ((strandedAtStart_keeps _).mono (by decide)))

theorem exec_latchOk {c : Instr} {s t : State} (h : exec c s = .next t) (hs : LatchOk s) : LatchOk t := by
  have hports : ∀ {u v}, Keeps [.ports, .confirm] u v → LatchOk u → LatchOk v := fun hk hu => hu.of_keeps hk (by decide)
  revert hs
  refine exec_cases (P := fun s t => LatchOk s → LatchOk t) (fun s t hk hs => hs.of_keeps hk (by decide))
    (fun c s t hf hr h hs => ?_)
    (fun s t h _ => reset_latchOk h) h
  have hbegin : LatchOk s.begin := hs.of_keeps (begin_keeps s) (by decide)
  cases c
  case planCommit =>
    exact execRequest_pred hports h hs fun u hu =>
      hu.storeStarts (planCommit_storeStarts u _) (Keeps.muster_eq (planCommit_keeps u _) (by decide))
  case bind =>
    exact execRequest_pred hports h hs fun u hu => parsed_state hu fun _ =>
      hu.storeStarts (bindDisplay_storeStarts u ..) (Keeps.muster_eq (bindDisplay_keeps u ..) (by decide))
  case setMusterTimers =>
    exact execRequest_pred hports h hs fun u hu => parsed_state hu fun _ =>
      hu.storeStarts (setMusterTimers_storeStarts u ..) (Keeps.muster_eq (setMusterTimers_keeps u ..) (by decide))
  case setLinkTimeout =>
    exact execRequest_pred hports h hs fun u hu => parsed_state hu fun _ =>
      hu.storeStarts (setLinkTimeout_storeStarts u ..) (Keeps.muster_eq (setLinkTimeout_keeps u ..) (by decide))
  case fixedDetour =>
    refine execRequest_pred hports h hs fun u hu => ?_
    have hu' := hu.of_keeps (abandonConfirm_keeps u) (by decide)
    exact parsed_state (P := LatchOk) hu' fun _ =>
      hu'.storeStarts (fixedDetour_storeStarts u.abandonConfirm ..)
        (Keeps.muster_eq (fixedDetour_keeps u.abandonConfirm ..) (by decide))
  case alert => exact execRequest_pred hports h hs fun u hu => parsed_state hu fun _ => alert_latchOk hu _
  case cancelAlert => exact execRequest_pred hports h hs fun u hu => cancelAlert_latchOk hu
  case muster => exact execRequest_pred hports h hs fun u hu => parsed_state hu fun _ => musterRequest_latchOk hu _
  case standdown => exact execRequest_pred hports h hs fun u hu => standdown_latchOk hu
  case generalAlarmEvent => cases h; exact generalAlarm_latchOk hbegin
  case overdueTimerExpiry => cases h; exact overdueExpiry_latchOk hbegin
  case standDownHoldExpiry => cases h; exact holdExpiry_latchOk hbegin
  case commitCompletion => cases h; exact commitCompletion_latchOk hbegin
  case bindCompletion => cases h; exact bindCompletion_latchOk hbegin
  case fixedDetourCompletion => cases h; exact fixedDetourCompletion_latchOk hbegin
  case latchSetCompletion => cases h; exact latchSetCompletion_latchOk hbegin
  case latchClearCompletion => cases h; exact latchClearCompletion_latchOk hbegin
  case settingsWriteCompletion => cases h; exact settingsCompletion_latchOk hbegin
  case reset => exact absurd rfl hr
  case unknownKind | badCrcFrame | frameWhileBusy | startByte | lengthOutOfRange => exact absurd hf.symm Bool.false_ne_true
  all_goals exact hs.of_keeps (execPlain_keeps hf hr h) (by simp only [facets]; decide)

/-! ## The profile, command by command -/

section
variable {s : State} (h : profileFits s)
include h

/-- Where the state of the muster controller stays, its profile stays. -/
theorem profileFits.of_eq {t : State} (hp : t.route.profile = s.route.profile) (hm : t.muster.state = s.muster.state) :
    profileFits t := by
  rwa [profileFits, hp, hm]

theorem alert_profileFits (d : Bool) : profileFits (alert d s).state := by
  unfold alert
  split
  · exact handMuster_profileFits ..
  · split
    · exact h
    · split
      · exact h
      · exact handMuster_profileFits ..
  · exact h

theorem cancelAlert_profileFits : profileFits (cancelAlert s).state := by
  unfold cancelAlert
  split
  · exact handMuster_profileFits ..
  · exact h

theorem musterRequest_profileFits (d : Bool) : profileFits (musterRequest d s).state := by
  unfold musterRequest
  split
  · exact handMuster_profileFits ..
  · split
    · exact h
    · exact handMuster_profileFits ..
  · split
    · exact h
    · split
      · exact h
      · exact handMuster_profileFits ..
  · split
    · exact h
    · exact handMuster_profileFits ..

theorem standdown_profileFits : profileFits (standdown s).state := by
  unfold standdown
  split
  · exact handMuster_profileFits ..
  · exact h

theorem generalAlarm_profileFits : profileFits (generalAlarm s) := by
  unfold generalAlarm
  split
  case h_2 => exact h
  unfold State.alarmEvent
  dsimp only
  split
  · exact handMuster_profileFits ..
  · exact handMuster_profileFits ..
  · split
    · exact handMuster_profileFits ..
    · exact h.of_eq rfl rfl
  · exact handMuster_profileFits ..

theorem overdueExpiry_profileFits : profileFits (overdueExpiry s) := by
  unfold overdueExpiry
  split
  · exact (h.of_eq (t := { s with muster := { s.muster with overdue := .expired } }) rfl rfl).of_keeps (raiseIf_keeps ..)
      (by decide)
  · exact h

/-- The phase of STANDDOWN has no profile of its own. -/
theorem holdExpiry_profileFits : profileFits (holdExpiry s) := by
  unfold holdExpiry
  split
  · rename_i hm
    refine profileFits.of_keeps (fs := [.store]) ?_ (requestLatch_keeps ..) (by decide)
    unfold profileFits at *
    rw [h, hm]
    rfl
  · exact h

theorem storeLatch_profileFits (x : Latch) : profileFits (s.storeLatch x) := h.of_eq rfl rfl

theorem latchSetCompletion_profileFits : profileFits (latchSetCompletion s) := by
  unfold latchSetCompletion
  split
  · exact storeLatch_profileFits h _
  · exact h

theorem latchClearCompletion_profileFits : profileFits (latchClearCompletion s) := by
  unfold latchClearCompletion
  split
  · dsimp only
    split
    · exact handMuster_profileFits ..
    · exact storeLatch_profileFits h _
  · exact h

theorem settingsCompletion_profileFits : profileFits (settingsCompletion s) := by
  unfold settingsCompletion
  split
  case h_2 => exact h
  refine profileFits.of_keeps (fs := [.ports]) ?_ (modPort_keeps ..) (by decide)
  unfold State.applySettings
  split <;> exact h.of_eq rfl rfl

end

theorem reset_profileFits {s t : State} (h : exec .reset s = .next t) : profileFits t := by
  cases h
  refine profileFits.of_keeps (fs := [.routes, .stranded, .ports])
    (s := startBlocks (s.store.afterReset s.freeCount) s.alarmLine (s.freeCount + freeValuesPerReset) s.pending) ?_ ?_ (by decide)
  · generalize s.store.afterReset s.freeCount = st
    change (if st.latch.set then Profile.safety else .normal) = (if st.latch.set then MusterState.muster else .quiet).profile
    split <;> rfl
  · exact ((withDests_keeps ..).mono (by decide)).trans (((startComputation_keeps _).mono (by decide)).trans
      ((strandedAtStart_keeps _).mono (by decide)))

theorem exec_profileFits {c : Instr} {s t : State} (h : exec c s = .next t) (hs : profileFits s) : profileFits t := by
  have hports : ∀ {u v}, Keeps [.ports, .confirm] u v → profileFits u → profileFits v := fun hk hu => hu.of_keeps hk (by decide)
  revert hs
  refine exec_cases (P := fun s t => profileFits s → profileFits t) (fun s t hk hs => hs.of_keeps hk (by decide))
    (fun c s t hf hr h hs => ?_) (fun s t h _ => reset_profileFits h) h
  have hbegin : profileFits s.begin := hs.of_keeps (begin_keeps s) (by decide)
  cases c
  case alert => exact execRequest_pred hports h hs fun u hu => parsed_state hu fun _ => alert_profileFits hu _
  case cancelAlert => exact execRequest_pred hports h hs fun u hu => cancelAlert_profileFits hu
  case muster => exact execRequest_pred hports h hs fun u hu => parsed_state hu fun _ => musterRequest_profileFits hu _
  case standdown => exact execRequest_pred hports h hs fun u hu => standdown_profileFits hu
  case generalAlarmEvent => cases h; exact generalAlarm_profileFits hbegin
  case overdueTimerExpiry => cases h; exact overdueExpiry_profileFits hbegin
  case standDownHoldExpiry => cases h; exact holdExpiry_profileFits hbegin
  case latchSetCompletion => cases h; exact latchSetCompletion_profileFits hbegin
  case latchClearCompletion => cases h; exact latchClearCompletion_profileFits hbegin
  case settingsWriteCompletion => cases h; exact settingsCompletion_profileFits hbegin
  case reset => exact absurd rfl hr
  case unknownKind | badCrcFrame | frameWhileBusy | startByte | lengthOutOfRange => exact absurd hf.symm Bool.false_ne_true
  all_goals exact hs.of_keeps (execPlain_keeps hf hr h) (by simp only [facets]; decide)

/-- Settles O56: the latch and the timers, the tally, the profile and the engine's marks, each kept by the passing second and by
every command. -/
theorem musterInvariantIsKept : Obligations.MusterInvariantIsKept := by
  intro s t hquiet hkept htimers htally hprofile hidle hmark hstep
  have hl : LatchOk s := ⟨hquiet, hkept, htimers⟩
  have he : engineOk s := ⟨hidle, hmark⟩
  rcases step_cases hstep with rfl | ⟨c, rest, h⟩
  · obtain ⟨h1, h2, h3⟩ := tick_latchOk hl
    exact ⟨h1, h2, h3, htally.of_eq rfl rfl rfl, hprofile.of_eq rfl rfl, he.of_eq rfl rfl rfl⟩
  · obtain ⟨h1, h2, h3⟩ := exec_latchOk h (hl.of_eq rfl rfl rfl ⟨rfl, rfl, rfl, rfl⟩)
    exact ⟨h1, h2, h3, exec_tallyCounts h (htally.of_eq rfl rfl rfl), exec_profileFits h (hprofile.of_eq rfl rfl),
      exec_engineOk h (he.of_eq rfl rfl rfl)⟩

end Sys2Proof.Machine
end


section
/-! PROOFS. The delivery invariant (R143, R164, R174, R177, R180): valid addresses, exact refresh queues, bounded credits and
queues, operation by operation. -/

namespace Sys2Proof.Machine

/-! ## The invariant -/

/-- The part of the invariant that reads the directory, the segments and the queues. -/
structure DeliveryOk (s : State) : Prop where
  addresses : addressesValid s
  queues : queueExact s
  credits : creditsBounded s
  bounds : queuesBounded s

/-- The polls in flight, segment by segment. -/
theorem reservations_eq (s : State) : s.reservations = (s.seg 0).polling.toNat + (s.seg 1).polling.toNat +
    (s.seg 2).polling.toNat + (s.seg 3).polling.toNat := by
  simp only [State.reservations, List.filter]
  cases (s.seg 0).polling <;> cases (s.seg 1).polling <;> cases (s.seg 2).polling <;> cases (s.seg 3).polling <;> rfl

theorem reservations_congr {s t : State} (h : ∀ g, (t.seg g).polling = (s.seg g).polling) : t.reservations = s.reservations := by
  simp only [reservations_eq, h]

/-- A change of one segment counts as that segment's poll does. -/
theorem reservations_modSeg (s : State) (g : Seg) (f : Segment → Segment) :
    (s.modSeg g f).reservations + (s.seg g).polling.toNat = s.reservations + (f (s.seg g)).polling.toNat := by
  have hother : ∀ i, i ≠ g → ((s.modSeg g f).seg i).polling = (s.seg i).polling := fun i hi => by
    rw [State.seg_modSeg_ne _ _ _ _ hi]
  have hsame : ((s.modSeg g f).seg g).polling = (f (s.seg g)).polling := by rw [State.seg_modSeg]
  rw [reservations_eq, reservations_eq]
  match g with
  | 0 => rw [hsame, hother 1 (by decide), hother 2 (by decide), hother 3 (by decide)]; omega
  | 1 => rw [hsame, hother 0 (by decide), hother 2 (by decide), hother 3 (by decide)]; omega
  | 2 => rw [hsame, hother 0 (by decide), hother 1 (by decide), hother 3 (by decide)]; omega
  | 3 => rw [hsame, hother 0 (by decide), hother 1 (by decide), hother 2 (by decide)]; omega

section
variable {s t : State}

theorem DeliveryOk.of_recomposed (h : DeliveryOk s) (hr : Recomposed s t) (hb : t.bus = s.bus) : DeliveryOk t := by
  refine ⟨hr.addressesValid h.addresses, hr.exact h.addresses h.queues, fun k c hc => ?_, ?_⟩
  · refine h.credits k c ?_
    rw [(hr.cards k).1] at hc
    exact hc
  · rw [queuesBounded, hb, reservations_congr (s := s) fun g => by rw [Segment.polling, hr.queues g]; rfl]
    exact h.bounds

theorem DeliveryOk.of_keeps {fs : List Facet} (h : DeliveryOk s) (hk : Keeps fs s t)
    (hfs : Facet.records ∉ fs ∧ Facet.bus ∉ fs) : DeliveryOk t :=
  h.of_recomposed (hk.keeps .records hfs.1) (hk.keeps .bus hfs.2)

theorem DeliveryOk.of_composes (h : DeliveryOk s) (hc : Composes s t) :
    DeliveryOk t := h.of_recomposed hc.recomposed hc.composed.bus_eq

theorem DeliveryOk.of_eq (h : DeliveryOk s) (hd : t.dir = s.dir) (hs : t.segs = s.segs) (hb : t.bus = s.bus) : DeliveryOk t :=
  h.of_recomposed (.of_eq hd hs) hb

theorem DeliveryOk.send (h : DeliveryOk s) (g : Seg) (f : BusFrame) : DeliveryOk (s.send g f) := h.of_eq rfl rfl rfl

/-! ## Changes of a record -/

theorem addressesValid_setDisplay {k : Nat} {d : Display} (h : addressesValid s) (hk : keyValid k ∨ d = Display.freed none) :
    addressesValid (s.setDisplay k d) := by
  refine addressesValid_of_keys h (wf_setDisplay k d h.1) (fun j hj => ?_) fun _ _ _ _ _ ha => .inl ha
  unfold State.setDisplay at hj
  dsimp only at hj
  split at hj
  · rw [Table.get_del] at hj
    split at hj
    · exact absurd hj Bool.false_ne_true
    · exact .inl hj
  · rename_i hd
    rw [Table.get_put] at hj
    split at hj
    · rename_i hjk
      exact .inr (hjk ▸ hk.resolve_right hd)
    · exact .inl hj

theorem creditsBounded_setDisplay {k : Nat} {d : Display} (h : creditsBounded s)
    (hd : ∀ c, d.credits = some c → c ≤ Config.creditLimit) :
    creditsBounded (s.setDisplay k d) := by
  intro j c hc
  rw [State.display_setDisplay] at hc
  split at hc
  · exact hd c hc
  · exact h j c hc

/-- A record that waits as before changes. -/
theorem DeliveryOk.setDisplay (h : DeliveryOk s) {k : Nat} {d : Display} (hk : keyValid k ∨ d = Display.freed none)
    (hw : d.waits ↔ (s.display k).waits) (hc : ∀ c, d.credits = some c → c ≤ Config.creditLimit) : DeliveryOk (s.setDisplay k d) :=
  ⟨addressesValid_setDisplay h.addresses hk, h.queues.setDisplay hw, creditsBounded_setDisplay h.credits hc, h.bounds⟩

theorem reservations_leaveQueue (s : State) (k : Nat) : (s.leaveQueue k).reservations = s.reservations :=
  reservations_congr fun g => by
    rw [Segment.polling, (leaveQueue_composed s k).queues g]
    rfl

/-- A record leaves its queue as it stops waiting. -/
theorem DeliveryOk.leave (h : DeliveryOk s) {k : Nat} {d : Display} (hk : keyValid k) (hw : ¬ d.waits)
    (hc : ∀ c, d.credits = some c → c ≤ Config.creditLimit) : DeliveryOk ((s.leaveQueue k).setDisplay k d) := by
  have ha : addressesValid (s.leaveQueue k) :=
    addressesValid_of_keys h.addresses h.addresses.1 (fun _ hj => .inl hj) fun g c i a n hact => .inl (by
      rw [(leaveQueue_composed s k).activity_eq] at hact
      exact hact)
  refine ⟨addressesValid_setDisplay ha (.inl hk), h.queues.leave hk hw, creditsBounded_setDisplay h.credits hc, ?_⟩
  have hr := reservations_leaveQueue s k
  have hb := h.bounds
  rw [queuesBounded] at hb ⊢
  rwa [show ((s.leaveQueue k).setDisplay k d).reservations = s.reservations from hr]

theorem DeliveryOk.keyValid (h : DeliveryOk s) {k : Nat} (hd : (s.display k).state ≠ .free) : Machine.keyValid k :=
  h.addresses.keyValid_of_state hd

theorem RecState.ne_free_of_inService {x : RecState} (h : x.inService = true) : x ≠ .free := fun hf => by
  rw [hf] at h
  exact Bool.false_ne_true h

theorem RecState.ne_free_of_isHeld {x : RecState} (h : x.isHeld = true) : x ≠ .free := fun hf => by
  rw [hf] at h
  exact Bool.false_ne_true h

theorem RecState.not_inService_of_isHeld {x : RecState} (h : x.isHeld = true) : x.inService ≠ true := by
  cases x <;> first | exact absurd h Bool.false_ne_true | exact Bool.false_ne_true

/-! ## Changes of a segment -/

/-- A change of a segment that no queue, no poll and no address sees. -/
structure Segment.Calm (x y : Segment) : Prop where
  queue : y.queue = x.queue
  polling : y.polling = true → x.polling = true
  assign : ∀ c i a n, y.activity = .sweeping c (.assign i a n) → x.activity = .sweeping c (.assign i a n) ∨ isAddress a

theorem addressesValid_modSeg {g : Seg} {f : Segment → Segment} (h : addressesValid s)
    (hassign : ∀ c i a n, (f (s.seg g)).activity = .sweeping c (.assign i a n) →
      (s.seg g).activity = .sweeping c (.assign i a n) ∨ isAddress a) : addressesValid (s.modSeg g f) := by
  refine addressesValid_of_keys h h.1 (fun _ hj => .inl hj) fun g' c i a n hact => ?_
  by_cases hg : g' = g
  · subst hg
    rw [State.seg_modSeg] at hact
    exact hassign c i a n hact
  · rw [State.seg_modSeg_ne _ _ _ _ hg] at hact
    exact .inl hact

theorem queueExact_modSeg {g : Seg} {f : Segment → Segment} (h : queueExact s) (hq : (f (s.seg g)).queue = (s.seg g).queue) :
    queueExact (s.modSeg g f) := by
  refine h.congr (fun _ => Iff.rfl) fun g' => ?_
  by_cases hg : g' = g
  · subst hg
    rw [State.seg_modSeg, hq]
  · rw [State.seg_modSeg_ne _ _ _ _ hg]

theorem DeliveryOk.modSeg (h : DeliveryOk s) {g : Seg} {f : Segment → Segment} (hf : (s.seg g).Calm (f (s.seg g))) :
    DeliveryOk (s.modSeg g f) := by
  refine ⟨addressesValid_modSeg h.addresses hf.assign, queueExact_modSeg h.queues hf.queue, h.credits, ?_⟩
  have hr := reservations_modSeg s g f
  have hb := h.bounds
  have hp : (f (s.seg g)).polling.toNat ≤ (s.seg g).polling.toNat := by
    have := hf.polling
    cases hx : (f (s.seg g)).polling with
    | false => exact Nat.zero_le _
    | true => rw [this hx]
  refine ⟨?_, hb.2⟩
  have := hb.1
  change s.bus.inbound.length + _ ≤ _
  omega

end

end Sys2Proof.Machine
end


section
/-! PROOFS. The delivery invariant through enrolment: sweeps, segment resets and revives (chapter 7). -/

namespace Sys2Proof.Machine

section
variable {s : State} {g : Seg}

/-! ## Starting and ending a sweep -/

theorem DeliveryOk.beginSweep (h : DeliveryOk s) (c : SweepCause) : DeliveryOk (s.beginSweep g c) :=
  h.modSeg ⟨rfl, id, fun _ _ _ _ ha => nomatch ha⟩

theorem DeliveryOk.requestSweep (h : DeliveryOk s) (c : SweepCause) : DeliveryOk (s.requestSweep g c) := by
  unfold State.requestSweep
  split
  · split
    · exact h.beginSweep c
    · exact h.modSeg ⟨rfl, id, fun _ _ _ _ ha => nomatch ha⟩
  · split
    · exact h.modSeg ⟨rfl, id, fun _ _ _ _ ha => nomatch ha⟩
    · exact h
  · exact h.modSeg ⟨rfl, id, fun _ _ _ _ ha => .inl ha⟩

theorem DeliveryOk.startWaiting (h : DeliveryOk s) : DeliveryOk (s.startWaiting g) := by
  unfold State.startWaiting
  split
  · exact h.beginSweep _
  · exact h

/-- A phase change; ASSIGN is entered with an address. -/
theorem DeliveryOk.setPhase (h : DeliveryOk s) {p : SweepPhase} (hp : ∀ i a n, p = .assign i a n → isAddress a) :
    DeliveryOk (s.setPhase g p) := by
  refine h.modSeg ⟨?_, fun hx => ?_, fun c i a n ha => ?_⟩
  · split <;> rfl
  · split at hx <;> exact hx
  · split at ha
    · cases ha
      exact .inr (hp _ _ _ rfl)
    · exact .inl ha

theorem DeliveryOk.toPresence (h : DeliveryOk s) : DeliveryOk (s.toPresence g) := (h.setPhase (by exact nofun)).send ..

theorem DeliveryOk.sweepStart (h : DeliveryOk s) : DeliveryOk (Machine.sweepStart g s) := by
  unfold Machine.sweepStart
  dsimp only
  split
  · exact (h.startWaiting.send ..).toPresence
  · exact h

theorem DeliveryOk.automaticExpiry (h : DeliveryOk s) : DeliveryOk (Machine.automaticExpiry g s) := by
  unfold Machine.automaticExpiry
  split
  · exact h
  · split
    · exact h.modSeg ⟨rfl, id, fun _ _ _ _ ha => .inl ha⟩
    · exact (h.modSeg (f := fun x => { x with autoTimer := none }) ⟨rfl, id, fun _ _ _ _ ha => .inl ha⟩).requestSweep _

theorem DeliveryOk.sweepAgain (h : DeliveryOk s) : DeliveryOk (s.sweepAgain g) := by
  unfold State.sweepAgain
  split
  · exact DeliveryOk.beginSweep (h.modSeg ⟨rfl, id, fun _ _ _ _ ha => .inl ha⟩) _
  · exact h

theorem DeliveryOk.completeOp (h : DeliveryOk s) (k : OpKind) (g : Option Seg) (o : OpOutcome) : DeliveryOk (s.completeOp k g o) :=
  h.of_eq rfl rfl rfl

theorem DeliveryOk.completeSweep (h : DeliveryOk s) (code : StepCode) : DeliveryOk (s.completeSweep g code) := by
  unfold State.completeSweep
  dsimp only
  split
  · exact DeliveryOk.completeOp (h.modSeg ⟨rfl, id, fun _ _ _ _ ha => .inl ha⟩) ..
  · exact h

theorem DeliveryOk.closeSweep (h : DeliveryOk s) (code : StepCode) : DeliveryOk (s.closeSweep g code) := by
  unfold State.closeSweep
  split
  · refine DeliveryOk.sweepAgain (DeliveryOk.completeSweep (DeliveryOk.modSeg (h.send g .sweepClose) ?_) _)
    exact ⟨rfl, id, fun _ _ _ _ ha => nomatch ha⟩
  · exact h

theorem DeliveryOk.presenceWindow (h : DeliveryOk s) (b : Bool) : DeliveryOk (Machine.presenceWindow g b s) := by
  unfold Machine.presenceWindow
  split
  · split
    · exact (h.setPhase (by exact nofun)).send ..
    · exact h.closeSweep _
  · exact h

theorem DeliveryOk.muteDisplay (h : DeliveryOk s) (i : Identity) : DeliveryOk (s.muteDisplay g i) :=
  (h.send ..).modSeg ⟨rfl, id, fun _ _ _ _ ha => .inl ha⟩

theorem DeliveryOk.raise (h : DeliveryOk s) (l : LinkId) (x : Source) : DeliveryOk (s.raise l x) := h.of_eq rfl rfl rfl

theorem DeliveryOk.raiseIf (h : DeliveryOk s) (c : Bool) (l : LinkId) (x : Source) : DeliveryOk (s.raiseIf c l x) :=
  h.of_eq (by simp) (by simp) (by simp)

theorem DeliveryOk.duplicate (h : DeliveryOk s) (i : Identity) : DeliveryOk (s.duplicate g i) :=
  ((h.muteDisplay i).raise ..).toPresence

/-! ## The address choice (R152) -/

/-- A record found by identity is listed there and satisfies the search. -/
theorem Table.of_first_eq_some {α β : Type} {f : Nat → α → Option β} {t : Table α} {b : β} (h : Table.first f t = some b) :
    ∃ k v, (k, v) ∈ t ∧ f k v = some b := by
  induction t with
  | nil => cases h
  | cons x t ih =>
    obtain ⟨k, v⟩ := x
    rw [Table.first] at h
    split at h
    · rename_i hf
      exact ⟨k, v, List.mem_cons_self, hf.trans h⟩
    · obtain ⟨k', v', hm, hf⟩ := ih h
      exact ⟨k', v', List.mem_cons_of_mem _ hm, hf⟩

theorem holderOf_some {i : Identity} {p : Nat → Display → Bool} {k : Nat} (hw : Table.wf s.dir = true)
    (h : s.holderOf i p = some k) : (s.display k).identity = some i ∧ p k (s.display k) = true := by
  obtain ⟨j, d, hm, hf⟩ := Table.of_first_eq_some h
  split at hf
  · cases hf
    rw [State.display, Table.get_of_mem hw hm]
    assumption
  · cases hf

theorem mem_freeAddresses {a : Nat} : a ∈ s.freeAddresses g ↔ isAddress a ∧ (s.display (recKey g a)).state = .free := by
  simp only [State.freeAddresses, Config.addressCount, List.mem_filter, List.mem_map, List.mem_range, beq_iff_eq, isAddress]
  refine and_congr_left fun _ => ⟨?_, fun h => ⟨a - 1, by omega, by omega⟩⟩
  rintro ⟨b, hb, rfl⟩
  omega

theorem chooseFree_mem {i : Identity} {a : Nat} (h : s.chooseFree g i = some a) : a ∈ s.freeAddresses g := by
  unfold State.chooseFree at h
  dsimp only at h
  split at h
  · cases h
    exact List.mem_of_find?_eq_some ‹_›
  · split at h
    · cases h
      exact List.mem_of_find?_eq_some ‹_›
    · exact List.mem_of_head? h

theorem heldElsewhere_held {k : Nat} {d : Display} (h : heldElsewhere g k d = true) : d.state.isHeld = true := by
  simp only [heldElsewhere, Bool.and_eq_true] at h
  exact h.2

theorem heldHere_spec {k : Nat} {d : Display} (h : heldHere g k d = true) : keySeg k = g ∧ d.state ≠ .free := by
  simpa [heldHere] using h

/-- A HELD record is freed. -/
theorem DeliveryOk.freeRecord (h : DeliveryOk s) {k : Nat} (hk : (s.display k).state.isHeld = true) :
    DeliveryOk (s.freeRecord k) :=
  h.setDisplay (.inl (h.keyValid (RecState.ne_free_of_isHeld hk)))
    (iff_of_false (Display.not_waits_of_free rfl) fun hw => RecState.not_inService_of_isHeld hk hw.2) fun _ hc => nomatch hc

theorem DeliveryOk.freeElsewhere (h : DeliveryOk s) (i : Identity) : DeliveryOk (s.freeElsewhere g i) := by
  unfold State.freeElsewhere
  split
  · rename_i k hk
    exact h.freeRecord (heldElsewhere_held (holderOf_some h.addresses.1 hk).2)
  · exact h

theorem DeliveryOk.startAssign (h : DeliveryOk s) (i : Identity) {a : Nat} (ha : isAddress a) : DeliveryOk (s.startAssign g i a) :=
  (h.setPhase fun _ _ _ hp => by cases hp; exact ha).send ..

theorem DeliveryOk.assignAddress (h : DeliveryOk s) (i : Identity) : DeliveryOk (s.assignAddress g i) := by
  unfold State.assignAddress
  split
  · rename_i k hk
    obtain ⟨-, hfree⟩ := heldHere_spec (holderOf_some h.addresses.1 hk).2
    exact h.startAssign i (h.keyValid hfree).2
  · split
    · exact h.duplicate i
    · split
      · exact (h.muteDisplay i).closeSweep _
      · dsimp only
        split
        · rename_i a ha
          exact (h.freeElsewhere i).startAssign i (mem_freeAddresses.mp (chooseFree_mem ha)).1
        · exact h.freeElsewhere i

theorem DeliveryOk.checkOutcome (h : DeliveryOk s) (i : Identity) (b : BitVec 8) : DeliveryOk (s.checkOutcome g i b) := by
  have hmark : ∀ n : Segment → Nat, DeliveryOk (s.modSeg g fun x => { x with mismatch := n x }) := fun n =>
    h.modSeg ⟨rfl, id, fun _ _ _ _ ha => .inl ha⟩
  unfold State.checkOutcome
  dsimp only
  split
  · exact (hmark _).assignAddress i
  · split
    · exact (hmark _).toPresence
    · exact (hmark _).closeSweep _

theorem DeliveryOk.bitWindow (h : DeliveryOk s) (b : Bool) : DeliveryOk (Machine.bitWindow g b s) := by
  unfold Machine.bitWindow
  split
  · dsimp only
    split
    · exact (h.setPhase (by exact nofun)).send ..
    · exact (h.setPhase (by exact nofun)).send ..
  · dsimp only
    split
    · exact (h.setPhase (by exact nofun)).send ..
    · exact h.checkOutcome ..
  · exact h

/-! ## Capability replies (R153, R154) -/

theorem DeliveryOk.assignFailed (h : DeliveryOk s) (i : Identity) {a : Nat} (ha : isAddress a) (n : Nat) :
    DeliveryOk (s.assignFailed g i a n) := by
  unfold State.assignFailed
  split
  · exact (h.setPhase fun _ _ _ hp => by cases hp; exact ha).send ..
  · exact (h.send ..).closeSweep _

theorem DeliveryOk.assignTimeout (h : DeliveryOk s) : DeliveryOk (Machine.assignTimeout g s) := by
  unfold Machine.assignTimeout
  split
  · exact h.assignFailed _ (h.addresses.2.2 _ _ _ _ _ ‹_›) _
  · exact h

theorem Buffers.backCard_emptied (b : Buffers) : b.emptied.backCard = none := by
  obtain ⟨x, y, f⟩ := b
  cases f <;> rfl

theorem setupCredits_le {d : Display} {c : Capability} (hd : ∀ n, d.credits = some n → n ≤ Config.creditLimit) (n : Nat)
    (h : setupCredits d c = some n) : n ≤ Config.creditLimit := by
  unfold setupCredits at h
  split at h
  · cases h
  · split at h
    · cases h
      exact Nat.le_refl _
    · exact hd n h

theorem DeliveryOk.takeIn (h : DeliveryOk s) (i : Identity) {a : Nat} (ha : isAddress a) (c : Capability) :
    DeliveryOk (s.takeIn g i a c) := by
  unfold State.takeIn
  dsimp only
  refine DeliveryOk.toPresence (DeliveryOk.of_composes (DeliveryOk.modSeg ?_ ⟨rfl, id, fun _ _ _ _ hx => .inl hx⟩)
    (composeRecord_composes ..))
  refine DeliveryOk.raiseIf (h.leave (keyValid_recKey ha) (fun hw => ?_) (setupCredits_le (h.credits _))) ..
  have hback := hw.1
  simp [enrolled, Buffers.backCard_emptied] at hback

theorem DeliveryOk.takeReply (h : DeliveryOk s) (i : Identity) {a : Nat} (ha : isAddress a) (c : Capability) :
    DeliveryOk (s.takeReply g i a c) := by
  unfold State.takeReply
  split
  · exact h.duplicate i
  · exact (h.freeElsewhere i).takeIn i ha c

theorem DeliveryOk.capabilityReply (h : DeliveryOk s) (addr : Nat) (i : Identity) (c : Capability) :
    DeliveryOk (Machine.capabilityReply g addr i c s) := by
  unfold Machine.capabilityReply
  split
  · rename_i hact
    have ha := h.addresses.2.2 _ _ _ _ _ hact
    split
    · exact h
    · split
      · exact h.takeReply _ ha c
      · exact h.assignFailed _ ha _
  · exact h

/-! ## One composition, case by case -/

section
variable (s : State) (k : Nat) (c : Cause)

theorem composeRecord_free (hf : (s.display k).state = .free) : s.composeRecord k c = (s, false) := by
  simp [State.composeRecord, hf]

theorem composeRecord_transit (hf : (s.display k).state ≠ .free) (ht : s.inTransit k = true) :
    s.composeRecord k c = (s.setDisplay k { s.display k with recompose := (s.display k).recompose.mark c }, false) := by
  simp [State.composeRecord, hf, ht]

theorem composeRecord_shown (hf : (s.display k).state ≠ .free) (ht : s.inTransit k = false)
    (hshown : (s.display k).shown = some (s.compose (s.display k)).2.1) :
    s.composeRecord k c = (s.setDisplay k { s.display k with looked := (s.compose (s.display k)).2.2 }, false) := by
  simp [State.composeRecord, hf, ht, hshown]

/-- A composition request does nothing, writes the record alone, or fills its back buffer, and then queues it when in service. -/
theorem composeRecord_cases : (s.composeRecord k c = (s, false)) ∨ (∃ d, s.composeRecord k c = (s.setDisplay k d, false)) ∨
    s.composeRecord k c = (if (s.display k).state.inService then (s.setDisplay k (filledRecord s k c)).joinQueue k
      else s.setDisplay k (filledRecord s k c), true) := by
  by_cases hf : (s.display k).state = .free
  · exact .inl (composeRecord_free s k c hf)
  cases ht : s.inTransit k with
  | true => exact .inr (.inl ⟨_, composeRecord_transit s k c hf ht⟩)
  | false =>
    by_cases hshown : (s.display k).shown = some (s.compose (s.display k)).2.1
    · exact .inr (.inl ⟨_, composeRecord_shown s k c hf ht hshown⟩)
    · exact .inr (.inr (composeRecord_filling s c hf ht hshown))

theorem composeRecord_display_other {j : Nat} (hj : j ≠ k) : (s.composeRecord k c).1.display j = s.display j := by
  rcases composeRecord_cases s k c with h | ⟨d, h⟩ | h <;> rw [h]
  · exact State.display_setDisplay_other _ _ _ _ hj
  · dsimp only
    split
    · exact State.display_setDisplay_other _ _ _ _ hj
    · exact State.display_setDisplay_other _ _ _ _ hj

theorem mem_composeRecord (g : Seg) (a : Nat) : a ∈ ((s.composeRecord k c).1.seg g).queue ↔
    a ∈ (s.seg g).queue ∨ ((g = keySeg k ∧ a = keyAddr k) ∧ (s.composeRecord k c).2 = true ∧
      (s.display k).state.inService = true) := by
  rcases composeRecord_cases s k c with h | ⟨d, h⟩ | h <;> rw [h]
  · simp
  · simp only [Bool.false_eq_true, false_and, and_false, or_false]
    rfl
  · dsimp only
    split
    · rename_i hservice
      rw [mem_joinQueue]
      simp only [hservice, and_true]
      rfl
    · rename_i hservice
      simp only [hservice, and_false, or_false, Bool.false_eq_true]
      rfl

theorem composeRecord_nodup {g : Seg} (hn : (s.seg g).queue.Nodup) : ((s.composeRecord k c).1.seg g).queue.Nodup := by
  rcases composeRecord_cases s k c with h | ⟨d, h⟩ | h <;> rw [h]
  · exact hn
  · exact hn
  · dsimp only
    split
    · exact nodup_joinQueue _ k g hn
    · exact hn

end

/-! ## Requests (R156, R157, R159) -/

theorem DeliveryOk.sweepRequest (h : DeliveryOk s) (tag : Byte) : DeliveryOk (Machine.sweepRequest tag g s).state := by
  unfold Machine.sweepRequest
  split
  · exact h
  · exact DeliveryOk.of_eq (DeliveryOk.requestSweep (h.modSeg ⟨rfl, id, fun _ _ _ _ ha => .inl ha⟩) _) rfl rfl rfl

/-- A directory whose records are rewritten, the blank record to itself. -/
theorem display_mapVals {t : State} {f : Nat → Display → Display} (ht : t.dir = Table.mapVals f s.dir) (k : Nat)
    (hf : f k (Display.freed none) = Display.freed none) : t.display k = f k (s.display k) := by
  rw [State.display, State.display, ht, Table.get_mapVals]
  cases Table.get s.dir k with
  | none => exact hf.symm
  | some d => rfl

theorem addressesValid_mapVals {t : State} {f : Nat → Display → Display} (h : addressesValid s)
    (ht : t.dir = Table.mapVals f s.dir) (hs : t.segs = s.segs) : addressesValid t := by
  refine addressesValid_of_keys h (ht ▸ Table.wf_mapVals f h.1) (fun k hk => .inl ?_) fun g c i a n ha => .inl ?_
  · rw [ht, Table.get_mapVals, Option.isSome_map] at hk
    exact hk
  · rwa [State.seg, hs] at ha

/-- The records are rewritten, each waiting as before. -/
theorem DeliveryOk.mapVals {t : State} {f : Nat → Display → Display} (h : DeliveryOk s) (ht : t.dir = Table.mapVals f s.dir)
    (hs : t.segs = s.segs) (hb : queuesBounded t) (hfree : ∀ k, f k (Display.freed none) = Display.freed none)
    (hw : ∀ k d, (f k d).waits ↔ d.waits)
    (hc : ∀ k d, (∀ c, d.credits = some c → c ≤ Config.creditLimit) → ∀ c, (f k d).credits = some c → c ≤ Config.creditLimit) :
    DeliveryOk t := by
  have hdisplay : ∀ k, t.display k = f k (s.display k) := fun k => display_mapVals ht k (hfree k)
  refine ⟨addressesValid_mapVals h.addresses ht hs, h.queues.congr (fun k => ?_) fun g => ?_, fun k c hk => ?_, hb⟩
  · rw [hdisplay]
    exact hw ..
  · rw [State.seg, State.seg, hs]
  · rw [hdisplay] at hk
    exact hc k _ (h.credits k) c hk

theorem freeSegment_display {t : State} (ht : t.dir = freeSegment g s.dir) (k : Nat) :
    t.display k = if keySeg k = g ∧ (s.display k).state ≠ .free then Display.freed (s.display k).identity else s.display k :=
  display_mapVals ht k (if_neg fun h => h.2 rfl)

theorem DeliveryOk.resetSegment (h : DeliveryOk s) : DeliveryOk (s.resetSegment g) := by
  unfold State.resetSegment
  dsimp only
  refine DeliveryOk.requestSweep ?_ _
  generalize hu : ({ (s.modSeg g Segment.cleared).send g .busReset with
    dir := freeSegment g ((s.modSeg g Segment.cleared).send g .busReset).dir } : State) = u
  have hdir : u.dir = freeSegment g s.dir := hu ▸ rfl
  have hseg : ∀ i, u.seg i = if i = g then (s.seg g).cleared else s.seg i := fun i => by
    rw [← hu]
    split
    · subst i
      exact State.seg_modSeg ..
    · exact State.seg_modSeg_ne _ _ _ _ ‹_›
  have hdisplay := freeSegment_display (g := g) hdir
  refine ⟨addressesValid_of_keys h.addresses (hdir ▸ Table.wf_mapVals _ h.addresses.1) (fun k hk => .inl ?_)
    fun i c j a n ha => .inl ?_, fun i => ?_, fun k c hk => ?_, ?_⟩
  · rw [hdir, freeSegment, Table.get_mapVals, Option.isSome_map] at hk
    exact hk
  · rw [hseg] at ha
    split at ha
    · cases ha
    · exact ha
  · rw [hseg]
    split
    · subst i
      refine ⟨List.nodup_nil, fun a => iff_of_false List.not_mem_nil fun ⟨ha, hw⟩ => ?_⟩
      rw [hdisplay, keySeg_recKey ha] at hw
      by_cases hfree : (s.display (recKey g a)).state = .free
      · rw [if_neg fun h => h.2 hfree] at hw
        exact Display.not_waits_of_free hfree hw
      · rw [if_pos ⟨rfl, hfree⟩] at hw
        exact Bool.false_ne_true hw.2
    · rename_i hi
      refine ⟨h.queues.nodup i, fun a => (h.queues.mem_iff i a).trans (and_congr_right fun ha => ?_)⟩
      rw [hdisplay, if_neg fun hg => hi ((keySeg_recKey ha).symm.trans hg.1)]
      rfl
  · rw [hdisplay] at hk
    split at hk
    · cases hk
    · exact h.credits k c hk
  · have hr := reservations_modSeg s g Segment.cleared
    have hp : (s.seg g).cleared.polling = false := rfl
    have hru : u.reservations = (s.modSeg g Segment.cleared).reservations := by
      rw [← hu]
      rfl
    have hbus : u.bus = s.bus := hu ▸ rfl
    have hb := h.bounds
    rw [hp] at hr
    refine ⟨?_, hbus ▸ hb.2⟩
    rw [hru, hbus]
    have := hb.1
    simp only [Bool.toNat_false] at hr
    omega

theorem matchedState_inService (p : Option Nat) : (matchedState p).inService = true := by cases p <;> rfl

/-- A HELD record returns to service: with a back card it joins the queue (R159). -/
theorem DeliveryOk.reviveRecord (h : DeliveryOk s) {k : Nat} (hk : (s.display k).state.isHeld = true) (prior : Option Nat) :
    DeliveryOk (s.reviveRecord k prior) := by
  have hvalid := h.keyValid (RecState.ne_free_of_isHeld hk)
  have hout : keyAddr k ∉ (s.seg (keySeg k)).queue := fun hm =>
    RecState.not_inService_of_isHeld hk ((h.queues.mem_key_iff hvalid).mp hm).2
  generalize hd : ({ s.display k with state := matchedState prior, attempts := 0, busy := false } : Display) = d
  generalize ht : s.setDisplay k d = t
  have htk : t.display k = d := ht ▸ State.display_setDisplay_same ..
  have hservice : (t.display k).state.inService = true := by
    rw [htk, ← hd]
    exact matchedState_inService prior
  generalize hu : (t.composeRecord k .other).1 = u
  have htu : Recomposed t u := hu ▸ (composeRecord_composes ..).recomposed
  have huservice : (u.display k).state.inService = true := by
    rw [(htu.cards k).1]
    exact hservice
  have hta : addressesValid t := ht ▸ addressesValid_setDisplay h.addresses (.inl hvalid)
  have htc : creditsBounded t := ht ▸ creditsBounded_setDisplay h.credits (hd ▸ h.credits k)
  have hother : ∀ j, j ≠ k → u.display j = s.display j := fun j hj => by
    rw [← hu, composeRecord_display_other _ _ _ hj, ← ht, State.display_setDisplay_other _ _ _ _ hj]
  have htseg : ∀ g, t.seg g = s.seg g := fun g => ht ▸ rfl
  have hnodup : ∀ g, (u.seg g).queue.Nodup := fun g => by
    rw [← hu]
    exact composeRecord_nodup _ _ _ (htseg g ▸ h.queues.nodup g)
  have hmem : ∀ g a, ¬ (g = keySeg k ∧ a = keyAddr k) → (a ∈ (u.seg g).queue ↔ a ∈ (s.seg g).queue) := fun g a hga => by
    rw [← hu, mem_composeRecord, htseg]
    exact or_iff_left fun hx => hga hx.1
  have hcore : queueExact (if (u.display k).buffers.backCard.isSome then u.joinQueue k else u) := by
    split
    · rename_i hback
      refine h.queues.update hvalid hother (fun g => nodup_joinQueue u k g (hnodup g)) (fun g a hga => ?_) ?_
      · rw [mem_joinQueue, hmem g a hga]
        exact or_iff_left hga
      · rw [mem_joinQueue]
        exact iff_of_true (.inr ⟨rfl, rfl⟩) ⟨hback, huservice⟩
    · rename_i hback
      refine h.queues.update hvalid hother hnodup hmem (iff_of_false (fun hin => ?_) fun hw => hback hw.1)
      rw [← hu, mem_composeRecord, htseg] at hin
      rcases hin with hin | ⟨-, hfilled, -⟩
      · exact hout hin
      · exact hback (hu ▸ composeRecord_filled hfilled)
  have hrest : Composed u (if (u.display k).buffers.backCard.isSome then u.joinQueue k else u) := by
    split
    · exact joinQueue_composed ..
    · exact Composed.refl _
  have hfinal : s.reviveRecord k prior = if (u.display k).buffers.backCard.isSome then u.joinQueue k else u := by
    rw [State.reviveRecord, ← hu, ← ht, ← hd]
  have hcomposed : Composed t (s.reviveRecord k prior) := by
    rw [hfinal]
    exact Composed.trans (hu ▸ composeRecord_composed ..) hrest
  refine ⟨?_, hfinal ▸ hcore, fun j c hc => ?_, ?_⟩
  · refine addressesValid_of_keys hta (hcomposed.wf hta.1) (fun j hj => .inl (htu.keys j ?_)) fun g c i a n ha => .inl ?_
    · rw [hfinal] at hj
      split at hj <;> exact hj
    · rwa [hcomposed.activity_eq] at ha
  · rw [hcomposed.credits_eq] at hc
    exact htc j c hc
  · have hb := h.bounds
    rw [queuesBounded] at hb ⊢
    rwa [hcomposed.bus_eq, reservations_congr (s := s) fun g => by rw [Segment.polling, hcomposed.exchange_eq, htseg]; rfl, ← ht]

theorem DeliveryOk.revive (h : DeliveryOk s) (a : Nat) : DeliveryOk (Machine.revive g a s).state := by
  unfold Machine.revive
  split
  · exact h
  · rename_i hstate
    refine h.reviveRecord ?_ _
    rw [hstate]
    rfl
  · exact h

end

end Sys2Proof.Machine
end


section
/-! PROOFS. The delivery invariant through card delivery, polls and the dispatcher (chapter 8), completions and reset. -/

namespace Sys2Proof.Machine

section
variable {s t : State} {g : Seg}

/-! ## Card exchanges -/

/-- Cards and queues changed, and the queues are exact. -/
theorem DeliveryOk.of_composed (h : DeliveryOk s) (hc : Composed s t)
    (hkeys : ∀ k, (Table.get t.dir k).isSome = true → (Table.get s.dir k).isSome = true) (hq : queueExact t) : DeliveryOk t := by
  refine ⟨addressesValid_of_keys h.addresses (hc.wf h.addresses.1) (fun k hk => .inl (hkeys k hk)) fun g c i a n ha => .inl ?_,
    hq, fun k c hk => ?_, ?_⟩
  · rwa [hc.activity_eq] at ha
  · rw [hc.credits_eq] at hk
    exact h.credits k c hk
  · have hb := h.bounds
    rw [queuesBounded] at hb ⊢
    rwa [hc.bus_eq, reservations_congr (s := s) fun g => by rw [Segment.polling, hc.exchange_eq]; rfl]

theorem DeliveryOk.moveLast (h : DeliveryOk s) {k : Nat} (hk : Machine.keyValid k)
    (hw : (s.display k).waits) : DeliveryOk (s.moveLast k) :=
  h.of_composed (moveLast_composed s k) (fun _ hk => hk) (h.queues.moveLast hk hw)

/-- The key of a record that is not the blank one. -/
theorem DeliveryOk.key (h : DeliveryOk s) {k : Nat} (hd : s.display k ≠ Display.freed none) :
    Machine.keyValid k := h.addresses.keyValid hd

/-- A record changes in what neither its queue nor its address sees. -/
theorem DeliveryOk.modDisplay (h : DeliveryOk s) {k : Nat} {d : Display}
    (hd : s.display k = Display.freed none → d = Display.freed none)
    (hw : d.waits ↔ (s.display k).waits) (hc : d.credits = (s.display k).credits) : DeliveryOk (s.setDisplay k d) := by
  refine h.setDisplay ?_ hw (hc ▸ h.credits k)
  by_cases hfree : s.display k = Display.freed none
  · exact .inr (hd hfree)
  · exact .inl (h.key hfree)

theorem endExchange_calm (x : Segment) (n : Turn) : x.Calm { x with exchange := none, turn := n } :=
  ⟨rfl, fun hp => absurd hp Bool.false_ne_true, fun _ _ _ _ ha => .inl ha⟩

theorem DeliveryOk.endExchange (h : DeliveryOk s) (n : Turn) : DeliveryOk (s.endExchange g n) := h.modSeg (endExchange_calm _ n)

theorem DeliveryOk.recompose (h : DeliveryOk s) (k : Nat) : DeliveryOk (s.recompose k) := by
  unfold State.recompose
  split
  · exact h
  · rename_i press entry hmark
    dsimp only
    have ht : DeliveryOk (s.setDisplay k { s.display k with recompose := .clear }) :=
      h.modDisplay (fun hd => by rw [hd]; rfl) Iff.rfl rfl
    generalize s.setDisplay k { s.display k with recompose := .clear } = t at ht ⊢
    generalize (if press = true then Cause.press else Cause.other) = c
    have hr := ht.of_composes (composeRecord_composes t k c)
    split
    · rename_i hmove
      simp only [Bool.and_eq_true] at hmove
      obtain ⟨⟨-, hfilled⟩, hservice⟩ := hmove
      exact hr.moveLast (hr.keyValid (RecState.ne_free_of_inService hservice)) ⟨composeRecord_filled hfilled, hservice⟩
    · exact hr

theorem DeliveryOk.endCard (h : DeliveryOk s) (a : Nat) : DeliveryOk (s.endCard g a) :=
  ((h.endExchange .poll).recompose _).startWaiting

theorem DeliveryOk.endPoll (h : DeliveryOk s) : DeliveryOk (s.endPoll g) := (h.endExchange .card).startWaiting

theorem Buffers.backCard_promote (b : Buffers) : b.promote.backCard = none := by
  obtain ⟨x, y, f⟩ := b
  cases f <;> rfl

theorem creditsAfter_le {d : Display} (hd : ∀ c, d.credits = some c → c ≤ Config.creditLimit) (n : Nat)
    (h : d.creditsAfter = some n) : n ≤ Config.creditLimit := by
  unfold Display.creditsAfter at h
  split at h
  · exact hd n h
  · split at h
    · obtain ⟨c, hc, rfl⟩ := Option.map_eq_some_iff.mp h
      exact Nat.le_trans (Nat.sub_le ..) (hd c hc)
    · exact hd n h

theorem DeliveryOk.applyAck (h : DeliveryOk s) (k : Nat) : DeliveryOk (s.applyAck k) := by
  unfold State.applyAck
  split
  · exact h
  · rename_i hfree
    refine h.leave (h.keyValid hfree) (fun hw => ?_) (creditsAfter_le (h.credits k))
    have hback := hw.1
    simp [Display.acknowledged, Buffers.backCard_promote] at hback

theorem DeliveryOk.ack (h : DeliveryOk s) (a : Nat) : DeliveryOk (Machine.ack g a s) := by
  unfold Machine.ack
  split
  · split
    · exact (h.applyAck _).endCard _
    · exact h
  · exact h

theorem DeliveryOk.nak (h : DeliveryOk s) (a : Nat) : DeliveryOk (Machine.nak g a s) := by
  unfold Machine.nak
  split
  · rename_i b _
    split
    · refine DeliveryOk.endCard (h.modDisplay (fun hd => ?_) ?_ ?_) _
      · rw [hd]
        rfl
      · unfold Display.refused
        split <;> rfl
      · unfold Display.refused
        split <;> rfl
    · exact h
  · exact h

theorem DeliveryOk.enterHeld (h : DeliveryOk s) {k : Nat} (hk : (s.display k).state ≠ .free) (c : HeldCause) :
    DeliveryOk (s.enterHeld k c) := by
  unfold State.enterHeld
  dsimp only
  refine DeliveryOk.raiseIf (DeliveryOk.raise (h.leave (h.keyValid hk) (fun hw => ?_) ?_) ..) ..
  · exact Bool.false_ne_true hw.2
  · exact h.credits k

theorem DeliveryOk.missed (h : DeliveryOk s) (k : Nat) : DeliveryOk (s.missed k) := by
  unfold State.missed
  dsimp only
  split
  · rename_i hservice
    have ht : DeliveryOk (s.setDisplay k { s.display k with attempts := (s.display k).attempts + 1 }) :=
      h.setDisplay (.inl (h.keyValid (RecState.ne_free_of_inService hservice))) Iff.rfl (h.credits k)
    split
    · exact ht
    · refine ht.enterHeld ?_ _
      rw [State.display_setDisplay_same]
      exact RecState.ne_free_of_inService hservice
  · exact h

theorem DeliveryOk.replyTimeout (h : DeliveryOk s) : DeliveryOk (Machine.replyTimeout g s) := by
  unfold Machine.replyTimeout
  split
  · exact (h.missed _).endCard _
  · exact (h.missed _).endPoll
  · exact h

/-! ## The scanner (R163 to R166) -/

theorem DeliveryOk.cardExchange (h : DeliveryOk s) : DeliveryOk (Machine.cardExchange g s) := by
  unfold Machine.cardExchange State.sendCard
  split
  · dsimp only
    split
    · exact h
    · refine DeliveryOk.send (h.modSeg ?_) ..
      exact ⟨rfl, fun hp => absurd hp Bool.false_ne_true, fun _ _ _ _ ha => .inl ha⟩
  · exact h

/-- A poll is started only while an entry of the inbound queue is free and not reserved (R166). -/
theorem scannerChoice_poll {a : Nat} (h : s.scannerChoice g = some (.poll a)) :
    s.segmentFree g = true ∧ s.choosePoll g = some a := by
  unfold State.scannerChoice at h
  split at h
  · rename_i hfree
    refine ⟨hfree, ?_⟩
    dsimp only at h
    cases hc : s.chooseCard g <;> cases hp : s.choosePoll g <;> rw [hc, hp] at h <;> split at h <;> simp_all
  · cases h

theorem choosePoll_bound {a : Nat} (h : s.choosePoll g = some a) :
    s.bus.inbound.length + s.reservations < Config.inboundLimit := by
  unfold State.choosePoll at h
  split at h
  · assumption
  · cases h

theorem DeliveryOk.pollExchange (h : DeliveryOk s) : DeliveryOk (Machine.pollExchange g s) := by
  unfold Machine.pollExchange
  split
  · rename_i a hchoice
    have hbound := choosePoll_bound (scannerChoice_poll hchoice).2
    refine DeliveryOk.send ⟨addressesValid_modSeg h.addresses fun _ _ _ _ ha => .inl ha, queueExact_modSeg h.queues rfl,
      h.credits, ?_⟩ ..
    have hr := reservations_modSeg s g fun x => { x with exchange := some (.poll a), rotation := a }
    refine ⟨?_, h.bounds.2⟩
    have hle := Bool.toNat_le (Segment.polling { s.seg g with exchange := some (.poll a), rotation := a })
    change s.bus.inbound.length + _ ≤ _
    dsimp only at hr hle
    omega
  · exact h

/-! ## Poll outcomes -/

theorem DeliveryOk.answered (h : DeliveryOk s) (k : Nat) : DeliveryOk (s.answered k) := by
  unfold State.answered
  split
  · exact h
  · exact h.setDisplay (.inl (h.keyValid ‹_›)) Iff.rfl (h.credits k)

theorem DeliveryOk.pollNone (h : DeliveryOk s) (a : Nat) : DeliveryOk (Machine.pollNone g a s) := by
  unfold Machine.pollNone
  split
  · split
    · exact (h.answered _).endPoll
    · exact h
  · exact h

theorem DeliveryOk.pollNak (h : DeliveryOk s) (a : Nat) : DeliveryOk (Machine.pollNak g a s) := by
  unfold Machine.pollNak State.pollRefused
  split
  · split
    · split
      · exact (h.answered _).endPoll
      · exact h.endPoll
    · exact h
  · exact h

/-- A listed report takes the place its poll had reserved (R177). -/
theorem DeliveryOk.takeReport (h : DeliveryOk s) (hpoll : (s.seg g).polling = true) (b : Nat) (r : ReportKind) (o : Bool) :
    DeliveryOk (s.takeReport g b r o) := by
  have hs : (s.answered (recKey g b)).segs = s.segs := by
    unfold State.answered
    split <;> rfl
  have hbus : (s.answered (recKey g b)).bus = s.bus := by
    unfold State.answered
    split <;> rfl
  have ht := h.answered (recKey g b)
  unfold State.takeReport
  dsimp only
  generalize s.answered (recKey g b) = t at hs hbus ht
  refine DeliveryOk.startWaiting (g := g) ?_
  refine ⟨(ht.endExchange (g := g) .card).addresses, (ht.endExchange (g := g) .card).queues, ht.credits, ?_⟩
  have hr := reservations_modSeg t g fun x => { x with exchange := none, turn := .card }
  have hpt : (t.seg g).polling = true := by
    rw [State.seg, hs]
    exact hpoll
  have hnone : (Segment.polling { t.seg g with exchange := none, turn := .card }) = false := rfl
  rw [hpt, hnone] at hr
  simp only [Bool.toNat_true, Bool.toNat_false] at hr
  have hb := ht.bounds
  refine ⟨?_, hb.2⟩
  have hlen := hb.1
  change (t.bus.inbound ++ [_]).length + (t.modSeg g fun x => { x with exchange := none, turn := .card }).reservations ≤ _
  rw [List.length_append, List.length_singleton]
  omega

theorem DeliveryOk.report (h : DeliveryOk s) (a : Nat) (k c o : Byte) : DeliveryOk (Machine.report g a k c o s) := by
  unfold Machine.report
  split
  · rename_i b hex
    split
    · split
      · refine h.takeReport ?_ _ _ _
        rw [Segment.polling, hex]
      · exact h
    · exact h
  · exact h

/-! ## Refresh limits, credits and the dispatcher -/

theorem DeliveryOk.limitExpiry (h : DeliveryOk s) (a : Nat) : DeliveryOk (Machine.limitExpiry g a s) := by
  unfold Machine.limitExpiry
  dsimp only
  split
  · exact h
  · split
    · rename_i hbusy
      simp only [Bool.and_eq_true] at hbusy
      exact h.enterHeld (RecState.ne_free_of_inService hbusy.2) _
    · exact h.modDisplay (fun hd => by rw [hd]; rfl) Iff.rfl rfl

theorem DeliveryOk.creditRefill (h : DeliveryOk s) : DeliveryOk (Machine.creditRefill s) := by
  refine h.mapVals (f := fun _ d => d.refilled) rfl rfl h.bounds (fun _ => rfl) (fun _ _ => Iff.rfl) fun _ d hd c hc => ?_
  obtain ⟨n, hn, rfl⟩ := Option.map_eq_some_iff.mp hc
  have := hd n hn
  split <;> omega

theorem DeliveryOk.clearBusy (h : DeliveryOk s) {k : Nat} (hk : (s.display k).state ≠ .free) : DeliveryOk (s.clearBusy k) :=
  h.setDisplay (.inl (h.keyValid hk)) Iff.rfl (h.credits k)

theorem DeliveryOk.offerGuest (h : DeliveryOk s) (n : Nat) (k : GuestKind) (o : Bool) : DeliveryOk (s.offerGuest n k o) := by
  unfold State.offerGuest
  split
  · rename_i hlen
    refine DeliveryOk.of_eq (s := { s with bus := { s.bus with guests := s.bus.guests ++ [_], lossNote := false } })
      ⟨h.addresses, h.queues, h.credits, h.bounds.1, ?_⟩ rfl rfl rfl
    change (s.bus.guests ++ [_]).length ≤ _
    rw [List.length_append, List.length_singleton]
    exact hlen
  · exact ⟨h.addresses, h.queues, h.credits, h.bounds⟩

theorem DeliveryOk.handPress (h : DeliveryOk s) (k c : Nat) (x : PressCode) (o : Bool) : DeliveryOk (s.handPress k c x o) := by
  have hcabin : ∀ r, DeliveryOk (s.changeCabin c r (some k)) := fun r => h.of_keeps (changeCabin_keeps ..) (by decide)
  unfold State.handPress State.vacate
  dsimp only
  split
  · split
    · exact hcabin _
    · exact h
  · split
    · exact (hcabin _).offerGuest ..
    · exact h
  · split
    · exact (hcabin _).offerGuest ..
    · exact h

theorem DeliveryOk.dispatchKind (h : DeliveryOk s) (k : Nat) (e : InboundEntry) : DeliveryOk (s.dispatchKind k e) := by
  unfold State.dispatchKind
  dsimp only
  split
  · split
    · exact h.clearBusy (RecState.ne_free_of_inService ‹_›)
    · split
      · exact h.setDisplay (.inl (h.keyValid (RecState.ne_free_of_isHeld ‹_›))) Iff.rfl (h.credits k)
      · exact h
  · split
    · exact h.enterHeld (RecState.ne_free_of_inService ‹_›) _
    · exact h
  · split
    · exact h.handPress ..
    · exact h

theorem DeliveryOk.dispatch (h : DeliveryOk s) : DeliveryOk (Machine.dispatch s) := by
  unfold Machine.dispatch
  split
  · exact h
  · rename_i e rest hin
    have hrest : DeliveryOk { s with bus := { s.bus with inbound := rest } } := by
      refine ⟨h.addresses, h.queues, h.credits, ?_, h.bounds.2⟩
      have hb := h.bounds.1
      rw [hin, List.length_cons] at hb
      change rest.length + s.reservations ≤ _
      omega
    dsimp only
    refine DeliveryOk.dispatchKind ?_ ..
    split
    · rename_i hover
      simp only [Bool.and_eq_true] at hover
      exact hrest.clearBusy (RecState.ne_free_of_inService hover.2)
    · exact hrest

theorem DeliveryOk.readGuests (h : DeliveryOk s) (n : Nat) : DeliveryOk (Machine.readGuests n s).state := by
  unfold Machine.readGuests
  split
  · exact h
  · refine ⟨h.addresses, h.queues, h.credits, h.bounds.1, ?_⟩
    change (s.bus.guests.drop _).length ≤ _
    have := h.bounds.2
    rw [List.length_drop]
    omega

/-! ## Completions -/

theorem RecState.rebind_inService (x : RecState) (m : Option Nat) : (x.rebind m).inService = x.inService := by
  cases x <;> cases m <;> rfl

theorem bindState_inService (d : Display) (p : Nat) (i : Identity) (l : Option Nat) :
    (bindState d p i l).inService = d.state.inService := by
  unfold bindState
  split
  · rename_i h
    rw [h]
  · split_ifs
    · exact RecState.rebind_inService ..
    · exact RecState.rebind_inService ..
    · rfl

theorem DeliveryOk.commitMatch (h : DeliveryOk s) : DeliveryOk (Machine.commitMatch s) := by
  refine DeliveryOk.raiseIf ?_ ..
  refine h.mapVals rfl rfl h.bounds (fun _ => rfl) (fun _ d => ?_) fun _ _ hd => hd
  rw [Display.waits, Display.waits, Display.rematch, RecState.rebind_inService]

theorem DeliveryOk.commitCompletion (h : DeliveryOk s) : DeliveryOk (Machine.commitCompletion s) := by
  unfold Machine.commitCompletion
  split
  case h_2 => exact h
  rename_i n _
  dsimp only
  have hmatch : DeliveryOk (Machine.commitMatch (commitCarry s.activePlan (commitConditions (commitStore n s)))) :=
    DeliveryOk.commitMatch (h.of_eq rfl rfl rfl)
  refine hmatch.of_keeps (fs := [.store, .cabins, .ports, .prog, .routes, .dir, .segs, .stranded]) ?_ (by decide)
  refine Keeps.trans ?_ ((strandedAtStart_keeps _).mono (by decide))
  refine Keeps.trans ?_ ((composes_keeps (composeAll_composes _)).mono (by decide))
  refine Keeps.trans ?_ ((raise_keeps ..).mono (by decide))
  refine Keeps.trans ?_ ((raise_keeps ..).mono (by decide))
  refine Keeps.trans ?_ ((completeOp_same ..).toKeeps.mono (by decide))
  refine Keeps.trans ?_ ((commitRoutes_keeps _).mono (by decide))
  refine Keeps.trans ?_ ((withChoice_keeps _ _ _ (State.prog _).programme).mono (by decide))
  refine Keeps.trans ?_ ((retally_keeps _).mono (by decide))
  exact (finishWrite_same _).toKeeps.mono (by decide)

theorem DeliveryOk.bindCompletion (h : DeliveryOk s) : DeliveryOk (Machine.bindCompletion s) := by
  unfold Machine.bindCompletion
  split
  case h_2 => exact h
  rename_i p i l _
  dsimp only
  refine DeliveryOk.of_composes (DeliveryOk.completeOp (DeliveryOk.raiseIf ?_ ..) ..) (composeWhere_composes ..)
  refine h.mapVals (f := fun _ d => { d with state := bindState d p i l }) rfl rfl h.bounds (fun _ => rfl) (fun _ d => ?_)
    fun _ _ hd => hd
  simp only [Display.waits, bindState_inService]

/-! ## Reset and the passing second -/

theorem DeliveryOk.start : DeliveryOk State.reset := by
  have hseg : ∀ g, State.reset.seg g = Segment.initial := fun g => by fin_cases g <;> rfl
  refine ⟨⟨rfl, fun k d hm => absurd hm List.not_mem_nil, fun g c i a n ha => ?_⟩, fun g => ?_, fun k c hc => ?_,
    by decide, by decide⟩
  · rw [hseg] at ha
    cases ha
  · rw [hseg]
    exact ⟨List.nodup_nil, fun a => iff_of_false List.not_mem_nil fun ⟨_, hw, _⟩ => Bool.false_ne_true hw⟩
  · cases hc

theorem DeliveryOk.reset (h : exec .reset s = .next t) : DeliveryOk t := by
  cases h
  unfold startUp
  dsimp only
  refine DeliveryOk.of_keeps (fs := [.routes, .stranded, .ports]) ?_
    (((startComputation_keeps _).mono (by decide)).trans ((strandedAtStart_keeps _).mono (by decide))) (by decide)
  exact DeliveryOk.start.of_eq rfl rfl rfl

theorem tick_seg (s : State) (g : Seg) : s.tick.seg g = (s.seg g).tick := by fin_cases g <;> rfl

theorem tick_display (s : State) (k : Nat) : s.tick.display k = (s.display k).tick :=
  display_mapVals (f := fun _ d => d.tick) rfl k rfl

theorem DeliveryOk.tick (h : DeliveryOk s) : DeliveryOk s.tick := by
  refine ⟨addressesValid_of_keys h.addresses (Table.wf_mapVals _ h.addresses.1) (fun k hk => .inl ?_) fun g c i a n ha => .inl ?_,
    h.queues.congr (fun k => by rw [tick_display]; rfl) fun g => by rw [tick_seg]; rfl, fun k c hk => ?_, ?_⟩
  · change (Table.get (Table.mapVals _ s.dir) k).isSome = true at hk
    rwa [Table.get_mapVals, Option.isSome_map] at hk
  · rwa [tick_seg] at ha
  · rw [tick_display] at hk
    exact h.credits k c hk
  · rw [queuesBounded, reservations_congr (s := s) fun g => by rw [tick_seg]; rfl]
    exact h.bounds

end

/-! ## Every command -/

theorem exec_deliveryOk {c : Instr} {s t : State} (h : exec c s = .next t) (hs : DeliveryOk s) : DeliveryOk t := by
  have hports : ∀ {u v}, Keeps [.ports, .confirm] u v → DeliveryOk u → DeliveryOk v := fun hk hu => hu.of_keeps hk (by decide)
  revert hs
  refine exec_cases (P := fun s t => DeliveryOk s → DeliveryOk t) (fun s t hk hs => hs.of_keeps hk (by decide))
    (fun c s t hf hr h hs => ?_) (fun s t h _ => DeliveryOk.reset h) h
  have hbegin : DeliveryOk s.begin := hs.of_keeps (begin_keeps s) (by decide)
  cases c
  case unknownKind | badCrcFrame | frameWhileBusy | startByte | lengthOutOfRange => exact absurd hf.symm Bool.false_ne_true
  case reset => exact absurd rfl hr
  case sweep => exact execRequest_pred hports h hs fun u hu => parsed_state hu fun _ => hu.sweepRequest _
  case segmentReset => exact execRequest_pred hports h hs fun u hu => parsed_state hu fun _ => hu.resetSegment
  case revive => exact execRequest_pred hports h hs fun u hu => parsed_state hu fun _ => hu.revive _
  case readGuestRequests => exact execRequest_pred hports h hs fun u hu => parsed_state hu fun _ => hu.readGuests _
  case sweepStart => cases h; exact hbegin.sweepStart
  case automaticSweepTimerExpiry => cases h; exact hbegin.automaticExpiry
  case presence => cases h; exact hbegin.presenceWindow _
  case bit => cases h; exact hbegin.bitWindow _
  case capabilityReply => cases h; exact hbegin.capabilityReply ..
  case assignReplyTimeout => cases h; exact hbegin.assignTimeout
  case cardExchange => cases h; exact hbegin.cardExchange
  case pollExchange => cases h; exact hbegin.pollExchange
  case ack => cases h; exact hbegin.ack _
  case nak => cases h; exact hbegin.nak _
  case pollNone => cases h; exact hbegin.pollNone _
  case pollNak => cases h; exact hbegin.pollNak _
  case report => cases h; exact hbegin.report ..
  case panelReplyTimeout => cases h; exact hbegin.replyTimeout
  case refreshLimitExpiry => cases h; exact hbegin.limitExpiry _
  case creditRefill => cases h; exact hbegin.creditRefill
  case dispatch => cases h; exact hbegin.dispatch
  case commitCompletion => cases h; exact hbegin.commitCompletion
  case bindCompletion => cases h; exact hbegin.bindCompletion
  all_goals exact hs.of_keeps (execPlain_keeps hf hr h) (by simp only [facets]; decide)

theorem step_deliveryOk {s t : State} (h : step s = .next t) (hs : DeliveryOk s) : DeliveryOk t := by
  rcases step_cases h with rfl | ⟨c, rest, hexec⟩
  · exact hs.tick
  · exact exec_deliveryOk hexec (hs.of_eq rfl rfl rfl)

end Sys2Proof.Machine
end


section
/-! PROOFS. The canonical form of every table (log 33), operation by operation. -/

namespace Sys2Proof.Machine

/-- Every table of the state has its keys strictly rising. -/
structure TablesOk (s : State) : Prop where
  shadow : planWf s.plan.shadow
  active : ∀ a, s.plan.active = some a → planWf a.plan
  stored : ∀ a, s.store.plan = some a → planWf a.plan
  snapshot : ∀ sn, s.route.activity = .computing sn → snapshotWf sn
  cabins : Table.wf s.muster.cabins = true
  venues : Table.wf s.prog.venues = true
  edges : Table.wf s.cond.edges = true
  slots : Table.wf s.cond.slots = true
  remainders : Table.wf s.cond.remainders = true
  events : Table.wf s.prog.events = true
  texts : Table.wf s.prog.texts = true
  zones : Table.wf s.muster.zoneOverrides = true
  notices : Table.wf s.resolver.notices = true
  parked : Table.wf s.resolver.parked = true
  instructions : Table.wf s.resolver.instructions = true
  dir : Table.wf s.dir = true
  fixed : Table.wf s.store.fixed = true

theorem tablesWf_iff (s : State) : tablesWf s ↔ TablesOk s := by
  constructor
  · rintro ⟨h1, h2, h3, h4, h5, h6, h7, h8, h9, h10, h11, h12, h13, h14, h15, h16, h17⟩
    exact ⟨h1, h2, h3, h4, h5, h6, h7, h8, h9, h10, h11, h12, h13, h14, h15, h16, h17⟩
  · rintro ⟨h1, h2, h3, h4, h5, h6, h7, h8, h9, h10, h11, h12, h13, h14, h15, h16, h17⟩
    exact ⟨h1, h2, h3, h4, h5, h6, h7, h8, h9, h10, h11, h12, h13, h14, h15, h16, h17⟩

theorem planWf_empty : planWf Plan.empty := by unfold planWf; decide

/-- The facets that hold tables other than the directory. -/
abbrev planFacets : List Facet :=
  [.store, .active, .edit, .conditions, .routes, .events, .texts, .prog, .cabins, .zones, .resolver]

/-- The facets that hold tables, the directory's by what compositions keep. -/
abbrev tableFacets : List Facet := .records :: planFacets

section
variable {s t : State}

theorem TablesOk.of_keeps_dir {fs : List Facet} (h : TablesOk s) (hk : Keeps fs s t) (hfs : ∀ f ∈ planFacets, f ∉ fs)
    (hd : Table.wf t.dir = true) : TablesOk t := by
  have hkeep : ∀ f ∈ planFacets, f.same s t := fun f hf => hk.keeps f (hfs f hf)
  have hstore : t.store = s.store := hkeep .store (by decide)
  have hactive : t.plan.active = s.plan.active := hkeep .active (by decide)
  have hedit : t.plan = { s.plan with active := t.plan.active } := hkeep .edit (by decide)
  have hroutes : t.route = { s.route with profile := t.route.profile } := hkeep .routes (by decide)
  have hevents : t.prog.events = s.prog.events := hkeep .events (by decide)
  have htexts : t.prog.texts = s.prog.texts := hkeep .texts (by decide)
  have hprog : t.prog = { s.prog with events := t.prog.events, texts := t.prog.texts } := hkeep .prog (by decide)
  have hresolver : t.resolver = s.resolver := hkeep .resolver (by decide)
  have hzones : t.muster.zoneOverrides = s.muster.zoneOverrides := hkeep .zones (by decide)
  obtain ⟨hedges, hslots, hremainders⟩ := hkeep .conditions (by decide)
  obtain ⟨hcabins, -, -⟩ := hkeep .cabins (by decide)
  constructor
  · rw [hedit]
    exact h.shadow
  · rw [hactive]
    exact h.active
  · rw [hstore]
    exact h.stored
  · rw [hroutes]
    exact h.snapshot
  · rw [hcabins]
    exact h.cabins
  · rw [hprog]
    exact h.venues
  · rw [hedges]
    exact h.edges
  · rw [hslots]
    exact h.slots
  · rw [hremainders]
    exact h.remainders
  · rw [hevents]
    exact h.events
  · rw [htexts]
    exact h.texts
  · rw [hzones]
    exact h.zones
  · rw [hresolver]
    exact h.notices
  · rw [hresolver]
    exact h.parked
  · rw [hresolver]
    exact h.instructions
  · exact hd
  · rw [hstore]
    exact h.fixed

theorem TablesOk.of_keeps {fs : List Facet} (h : TablesOk s) (hk : Keeps fs s t) (hfs : ∀ f ∈ tableFacets, f ∉ fs) : TablesOk t :=
  h.of_keeps_dir hk (fun f hf => hfs f (List.mem_cons_of_mem _ hf))
    ((hk.keeps .records (hfs .records List.mem_cons_self)).wf h.dir)

theorem TablesOk.of_composes (h : TablesOk s) (hc : Composes s t) : TablesOk t := h.of_keeps (composes_keeps hc) (by decide)

/-- The store in its writes and settings alone. -/
theorem TablesOk.withStore (h : TablesOk s) {x : RetainedStore} (hp : x.plan = s.store.plan) (hf : x.fixed = s.store.fixed) :
    TablesOk { s with store := x } :=
  { h with stored := fun a ha => h.stored a (hp ▸ ha), fixed := hf ▸ h.fixed }

theorem TablesOk.requestLatch (h : TablesOk s) (w : LatchWrite) : TablesOk (s.requestLatch w) := by
  unfold State.requestLatch
  split <;> exact h.withStore rfl rfl

theorem TablesOk.finishWrite (h : TablesOk s) : TablesOk s.finishWrite := h.withStore rfl rfl
theorem TablesOk.startWrite (h : TablesOk s) (w : Write) : TablesOk (s.startWrite w) := h.withStore rfl rfl

theorem TablesOk.withMuster (h : TablesOk s) {m : MusterController} (hc : Table.wf m.cabins = true)
    (hz : Table.wf m.zoneOverrides = true) : TablesOk { s with muster := m } := { h with cabins := hc, zones := hz }

/-! ## The route engine -/

theorem TablesOk.snapshot_wf (h : TablesOk s) {a : ActivePlan} (ha : s.plan.active = some a) : snapshotWf (s.snapshot a) := by
  obtain ⟨hnodes, hedges, -, hstations, hvenues, hportals, -⟩ := h.active a ha
  exact ⟨hnodes, hedges, hportals, Table.wf_mapVals _ hstations, Table.wf_mapVals _ hvenues, h.edges, h.slots, h.remainders⟩

theorem TablesOk.withRoute (h : TablesOk s) {r : RouteEngine} (hr : ∀ sn, r.activity = .computing sn → snapshotWf sn) :
    TablesOk { s with route := r } := { h with snapshot := hr }

theorem TablesOk.startComputation (h : TablesOk s) : TablesOk s.startComputation := by
  unfold State.startComputation
  split
  · exact h.withRoute fun sn hsn => nomatch hsn
  · rename_i a ha
    dsimp only
    split
    · exact h.withRoute fun sn hsn => nomatch hsn
    · refine h.withRoute fun sn hsn => ?_
      cases hsn
      exact h.snapshot_wf ha

theorem TablesOk.runComputation (h : TablesOk s) : TablesOk s.runComputation := by
  unfold State.runComputation
  split
  · exact h.startComputation.of_keeps (handPublication_keeps _) (by decide)
  · exact h.startComputation

theorem TablesOk.trigger (h : TablesOk s) : TablesOk s.trigger := by
  unfold State.trigger
  split
  · exact h
  · split
    · exact h.runComputation
    · exact h.withRoute h.snapshot

theorem TablesOk.triggerIf (h : TablesOk s) (c : Bool) : TablesOk (s.triggerIf c) := by
  unfold State.triggerIf
  split
  · exact h.trigger
  · exact h

theorem TablesOk.rebuildDests (h : TablesOk s) : TablesOk s.rebuildDests := by
  unfold State.rebuildDests
  split
  · exact h
  · exact (h.withRoute (r := { s.route with dests := s.destList }) h.snapshot).trigger

theorem TablesOk.changeProfile (h : TablesOk s) (p : Profile) : TablesOk (s.changeProfile p) := by
  unfold State.changeProfile
  split
  · exact h
  · exact TablesOk.startComputation (h.withRoute h.snapshot)

/-! ## The muster's hand-off -/

theorem TablesOk.closeEdit (h : TablesOk s) : TablesOk s.closeEdit := by
  unfold State.closeEdit
  split
  · refine TablesOk.of_keeps (fs := [.ports]) (s := { s with plan := { s.plan with edit := .closed, shadow := .empty } }) ?_
      (raise_keeps ..) (by decide)
    exact { h with shadow := planWf_empty }
  · exact h

theorem TablesOk.handMuster (h : TablesOk s) (m : MusterState) : TablesOk (s.handMuster m) := by
  unfold State.handMuster
  dsimp only
  have h1 : TablesOk (if isEntry m s.muster.state then s.closeEdit else s) := by
    split
    · exact h.closeEdit
    · exact h
  generalize (if isEntry m s.muster.state = true then s.closeEdit else s) = s1 at h1 ⊢
  have h2 := h1.changeProfile s1.muster.state.profile
  refine h2.of_keeps (fs := [.dir, .segs, .stranded, .ports]) ?_ (by decide)
  refine Keeps.trans ?_ ((raise_keeps ..).mono (by decide))
  have h3 := Keeps.ite (c := isEntry m s.muster.state = true)
    ((composes_keeps (composeEntry_composes (s1.changeProfile s1.muster.state.profile))).mono
      (gs := [.dir, .segs, .stranded, .ports]) (by decide)) ((composes_keeps (composeAll_composes _)).mono (by decide))
  exact Keeps.ite h3 (h3.trans ((strandedAtStart_keeps _).mono (by decide)))

theorem retally_cabins (s : State) : s.retally.muster.cabins = s.muster.cabins := by
  unfold State.retally
  dsimp only
  split
  · rfl
  · rw [State.raiseIf_muster]

theorem TablesOk.retally (h : TablesOk s) : TablesOk s.retally := by
  unfold State.retally
  dsimp only
  split
  · exact h
  · refine TablesOk.of_keeps (fs := [.ports]) (s := { s with muster := { s.muster with tally := _, tallySerial := _ } }) ?_
      (raiseIf_keeps ..) (by decide)
    exact { h with }

theorem TablesOk.enterMuster (h : TablesOk s) (d : Bool) : TablesOk (s.enterMuster d) := by
  unfold State.enterMuster
  refine TablesOk.handMuster (TablesOk.requestLatch (TablesOk.retally (h.withMuster ?_ ?_)) _) _
  · exact Table.wf_mapVals _ h.cabins
  · exact h.zones

theorem TablesOk.resume (h : TablesOk s) (d : Bool) : TablesOk (s.resume d) := by
  unfold State.resume
  refine TablesOk.handMuster ?_ _
  split
  · refine TablesOk.requestLatch ?_ _
    exact { h with }
  · exact { h with }

theorem TablesOk.clearDrill (h : TablesOk s) : TablesOk s.clearDrill := by
  unfold State.clearDrill
  refine TablesOk.handMuster ?_ _
  split
  · refine TablesOk.requestLatch ?_ _
    exact { h with }
  · exact { h with }

theorem TablesOk.returnToQuiet (h : TablesOk s) : TablesOk s.returnToQuiet := by
  unfold State.returnToQuiet
  refine TablesOk.handMuster (TablesOk.retally (h.withMuster ?_ ?_)) _
  · exact Table.wf_mapVals _ h.cabins
  · exact h.zones

theorem TablesOk.alarmEvent (h : TablesOk s) : TablesOk s.alarmEvent := by
  have hr : TablesOk (s.raise .safety .musterByLine) := h.of_keeps (raise_keeps ..) (by decide)
  unfold State.alarmEvent
  dsimp only
  split
  · exact hr.enterMuster _
  · exact hr.enterMuster _
  · split
    · exact hr.clearDrill
    · exact hr
  · exact hr.resume _

theorem TablesOk.changeCabin (h : TablesOk s) (i : Nat) (c : CabinState) (k : Option Nat) : TablesOk (s.changeCabin i c k) := by
  have hset : TablesOk (s.setCabin i c) := h.withMuster (Table.wf_put _ _ h.cabins) h.zones
  unfold State.changeCabin
  split
  · exact h
  · dsimp only
    refine TablesOk.of_composes ?_ (composeCabin_composes ..)
    split
    · exact hset.retally
    · exact hset.retally.of_keeps (rebuildStranded_keeps _) (by decide)

theorem TablesOk.setZoneStation (h : TablesOk s) (z : Nat) (st : Option Nat) : TablesOk (s.setZoneStation z st) := by
  have hset : TablesOk { s with muster := { s.muster with zoneOverrides := Table.set s.muster.zoneOverrides z st } } :=
    h.withMuster h.cabins (Table.wf_set _ _ h.zones)
  unfold State.setZoneStation
  dsimp only
  split
  · exact hset
  · exact (hset.of_keeps (rebuildStranded_keeps _) (by decide)).of_composes (composePlacements_composes ..)

/-! ## The programme -/

theorem Table.wf_filterMap_range {α : Type} (n : Nat) (f : Nat → Option α) :
    Table.wf ((List.range n).filterMap fun v => (f v).map fun x => (v, x)) = true := by
  rw [List.range_eq_range']
  generalize 0 = k
  induction n generalizing k with
  | zero => rfl
  | succ n ih =>
    rw [List.range'_succ, List.filterMap_cons]
    cases hk : f k with
    | none => exact ih _
    | some x =>
      refine Bool.and_eq_true_iff.mpr ⟨(Table.above_iff _ _).mpr fun y hy => ?_, ih _⟩
      obtain ⟨v, hv, hy⟩ := List.mem_filterMap.mp hy
      obtain ⟨z, -, rfl⟩ := Option.map_eq_some_iff.mp hy
      exact (List.mem_range'_1.mp hv).1

theorem venueChoices_wf (es : Table Event) (now look : Nat) : Table.wf (venueChoices es now look) = true := by
  unfold venueChoices
  have h := Table.wf_filterMap_range Config.venueCount fun v =>
    if (nowEvent es v).isNone && (nextEvent es now look v).isNone then none
    else some (⟨nowEvent es v, nextEvent es now look v⟩ : VenueChoice)
  refine Eq.trans (congrArg _ (List.filterMap_congr fun v _ => ?_)) h
  dsimp only
  split <;> rfl

theorem chosenVenues_wf (s : State) : Table.wf s.chosenVenues = true := by
  unfold State.chosenVenues
  split
  · rfl
  · exact venueChoices_wf ..

theorem TablesOk.chooseAfresh (h : TablesOk s) (old : Table Event) : TablesOk (s.chooseAfresh old) := by
  unfold State.chooseAfresh
  dsimp only
  refine TablesOk.of_composes ?_ (composePlacements_composes ..)
  have hnext : TablesOk { s with prog := { s.prog with venues := s.chosenVenues, onBoard := s.chosenOnBoard } } :=
    { h with venues := chosenVenues_wf s }
  unfold State.handProgramme
  split
  · exact hnext
  · refine TablesOk.rebuildDests ?_
    exact { hnext with }

theorem TablesOk.expireNotices (h : TablesOk s) (n : Nat) : TablesOk (s.expireNotices n) := by
  unfold State.expireNotices
  refine TablesOk.of_composes ?_ (composeTargets_composes ..)
  exact { h with notices := Table.wf_keep _ h.notices }

theorem TablesOk.evaluateMinute (h : TablesOk s) (n : Nat) : TablesOk (s.evaluateMinute n) := by
  unfold State.evaluateMinute
  refine TablesOk.expireNotices (TablesOk.chooseAfresh ?_ _) _
  exact { h with events := Table.wf_keep _ (Table.wf_mapVals _ h.events) }

theorem TablesOk.storeEvent (h : TablesOk s) (id : Nat) (e : Event) : TablesOk (s.storeEvent id e) := by
  refine TablesOk.chooseAfresh ?_ _
  exact { h with events := Table.wf_put _ _ h.events }

theorem TablesOk.dropEvent (h : TablesOk s) (id : Nat) : TablesOk (s.dropEvent id) := by
  refine TablesOk.chooseAfresh ?_ _
  exact { h with events := Table.wf_del _ h.events }

theorem TablesOk.storeText (h : TablesOk s) (id lang : Nat) (t : Option Text) : TablesOk (s.storeText id lang t) := by
  unfold State.storeText
  split
  · exact h
  · refine TablesOk.of_composes ?_ (composeText_composes ..)
    exact { h with texts := Table.wf_set _ _ h.texts }

end

/-! ## Plans -/

theorem putRecord_wf {p : Plan} (h : planWf p) (i : Nat) (r : Record) : planWf (p.putRecord i r) := by
  obtain ⟨h1, h2, h3, h4, h5, h6, h7, h8⟩ := h
  cases r
  · exact ⟨Table.wf_put _ _ h1, h2, h3, h4, h5, h6, h7, h8⟩
  · exact ⟨h1, Table.wf_put _ _ h2, h3, h4, h5, h6, h7, h8⟩
  · exact ⟨h1, h2, Table.wf_put _ _ h3, h4, h5, h6, h7, h8⟩
  · exact ⟨h1, h2, h3, Table.wf_put _ _ h4, h5, h6, h7, h8⟩
  · exact ⟨h1, h2, h3, h4, Table.wf_put _ _ h5, h6, h7, h8⟩
  · exact ⟨h1, h2, h3, h4, h5, Table.wf_put _ _ h6, h7, h8⟩
  · exact ⟨h1, h2, h3, h4, h5, h6, Table.wf_put _ _ h7, h8⟩
  · exact ⟨h1, h2, h3, h4, h5, h6, h7, Table.wf_put _ _ h8⟩

theorem removeRecord_wf {p : Plan} (h : planWf p) (k : RecordKind) (i : Nat) : planWf (p.removeRecord k i) := by
  obtain ⟨h1, h2, h3, h4, h5, h6, h7, h8⟩ := h
  cases k
  · exact ⟨Table.wf_del _ h1, h2, h3, h4, h5, h6, h7, h8⟩
  · exact ⟨h1, Table.wf_del _ h2, h3, h4, h5, h6, h7, h8⟩
  · exact ⟨h1, h2, Table.wf_del _ h3, h4, h5, h6, h7, h8⟩
  · exact ⟨h1, h2, h3, Table.wf_del _ h4, h5, h6, h7, h8⟩
  · exact ⟨h1, h2, h3, h4, Table.wf_del _ h5, h6, h7, h8⟩
  · exact ⟨h1, h2, h3, h4, h5, Table.wf_del _ h6, h7, h8⟩
  · exact ⟨h1, h2, h3, h4, h5, h6, Table.wf_del _ h7, h8⟩
  · exact ⟨h1, h2, h3, h4, h5, h6, h7, Table.wf_del _ h8⟩

theorem setExpected_wf {p : Plan} (h : planWf p) (k : Nat) (e : Option Identity) : planWf (setExpected p k e) := by
  unfold setExpected
  split
  · obtain ⟨h1, h2, h3, h4, h5, h6, h7, h8⟩ := h
    exact ⟨h1, h2, h3, h4, h5, h6, h7, Table.wf_put _ _ h8⟩
  · exact h

theorem applyBind_wf {p : Plan} (h : planWf p) (k : Nat) (i : Identity) (l : Option Nat) : planWf (applyBind p k i l) := by
  unfold applyBind
  cases l with
  | none => exact setExpected_wf h ..
  | some j => exact setExpected_wf (setExpected_wf h ..) ..

theorem mapBind_wf {x : Option ActivePlan} (h : ∀ a, x = some a → planWf a.plan) (k : Nat) (i : Identity) (l : Option Nat)
    (a : ActivePlan)
    (ha : (x.map fun b => { b with plan := applyBind b.plan k i l }) = some a) : planWf a.plan := by
  obtain ⟨b, hb, rfl⟩ := Option.map_eq_some_iff.mp ha
  exact applyBind_wf (h b hb) ..

theorem applyPairs_wf {t : Table Condition} (h : Table.wf t = true) (ps : List (Nat × Condition)) :
    Table.wf (applyPairs t ps) = true := by
  unfold applyPairs
  induction ps generalizing t with
  | nil => exact h
  | cons x ps ih =>
    refine ih ?_
    dsimp only [putCondition]
    split
    · exact Table.wf_del _ h
    · exact Table.wf_put _ _ h

theorem applyRemainders_wf {t : Table Remainder} (h : Table.wf t = true) (cs : List RemainderChange) :
    Table.wf (applyRemainders t cs) = true := by
  unfold applyRemainders
  induction cs generalizing t with
  | nil => exact h
  | cons c cs ih => exact ih (Table.wf_set _ _ h)

end Sys2Proof.Machine
end


section
/-! PROOFS. The canonical form of every table (log 33) through every command, and the delivery invariant. -/

namespace Sys2Proof.Machine

/-! ## The directory through the panel bus -/

section
variable {s : State} {g : Seg} (h : Table.wf s.dir = true)
include h

theorem freeElsewhere_wf (i : Identity) : Table.wf (s.freeElsewhere g i).dir = true := by
  unfold State.freeElsewhere
  split
  · exact wf_setDisplay _ _ h
  · exact h

theorem closeSweep_wf (c : StepCode) : Table.wf (s.closeSweep g c).dir = true := by
  rwa [show (s.closeSweep g c).dir = s.dir from (closeSweep_same ..).keeps .dir (by decide)]

theorem assignAddress_wf (i : Identity) : Table.wf (s.assignAddress g i).dir = true := by
  unfold State.assignAddress
  split
  · exact h
  · split
    · exact h
    · split
      · exact closeSweep_wf (s := s.muteDisplay g i) h _
      · dsimp only
        split <;> exact freeElsewhere_wf h i

theorem bitWindow_wf (b : Bool) : Table.wf (bitWindow g b s).dir = true := by
  unfold bitWindow
  split
  · dsimp only
    split <;> exact h
  · dsimp only
    split
    · exact h
    · unfold State.checkOutcome
      split
      · exact assignAddress_wf (s := s.modSeg g _) h _
      · dsimp only
        split
        · exact h
        · exact closeSweep_wf (s := s.modSeg g _) h _
  · exact h

theorem composeRecord_wf (k : Nat) (c : Cause) : Table.wf (s.composeRecord k c).1.dir = true := (composeRecord_composed ..).wf h

theorem takeIn_wf (i : Identity) (a : Nat) (c : Capability) : Table.wf (s.takeIn g i a c).dir = true := by
  unfold State.takeIn
  dsimp only
  refine composeRecord_wf (s := State.modSeg _ g _) ?_ _ _
  change Table.wf (State.raiseIf _ _ _ _).dir = true
  rw [State.raiseIf_dir]
  exact wf_setDisplay (s := s.leaveQueue _) _ _ h

theorem assignFailed_wf (i : Identity) (a n : Nat) : Table.wf (s.assignFailed g i a n).dir = true := by
  rwa [show (s.assignFailed g i a n).dir = s.dir from (assignFailed_same ..).keeps .dir (by decide)]

theorem capabilityReply_wf (addr : Nat) (i : Identity) (c : Capability) : Table.wf (capabilityReply g addr i c s).dir = true := by
  unfold capabilityReply State.takeReply
  split
  · split
    · exact h
    · split
      · split
        · exact h
        · exact takeIn_wf (freeElsewhere_wf h _) ..
      · exact assignFailed_wf h ..
  · exact h

theorem recompose_wf (k : Nat) : Table.wf (s.recompose k).dir = true := by
  unfold State.recompose
  split
  · exact h
  · dsimp only
    rename_i press entry _
    generalize (if press = true then Cause.press else Cause.other) = c
    have hr := composeRecord_wf (wf_setDisplay k { s.display k with recompose := .clear } h) k c
    split <;> exact hr

theorem startWaiting_wf : Table.wf (s.startWaiting g).dir = true := by
  rwa [show (s.startWaiting g).dir = s.dir from (startWaiting_same ..).keeps .dir (by decide)]

theorem endCard_wf (a : Nat) : Table.wf (s.endCard g a).dir = true :=
  startWaiting_wf (recompose_wf (s := s.endExchange g .poll) h _)

theorem endPoll_wf : Table.wf (s.endPoll g).dir = true := startWaiting_wf (s := s.endExchange g .card) h

theorem enterHeld_wf (k : Nat) (c : HeldCause) : Table.wf (s.enterHeld k c).dir = true := by
  unfold State.enterHeld
  dsimp only
  rw [State.raiseIf_dir, State.raise_dir]
  exact wf_setDisplay (s := s.leaveQueue k) _ _ h

theorem ack_wf (a : Nat) : Table.wf (ack g a s).dir = true := by
  unfold ack State.applyAck
  split
  · split
    · refine endCard_wf ?_ _
      split
      · exact h
      · exact wf_setDisplay (s := s.leaveQueue _) _ _ h
    · exact h
  · exact h

theorem nak_wf (a : Nat) : Table.wf (nak g a s).dir = true := by
  unfold nak
  split
  · split
    · exact endCard_wf (wf_setDisplay _ _ h) _
    · exact h
  · exact h

theorem missed_wf (k : Nat) : Table.wf (s.missed k).dir = true := by
  unfold State.missed
  dsimp only
  split
  · split
    · exact wf_setDisplay _ _ h
    · exact enterHeld_wf (wf_setDisplay _ _ h) _ _
  · exact h

theorem replyTimeout_wf : Table.wf (replyTimeout g s).dir = true := by
  unfold replyTimeout
  split
  · exact endCard_wf (missed_wf h _) _
  · exact endPoll_wf (missed_wf h _)
  · exact h

theorem answered_wf (k : Nat) : Table.wf (s.answered k).dir = true := by
  unfold State.answered
  split
  · exact h
  · exact wf_setDisplay _ _ h

theorem pollNone_wf (a : Nat) : Table.wf (pollNone g a s).dir = true := by
  unfold pollNone
  split
  · split
    · exact endPoll_wf (answered_wf h _)
    · exact h
  · exact h

theorem pollNak_wf (a : Nat) : Table.wf (pollNak g a s).dir = true := by
  unfold pollNak State.pollRefused
  split
  · split
    · refine endPoll_wf ?_
      split
      · exact answered_wf h _
      · exact h
    · exact h
  · exact h

theorem report_wf (a : Nat) (k c o : Byte) : Table.wf (report g a k c o s).dir = true := by
  unfold report
  split
  · split
    · split
      · rename_i r o _ _
        unfold State.takeReport
        dsimp only
        refine endPoll_wf (s := { s.answered _ with bus := _ }) ?_
        exact answered_wf h _
      · exact h
    · exact h
  · exact h

theorem limitExpiry_wf (a : Nat) : Table.wf (limitExpiry g a s).dir = true := by
  unfold limitExpiry
  dsimp only
  split
  · exact h
  · split
    · exact enterHeld_wf h _ _
    · exact wf_setDisplay _ _ h

theorem requestSweep_wf (c : SweepCause) : Table.wf (s.requestSweep g c).dir = true := by
  rwa [show (s.requestSweep g c).dir = s.dir from (requestSweep_same ..).keeps .dir (by decide)]

theorem resetSegment_wf : Table.wf (s.resetSegment g).dir = true := by
  unfold State.resetSegment
  dsimp only
  exact requestSweep_wf (s := { (s.modSeg g Segment.cleared).send g .busReset with dir := freeSegment g s.dir })
    (Table.wf_mapVals _ h) _

theorem reviveRecord_wf (k : Nat) (p : Option Nat) : Table.wf (s.reviveRecord k p).dir = true := by
  have hu := composeRecord_wf (wf_setDisplay k { s.display k with state := matchedState p, attempts := 0, busy := false } h) k
    .other
  unfold State.reviveRecord
  dsimp only
  split <;> exact hu

end

/-! ## The commands -/

section
variable {s : State} (h : TablesOk s)
include h

theorem TablesOk.planOpen (n : Nat) : TablesOk (Machine.planOpen n s).state := by
  have hplan : planWf s.activePlan := by
    unfold State.activePlan
    split
    · exact h.active _ ‹_›
    · exact planWf_empty
  unfold Machine.planOpen
  split_ifs
  · exact h
  · exact h
  · exact h
  · split
    · exact { h with shadow := hplan }
    · exact { h with shadow := planWf_empty }
    · exact h

theorem TablesOk.planWrite (b : Except Reason PlanWriteBody) : TablesOk (Machine.planWrite b s).state := by
  unfold Machine.planWrite
  split
  · exact h
  · split
    · exact h
    · exact h
    · refine parsed_state h fun w => ?_
      dsimp only
      split
      · exact { h with shadow := putRecord_wf h.shadow .. }
      · exact { h with shadow := removeRecord_wf h.shadow .. }

theorem TablesOk.planAbandon : TablesOk (Machine.planAbandon s).state := by
  unfold Machine.planAbandon
  split
  · exact h
  · exact h
  · exact { h with shadow := planWf_empty }

theorem TablesOk.beginOp (l : LinkId) (e : OpEntry) : TablesOk (s.beginOp l e) := h.of_keeps (beginOp_keeps ..) (by decide)

theorem TablesOk.planCommit (tag : Byte) : TablesOk (Machine.planCommit tag s).state := by
  unfold Machine.planCommit
  split
  · exact h
  · exact h
  · split
    · exact h
    · split
      · exact h
      · refine TablesOk.beginOp (TablesOk.startWrite ?_ _) ..
        exact { h with }

theorem TablesOk.bindDisplay (tag : Byte) (p : Nat) (g : Seg) (a : Nat) : TablesOk (Machine.bindDisplay tag p g a s).state := by
  unfold Machine.bindDisplay
  split_ifs
  · exact h
  · exact h
  · split
    · exact h
    · dsimp only
      split
      · exact h
      · split
        · exact h
        · split
          · exact h
          · exact (h.startWrite _).beginOp ..

theorem TablesOk.fixedDetour (tag : Byte) (f : DetourFields) (c : ConditionTable) :
    TablesOk (Machine.fixedDetour tag f c s).state := by
  unfold Machine.fixedDetour
  split
  · exact h
  · split
    · exact h
    · split_ifs
      · exact h
      · exact h
      · refine TablesOk.beginOp (TablesOk.startWrite ?_ _) ..
        exact { h with }

theorem TablesOk.setCondition (ps : List (Nat × Nat)) : TablesOk (Machine.setCondition ps s).state := by
  unfold Machine.setCondition
  split
  · split
    · exact h
    · refine TablesOk.triggerIf ?_ _
      exact { h with edges := applyPairs_wf h.edges _ }
  · exact h

theorem TablesOk.softDetourSet (f : DetourFields) : TablesOk (Machine.softDetourSet f s).state := by
  unfold Machine.softDetourSet
  split
  · exact h
  · split_ifs
    · exact h
    · exact h
    · refine TablesOk.trigger ?_
      exact { h with slots := Table.wf_put _ _ h.slots }

theorem TablesOk.softDetourClear (z : Nat) : TablesOk (Machine.softDetourClear z s).state := by
  unfold Machine.softDetourClear
  split_ifs
  · exact h
  · exact h
  · split
    · exact h
    · split
      · exact h
      · refine TablesOk.trigger ?_
        exact { h with slots := Table.wf_del _ h.slots }

theorem TablesOk.remainderSet (l : LinkId) (xs : List RemainderItem) : TablesOk (Machine.remainderSet l xs s).state := by
  unfold Machine.remainderSet
  split
  · split
    · exact h
    · refine TablesOk.triggerIf ?_ _
      exact { h with remainders := applyRemainders_wf h.remainders _ }
  · exact h

theorem TablesOk.remainderClear (l : LinkId) (n : Nat) : TablesOk (Machine.remainderClear l n s).state := by
  unfold Machine.remainderClear
  split
  · exact h
  · split
    · exact h
    · refine TablesOk.triggerIf ?_ _
      exact { h with remainders := Table.wf_keep _ h.remainders }

theorem TablesOk.alert (d : Bool) : TablesOk (Machine.alert d s).state := by
  unfold Machine.alert
  split
  · refine TablesOk.handMuster ?_ _
    exact { h with }
  · split_ifs
    · exact h
    · exact h
    · exact h.clearDrill
  · exact h

theorem TablesOk.cancelAlert : TablesOk (Machine.cancelAlert s).state := by
  unfold Machine.cancelAlert
  split
  · refine TablesOk.handMuster ?_ _
    exact { h with }
  · exact h

theorem TablesOk.musterRequest (d : Bool) : TablesOk (Machine.musterRequest d s).state := by
  unfold Machine.musterRequest
  split
  · exact h.enterMuster d
  · split
    · exact h
    · exact h.enterMuster d
  · split_ifs
    · exact h
    · exact h
    · exact h.clearDrill
  · split
    · exact h
    · exact h.resume d

theorem TablesOk.standdown : TablesOk (Machine.standdown s).state := by
  unfold Machine.standdown
  split
  · refine TablesOk.handMuster ?_ _
    exact { h with }
  · exact h

theorem TablesOk.assignCabin (n : Nat) (st : Option Nat) : TablesOk (Machine.assignCabin n st s).state := by
  unfold Machine.assignCabin
  split
  · exact h
  · split
    · exact h
    · split
      · exact h.changeCabin ..
      · exact h

theorem TablesOk.markCabin (n : Nat) (v : Vacated) : TablesOk (Machine.markCabin n v s).state := by
  unfold Machine.markCabin
  split
  · exact h
  · split
    · exact h
    · exact h
    · split
      · exact h
      · exact h.changeCabin ..

theorem TablesOk.cabinGuests (b : CabinGuestsBody) : TablesOk (Machine.cabinGuests b s).state := by
  unfold Machine.cabinGuests
  split
  · exact h
  · exact h.changeCabin ..

theorem TablesOk.assignZone (z : Nat) (st : Option Nat) : TablesOk (Machine.assignZone z st s).state := by
  unfold Machine.assignZone
  split
  · exact h.setZoneStation ..
  · exact h

theorem TablesOk.setInstruction (n : Nat) (c : Option InstructionCode) : TablesOk (Machine.setInstruction n c s).state := by
  unfold Machine.setInstruction
  split
  · exact h
  · refine TablesOk.of_composes ?_ (composePlacements_composes ..)
    exact { h with instructions := Table.wf_set _ _ h.instructions }

theorem TablesOk.setParkedText (p : Nat) (x : Option Nat) : TablesOk (Machine.setParkedText p x s).state := by
  unfold Machine.setParkedText
  split_ifs
  · exact h
  · exact h
  · refine TablesOk.of_composes ?_ (composePlacements_composes ..)
    exact { h with parked := Table.wf_set _ _ h.parked }

theorem TablesOk.postNotice (l : LinkId) (b : PostNoticeBody) : TablesOk (Machine.postNotice l b s).state := by
  unfold Machine.postNotice
  split
  · exact h
  · split
    · exact h
    · refine TablesOk.of_composes ?_ (composeTargets_composes ..)
      exact { h with notices := Table.wf_put _ _ h.notices }

theorem TablesOk.withdrawNotice (l : LinkId) (i : Nat) : TablesOk (Machine.withdrawNotice l i s).state := by
  unfold Machine.withdrawNotice
  split
  · exact h
  · split
    · exact h
    · split
      · exact h
      · refine TablesOk.of_composes ?_ (composeTargets_composes ..)
        exact { h with notices := Table.wf_del _ h.notices }

theorem TablesOk.setClock (m n : Nat) : TablesOk (Machine.setClock m n s).state := by
  refine TablesOk.evaluateMinute ?_ _
  exact { h with }

theorem TablesOk.setOffset (v : Int) : TablesOk (Machine.setOffset v s).state := by
  unfold Machine.setOffset
  dsimp only
  split
  · exact h
  · refine TablesOk.of_composes ?_ (composePlacements_composes ..)
    exact { h with }

theorem TablesOk.setLanguages (p q : Nat) : TablesOk (Machine.setLanguages p q s).state := by
  unfold Machine.setLanguages State.composeNotDoors
  split_ifs
  · exact h
  · exact h
  · refine TablesOk.of_composes ?_ (composeWhere_composes ..)
    exact { h with }

theorem TablesOk.setLookahead (n : Nat) : TablesOk (Machine.setLookahead n s).state := by
  unfold Machine.setLookahead
  dsimp only
  split
  · exact h
  · refine TablesOk.chooseAfresh ?_ _
    exact { h with }

theorem TablesOk.eventAdd (b : EventAddBody) : TablesOk (Machine.eventAdd b s).state := by
  unfold Machine.eventAdd
  split_ifs
  · exact h
  · exact h
  · exact h
  · exact h.storeEvent ..

theorem TablesOk.eventModify (b : EventModifyBody) : TablesOk (Machine.eventModify b s).state := by
  unfold Machine.eventModify
  split
  · exact h
  · dsimp only
    split
    · exact h
    · exact h
    · split_ifs
      · exact h
      · exact h
      · exact h.storeEvent ..
    · split
      · exact h
      · exact h.storeEvent ..

theorem TablesOk.eventCancel (id : Nat) : TablesOk (Machine.eventCancel id s).state := by
  unfold Machine.eventCancel
  split
  · exact h
  · split
    · exact h
    · exact h
    · exact h.storeEvent ..

theorem TablesOk.eventDelete (id : Nat) : TablesOk (Machine.eventDelete id s).state := by
  unfold Machine.eventDelete
  split
  · exact h.dropEvent _
  · exact h

theorem TablesOk.textPut (id lang : Nat) (t : Text) : TablesOk (Machine.textPut id lang t s).state := by
  unfold Machine.textPut
  split
  · exact h
  · exact h.storeText ..

theorem TablesOk.textDelete (id lang : Nat) : TablesOk (Machine.textDelete id lang s).state := by
  unfold Machine.textDelete
  split
  · exact h.storeText ..
  · exact h

end

end Sys2Proof.Machine
end


section
/-! PROOFS. The canonical form of every table (log 33) at completions, events and reset, and the delivery invariant. -/

namespace Sys2Proof.Machine

section
variable {s : State} (h : TablesOk s)
include h

/-! ## Events -/

theorem TablesOk.setMusterTimers (l : LinkId) (tag : Byte) (o n : Nat) : TablesOk (Machine.setMusterTimers l tag o n s).state := by
  unfold Machine.setMusterTimers
  split
  · exact h
  · exact (h.startWrite _).beginOp ..

theorem TablesOk.setLinkTimeout (l : LinkId) (tag : Byte) (n : Nat) : TablesOk (Machine.setLinkTimeout l tag n s).state := by
  unfold Machine.setLinkTimeout
  split
  · exact h
  · exact (h.startWrite _).beginOp ..

theorem TablesOk.resetSegment (g : Seg) : TablesOk (s.resetSegment g) :=
  h.of_keeps_dir (resetSegment_same ..).toKeeps (by decide) (resetSegment_wf h.dir)

theorem TablesOk.revive (g : Seg) (a : Nat) : TablesOk (Machine.revive g a s).state := by
  unfold Machine.revive
  split
  · exact h
  · exact h.of_keeps_dir (reviveRecord_same ..).toKeeps (by decide) (reviveRecord_wf h.dir _ _)
  · exact h

theorem TablesOk.sweepRequest (tag : Byte) (g : Seg) : TablesOk (Machine.sweepRequest tag g s).state := by
  refine h.of_keeps_dir (sweepRequest_keeps ..) (by decide) ?_
  rw [(sweepRequest_keeps s tag g).keeps .dir (by decide)]
  exact h.dir

theorem TablesOk.generalAlarm : TablesOk (Machine.generalAlarm s) := by
  unfold Machine.generalAlarm
  split
  · refine TablesOk.alarmEvent ?_
    exact { h with }
  · exact h

theorem TablesOk.holdExpiry : TablesOk (Machine.holdExpiry s) := by
  unfold Machine.holdExpiry
  split
  · refine TablesOk.requestLatch ?_ _
    exact { h with }
  · exact h

theorem TablesOk.storeLatch (x : Latch) : TablesOk (s.storeLatch x) := by
  refine TablesOk.finishWrite ?_
  exact { h with }

theorem TablesOk.latchSetCompletion : TablesOk (Machine.latchSetCompletion s) := by
  unfold Machine.latchSetCompletion
  split
  · exact h.storeLatch _
  · exact h

theorem TablesOk.latchClearCompletion : TablesOk (Machine.latchClearCompletion s) := by
  unfold Machine.latchClearCompletion
  split
  · dsimp only
    split
    · exact (h.storeLatch _).returnToQuiet
    · exact h.storeLatch _
  · exact h

theorem TablesOk.applySettings (w : SettingsWrite) : TablesOk (s.applySettings w) := by
  unfold State.applySettings
  split
  · exact { h with }
  · exact { h with }
  · exact { h with }

theorem TablesOk.settingsCompletion : TablesOk (Machine.settingsCompletion s) := by
  unfold Machine.settingsCompletion
  split
  · exact (h.applySettings _).finishWrite.of_keeps (modPort_keeps ..) (by decide)
  · exact h

theorem TablesOk.minuteEvent : TablesOk (Machine.minuteEvent s) := by
  unfold Machine.minuteEvent
  split
  · exact h
  · split
    · refine TablesOk.evaluateMinute ?_ _
      exact { h with }
    · exact h

theorem TablesOk.clockHeld : TablesOk (Machine.clockHeld s) := by
  unfold Machine.clockHeld
  split
  · exact h
  · split
    · exact { h with }
    · exact h

theorem TablesOk.computationCompletion : TablesOk (Machine.computationCompletion s) := by
  unfold Machine.computationCompletion
  split
  · exact h
  · rename_i sn _
    have hp : TablesOk (s.publish sn).handPublication := by
      refine TablesOk.of_keeps ?_ (handPublication_keeps _) (by decide)
      exact h.withRoute fun _ hsn => nomatch hsn
    unfold State.resumeComputation
    split
    · exact hp.runComputation
    · exact hp

theorem TablesOk.dispatch : TablesOk (Machine.dispatch s) := by
  have hkind : ∀ (u : State) (k : Nat) (e : InboundEntry), TablesOk u → TablesOk (u.dispatchKind k e) := by
    intro u k e hu
    have hset : ∀ d, TablesOk (u.setDisplay k d) := fun d =>
      hu.of_keeps_dir (setDisplay_same ..).toKeeps (by decide) (wf_setDisplay _ _ hu.dir)
    have hpress : ∀ c r, TablesOk (u.changeCabin c r (some k)) := fun _ _ => hu.changeCabin ..
    have hguest : ∀ (v : State) n x o, TablesOk v → TablesOk (v.offerGuest n x o) := fun v n x o hv =>
      hv.of_keeps (offerGuest_keeps ..) (by decide)
    unfold State.dispatchKind
    dsimp only
    split
    · split
      · exact hset _
      · split
        · exact hset _
        · exact hu
    · split
      · exact hu.of_keeps_dir (enterHeld_same ..).toKeeps (by decide) (enterHeld_wf hu.dir _ _)
      · exact hu
    · split
      · unfold State.handPress State.vacate
        dsimp only
        split
        · split
          · exact hpress _ _
          · exact hu
        · split
          · exact hguest _ _ _ _ (hpress _ _)
          · exact hu
        · split
          · exact hguest _ _ _ _ (hpress _ _)
          · exact hu
      · exact hu
  unfold Machine.dispatch
  split
  · exact h
  · rename_i e rest _
    dsimp only
    have hrest : TablesOk { s with bus := { s.bus with inbound := rest } } := { h with }
    refine hkind _ _ _ ?_
    split
    · exact hrest.of_keeps_dir (clearBusy_same ..).toKeeps (by decide) (wf_setDisplay _ _ hrest.dir)
    · exact hrest

/-! ## Completions of plan writes -/

theorem TablesOk.raiseIf (c : Bool) (l : LinkId) (x : Source) :
    TablesOk (s.raiseIf c l x) := h.of_keeps (raiseIf_keeps ..) (by decide)

theorem TablesOk.commitCompletion : TablesOk (Machine.commitCompletion s) := by
  unfold Machine.commitCompletion
  split
  case h_2 => exact h
  rename_i n _
  dsimp only
  have hstore : TablesOk (commitStore n s) :=
    { h with
      shadow := planWf_empty
      active := fun a ha => by cases ha; exact h.shadow
      stored := fun a ha => by cases ha; exact h.shadow
      fixed := rfl }
  have hcond : TablesOk (commitConditions (commitStore n s)) := { hstore with edges := rfl, slots := rfl, remainders := rfl }
  have hnew : planWf (commitConditions (commitStore n s)).activePlan := h.shadow
  have hcarry : TablesOk (commitCarry s.activePlan (commitConditions (commitStore n s))) :=
    { hcond with
      cabins := Table.wf_mapVals _ hnew.2.2.2.2.2.2.1
      zones := Table.wf_keep _ hcond.zones
      parked := Table.wf_keep _ hcond.parked }
  have hmatch : TablesOk (commitMatch (commitCarry s.activePlan (commitConditions (commitStore n s)))) := by
    refine TablesOk.raiseIf ?_ ..
    exact { hcarry with dir := Table.wf_mapVals _ hcarry.dir }
  have htally := hmatch.finishWrite.retally
  generalize (commitMatch _).finishWrite.retally = u at htally
  have hselect : TablesOk (commitSelection u) := { htally with venues := chosenVenues_wf u }
  have hroutes : TablesOk (commitRoutes (commitSelection u)) := by
    refine TablesOk.startComputation ?_
    exact hselect.withRoute hselect.snapshot
  refine hroutes.of_keeps (fs := [.ports, .dir, .segs, .stranded]) ?_ (by decide)
  refine Keeps.trans ?_ ((strandedAtStart_keeps _).mono (by decide))
  refine Keeps.trans ?_ ((composes_keeps (composeAll_composes _)).mono (by decide))
  refine Keeps.trans ?_ ((raise_keeps ..).mono (by decide))
  refine Keeps.trans ?_ ((raise_keeps ..).mono (by decide))
  exact (completeOp_same ..).toKeeps.mono (by decide)

theorem TablesOk.bindCompletion : TablesOk (Machine.bindCompletion s) := by
  unfold Machine.bindCompletion
  split
  case h_2 => exact h
  rename_i p i l _
  dsimp only
  have hplans : TablesOk (bindPlans p i l s) :=
    { h with active := mapBind_wf h.active p i l, stored := mapBind_wf h.stored p i l }
  refine TablesOk.of_composes (TablesOk.of_keeps (fs := [.ports]) (TablesOk.raiseIf ?_ ..)
    ((completeOp_same ..).toKeeps.mono (by decide)) (by decide)) (composeWhere_composes ..)
  exact { hplans.finishWrite with dir := Table.wf_mapVals _ h.dir }

theorem TablesOk.fixedDetourCompletion : TablesOk (Machine.fixedDetourCompletion s) := by
  unfold Machine.fixedDetourCompletion
  split
  case h_2 => exact h
  dsimp only
  refine TablesOk.of_keeps (fs := [.ports]) (TablesOk.trigger (TablesOk.finishWrite ?_)) (completeOp_same ..).toKeeps (by decide)
  exact { h with fixed := Table.wf_put _ _ h.fixed, slots := Table.wf_put _ _ h.slots }

/-! ## Reset -/

theorem keep_plan_wf (n : Nat) (a : ActivePlan) (ha : (s.store.keep n).plan = some a) : planWf a.plan := by
  unfold RetainedStore.keep at ha
  split at ha
  · exact h.stored a ha
  · cases ha
  · rename_i p i l _
    unfold keptBind at ha
    dsimp only at ha
    split at ha
    · exact mapBind_wf h.stored p i l a ha
    · exact h.stored a ha
  · split at ha <;> exact h.stored a ha
  all_goals exact h.stored a ha

theorem keep_fixed_wf (n : Nat) : Table.wf (s.store.keep n).fixed = true := by
  unfold RetainedStore.keep
  split
  · exact h.fixed
  · rfl
  · exact h.fixed
  · split
    · exact Table.wf_put _ _ h.fixed
    · exact h.fixed
  all_goals exact h.fixed

theorem TablesOk.reset {t : State} (ht : exec .reset s = .next t) : TablesOk t := by
  cases ht
  have hplan := keep_plan_wf h s.freeCount
  have hfixed : Table.wf (s.store.afterReset s.freeCount).fixed = true := by
    simp only [RetainedStore.afterReset]
    split
    · exact keep_fixed_wf h _
    · rfl
  have hcabins : Table.wf (freshCabins (s.store.afterReset s.freeCount).startPlan) = true := by
    refine Table.wf_mapVals _ ?_
    unfold RetainedStore.startPlan
    split
    · rename_i a ha
      exact (hplan a ha).2.2.2.2.2.2.1
    · rfl
  have hblocks : TablesOk (startBlocks (s.store.afterReset s.freeCount) s.alarmLine (s.freeCount + freeValuesPerReset)
    s.pending) :=
    { shadow := planWf_empty, active := hplan, stored := hplan, snapshot := fun _ hsn => (nomatch hsn), cabins := hcabins,
      venues := rfl, edges := rfl, slots := hfixed, remainders := rfl, events := rfl, texts := rfl, zones := rfl, notices := rfl,
      parked := rfl, instructions := rfl, dir := rfl, fixed := hfixed }
  unfold startUp
  dsimp only
  refine TablesOk.of_keeps (fs := [.stranded, .ports]) (TablesOk.startComputation ?_) (strandedAtStart_keeps _) (by decide)
  exact hblocks.withRoute hblocks.snapshot

end

/-! ## Every command -/

/-- A command of the panel bus that leaves the directory in canonical form. -/
theorem TablesOk.of_panel {c : Instr} {s t : State} (hs : TablesOk s) (hf : isFrame c = false) (hr : c ≠ .reset)
    (h : exec c s = .next t) (hc : ∀ f ∈ planFacets, f ∉ facets c) (hd : Table.wf t.dir = true) : TablesOk t :=
  hs.of_keeps_dir (execPlain_keeps hf hr h) hc hd

theorem exec_tablesOk {c : Instr} {s t : State} (h : exec c s = .next t) (hs : TablesOk s) : TablesOk t := by
  have hports : ∀ {u v}, Keeps [.ports, .confirm] u v → TablesOk u → TablesOk v := fun hk hu => hu.of_keeps hk (by decide)
  revert hs
  refine exec_cases (P := fun s t => TablesOk s → TablesOk t) (fun s t hk hs => hs.of_keeps hk (by decide))
    (fun c s t hf hr h hs => ?_) (fun s t h hs => hs.reset h) h
  have hbegin : TablesOk s.begin := hs.of_keeps (begin_keeps s) (by decide)
  have hdir : Table.wf s.begin.dir = true := hbegin.dir
  cases c
  case unknownKind | badCrcFrame | frameWhileBusy | startByte | lengthOutOfRange => exact absurd hf.symm Bool.false_ne_true
  case reset => exact absurd rfl hr
  case planOpen => exact execRequest_pred hports h hs fun u hu => parsed_state hu fun _ => hu.planOpen _
  case planWrite => exact execRequest_pred hports h hs fun u hu => hu.planWrite _
  case planAbandon => exact execRequest_pred hports h hs fun u hu => hu.planAbandon
  case planCommit => exact execRequest_pred hports h hs fun u hu => hu.planCommit _
  case bind => exact execRequest_pred hports h hs fun u hu => parsed_state hu fun _ => hu.bindDisplay ..
  case setMusterTimers => exact execRequest_pred hports h hs fun u hu => parsed_state hu fun _ => hu.setMusterTimers ..
  case setLinkTimeout => exact execRequest_pred hports h hs fun u hu => parsed_state hu fun _ => hu.setLinkTimeout ..
  case fixedDetour =>
    refine execRequest_pred hports h hs fun u hu => ?_
    have hu' := hu.of_keeps (abandonConfirm_keeps u) (by decide)
    exact parsed_state hu' fun _ => hu'.fixedDetour ..
  case setCondition => exact execRequest_pred hports h hs fun u hu => parsed_state hu fun _ => hu.setCondition _
  case softDetourSet => exact execRequest_pred hports h hs fun u hu => parsed_state hu fun _ => hu.softDetourSet _
  case softDetourClear => exact execRequest_pred hports h hs fun u hu => parsed_state hu fun _ => hu.softDetourClear _
  case remainderSet => exact execRequest_pred hports h hs fun u hu => parsed_state hu fun _ => hu.remainderSet ..
  case remainderClear => exact execRequest_pred hports h hs fun u hu => parsed_state hu fun _ => hu.remainderClear ..
  case alert => exact execRequest_pred hports h hs fun u hu => parsed_state hu fun _ => hu.alert _
  case cancelAlert => exact execRequest_pred hports h hs fun u hu => hu.cancelAlert
  case muster => exact execRequest_pred hports h hs fun u hu => parsed_state hu fun _ => hu.musterRequest _
  case standdown => exact execRequest_pred hports h hs fun u hu => hu.standdown
  case assignCabinStation =>
    exact execRequest_pred hports h hs fun u hu => parsed_state hu fun _ => parsed_state hu fun _ => hu.assignCabin ..
  case markCabin =>
    exact execRequest_pred hports h hs fun u hu => parsed_state hu fun _ => parsed_state hu fun _ => hu.markCabin ..
  case cabinGuests => exact execRequest_pred hports h hs fun u hu => parsed_state hu fun _ => hu.cabinGuests _
  case assignZoneStation =>
    exact execRequest_pred hports h hs fun u hu =>
      parsed_state hu fun _ => parsed_state hu fun _ => parsed_state hu fun _ => hu.assignZone ..
  case setInstruction =>
    exact execRequest_pred hports h hs fun u hu =>
      parsed_state hu fun _ => parsed_state hu fun _ => parsed_state hu fun _ => hu.setInstruction ..
  case setParkedText => exact execRequest_pred hports h hs fun u hu => parsed_state hu fun _ => hu.setParkedText ..
  case postNotice => exact execRequest_pred hports h hs fun u hu => parsed_state hu fun _ => hu.postNotice ..
  case withdrawNotice => exact execRequest_pred hports h hs fun u hu => parsed_state hu fun _ => hu.withdrawNotice ..
  case setClock => exact execRequest_pred hports h hs fun u hu => parsed_state hu fun _ => hu.setClock ..
  case setOffset => exact execRequest_pred hports h hs fun u hu => parsed_state hu fun _ => hu.setOffset _
  case setLanguages => exact execRequest_pred hports h hs fun u hu => parsed_state hu fun _ => hu.setLanguages ..
  case setLookahead => exact execRequest_pred hports h hs fun u hu => parsed_state hu fun _ => hu.setLookahead _
  case eventAdd => exact execRequest_pred hports h hs fun u hu => parsed_state hu fun _ => hu.eventAdd _
  case eventModify => exact execRequest_pred hports h hs fun u hu => parsed_state hu fun _ => hu.eventModify _
  case eventCancel => exact execRequest_pred hports h hs fun u hu => parsed_state hu fun _ => hu.eventCancel _
  case eventDelete => exact execRequest_pred hports h hs fun u hu => parsed_state hu fun _ => hu.eventDelete _
  case textPut => exact execRequest_pred hports h hs fun u hu => parsed_state hu fun _ => hu.textPut ..
  case textDelete => exact execRequest_pred hports h hs fun u hu => parsed_state hu fun _ => hu.textDelete ..
  case generalAlarmEvent => cases h; exact hbegin.generalAlarm
  case standDownHoldExpiry => cases h; exact hbegin.holdExpiry
  case commitCompletion => cases h; exact hbegin.commitCompletion
  case bindCompletion => cases h; exact hbegin.bindCompletion
  case fixedDetourCompletion => cases h; exact hbegin.fixedDetourCompletion
  case latchSetCompletion => cases h; exact hbegin.latchSetCompletion
  case latchClearCompletion => cases h; exact hbegin.latchClearCompletion
  case settingsWriteCompletion => cases h; exact hbegin.settingsCompletion
  case computationCompletion => cases h; exact hbegin.computationCompletion
  case minuteEvent => cases h; exact hbegin.minuteEvent
  case clockRunStateHeld => cases h; exact hbegin.clockHeld
  case dispatch => cases h; exact hbegin.dispatch
  case sweep => exact execRequest_pred hports h hs fun u hu => parsed_state hu fun _ => hu.sweepRequest ..
  case segmentReset => exact execRequest_pred hports h hs fun u hu => parsed_state hu fun _ => hu.resetSegment _
  case revive => exact execRequest_pred hports h hs fun u hu => parsed_state hu fun _ => hu.revive ..
  case bit => exact hs.of_panel hf hr h (by simp only [facets]; decide) (by cases h; exact bitWindow_wf hdir _)
  case capabilityReply => exact hs.of_panel hf hr h (by simp only [facets]; decide) (by cases h; exact capabilityReply_wf hdir ..)
  case ack => exact hs.of_panel hf hr h (by simp only [facets]; decide) (by cases h; exact ack_wf hdir _)
  case nak => exact hs.of_panel hf hr h (by simp only [facets]; decide) (by cases h; exact nak_wf hdir _)
  case pollNone => exact hs.of_panel hf hr h (by simp only [facets]; decide) (by cases h; exact pollNone_wf hdir _)
  case pollNak => exact hs.of_panel hf hr h (by simp only [facets]; decide) (by cases h; exact pollNak_wf hdir _)
  case report => exact hs.of_panel hf hr h (by simp only [facets]; decide) (by cases h; exact report_wf hdir ..)
  case panelReplyTimeout => exact hs.of_panel hf hr h (by simp only [facets]; decide) (by cases h; exact replyTimeout_wf hdir)
  case refreshLimitExpiry => exact hs.of_panel hf hr h (by simp only [facets]; decide) (by cases h; exact limitExpiry_wf hdir _)
  case creditRefill => exact hs.of_panel hf hr h (by simp only [facets]; decide) (by cases h; exact Table.wf_mapVals _ hdir)
  case sweepStart | automaticSweepTimerExpiry | cardExchange | pollExchange | presence | assignReplyTimeout =>
    have hk := execPlain_keeps hf hr h
    refine hs.of_keeps_dir hk (by simp only [facets]; decide) ?_
    rw [hk.keeps .dir (by simp only [facets]; decide)]
    exact hs.dir
  all_goals exact hs.of_keeps (execPlain_keeps hf hr h) (by simp only [facets]; decide)

theorem step_tablesOk {s t : State} (h : step s = .next t) (hs : TablesOk s) : TablesOk t := by
  rcases step_cases h with rfl | ⟨c, rest, hexec⟩
  · exact { hs with dir := Table.wf_mapVals _ hs.dir }
  · refine exec_tablesOk hexec ?_
    exact { hs with }

/-- Settles O57: the records, queues and credits by `DeliveryOk`, the tables by `TablesOk`. -/
theorem deliveryInvariantIsKept : Obligations.DeliveryInvariantIsKept := by
  refine ⟨fun s t ha hq hc hb hstep => ?_, fun s t hs hstep => ?_⟩
  · obtain ⟨ha', hq', hc', hb'⟩ := step_deliveryOk hstep ⟨ha, hq, hc, hb⟩
    exact ⟨ha', hq', hc', hb'⟩
  · exact (tablesWf_iff t).mpr (step_tablesOk hstep ((tablesWf_iff s).mp hs))

end Sys2Proof.Machine
end


section
/-! PROOFS. What most commands leave of the records (R145): no record comes into use, none changes its identity and none is bound
to a new placement; and no sweep begins to assign an address. -/

namespace Sys2Proof.Machine

/-! ## One record -/

/-- `e` follows `d`: in use and bound to a placement only as `d` is, under the same identity. -/
structure Display.Follows (d e : Display) : Prop where
  blank : d = Display.freed none → e = Display.freed none
  used : e.state ≠ .free → d.state ≠ .free ∧ e.identity = d.identity
  bound : ∀ p, e.state.bound = some p → d.state.bound = some p

section
variable {d e : Display}

/-- A record that keeps its state and identity, the blank one staying blank. -/
theorem Display.Follows.of_state (hblank : d = Display.freed none → e = Display.freed none) (hs : e.state = d.state)
    (hi : e.identity = d.identity) : d.Follows e := ⟨hblank, fun h => ⟨hs ▸ h, hi⟩, fun _ h => hs ▸ h⟩

/-- A record in use keeps its identity and takes no other placement. -/
theorem Display.Follows.of_used (hd : d.state ≠ .free) (hi : e.identity = d.identity)
    (hb : ∀ p, e.state.bound = some p → d.state.bound = some p) : d.Follows e :=
  ⟨fun h => absurd (congrArg Display.state h) hd, fun _ => ⟨hd, hi⟩, hb⟩

/-- A record in use becomes FREE. -/
theorem Display.Follows.freed (hd : d.state ≠ .free) (i : Option Identity) : d.Follows (Display.freed i) :=
  ⟨fun h => absurd (congrArg Display.state h) hd, fun h => absurd rfl h, fun _ h => nomatch h⟩

theorem Display.Follows.refl (d : Display) : d.Follows d := .of_state id rfl rfl

theorem RecState.ne_free_of_bound {x : RecState} {p : Nat} (h : x.bound = some p) : x ≠ .free := fun hf => by
  rw [hf] at h
  cases h

end

/-! ## The directory and the sweeps -/

/-- Every record of `t` follows that of `s`. -/
structure SameHolders (s t : State) : Prop where
  wf : Table.wf s.dir = true → Table.wf t.dir = true
  keys : ∀ k, (Table.get t.dir k).isSome = true → (Table.get s.dir k).isSome = true
  used : ∀ k, (t.display k).state ≠ .free → (s.display k).state ≠ .free ∧ (t.display k).identity = (s.display k).identity
  bound : ∀ k p, (t.display k).state.bound = some p → (s.display k).state.bound = some p

/-- A sweep of `t` that assigns an identity assigned it to the same address in `s`. -/
def assignsAsBefore (s t : State) : Prop :=
  ∀ g c i a n, (t.seg g).activity = .sweeping c (.assign i a n) → ∃ c' n', (s.seg g).activity = .sweeping c' (.assign i a n')

/-- Records follow, and no sweep chooses an address. -/
structure Steady (s t : State) : Prop where
  holders : SameHolders s t
  assigns : assignsAsBefore s t

section
variable {s t u : State} {g : Seg}

theorem SameHolders.trans (h : SameHolders s t) (h' : SameHolders t u) : SameHolders s u := by
  refine ⟨fun hw => h'.wf (h.wf hw), fun k hk => h.keys k (h'.keys k hk), fun k hk => ?_, fun k p hp =>
    h.bound k p (h'.bound k p hp)⟩
  obtain ⟨ht, hi⟩ := h'.used k hk
  obtain ⟨hs, hj⟩ := h.used k ht
  exact ⟨hs, hi.trans hj⟩

theorem SameHolders.of_dir (h : t.dir = s.dir) : SameHolders s t := by
  have hd : ∀ k, t.display k = s.display k := fun k => by rw [State.display, State.display, h]
  exact ⟨fun hw => h ▸ hw, fun k hk => h ▸ hk, fun k hk => ⟨hd k ▸ hk, by rw [hd]⟩, fun k p hp => hd k ▸ hp⟩

theorem Steady.refl (s : State) : Steady s s := ⟨.of_dir rfl, fun _ c _ _ n ha => ⟨c, n, ha⟩⟩

theorem Steady.trans (h : Steady s t) (h' : Steady t u) : Steady s u := by
  refine ⟨h.holders.trans h'.holders, fun g c i a n ha => ?_⟩
  obtain ⟨c', n', hc⟩ := h'.assigns g c i a n ha
  exact h.assigns g c' i a n' hc

/-- Segments and records are as before. -/
theorem Steady.of_eq (hd : t.dir = s.dir) (hs : t.segs = s.segs) : Steady s t :=
  ⟨.of_dir hd, fun g c _ _ n ha => ⟨c, n, by rwa [State.seg, hs] at ha⟩⟩

theorem Steady.of_recomposed (h : Recomposed s t) : Steady s t := by
  have hstate : ∀ k, (t.display k).state = (s.display k).state ∧ (t.display k).identity = (s.display k).identity := fun k => by
    rw [(h.cards k).1]
    exact ⟨rfl, rfl⟩
  refine ⟨⟨h.wf, h.keys, fun k hk => ⟨(hstate k).1 ▸ hk, (hstate k).2⟩, fun k p hp => (hstate k).1 ▸ hp⟩, fun g c i a n ha => ?_⟩
  rw [h.queues g] at ha
  exact ⟨c, n, ha⟩

theorem Steady.of_keeps {fs : List Facet} (hk : Keeps fs s t) (hfs : Facet.records ∉ fs) : Steady s t :=
  .of_recomposed (hk.keeps .records hfs)

/-- A record changes to one that follows it. -/
theorem SameHolders.setDisplay {k : Nat} {d : Display} (hd : (s.display k).Follows d) : SameHolders s (s.setDisplay k d) := by
  refine ⟨wf_setDisplay k d, fun j hj => ?_, fun j hj => ?_, fun j p hp => ?_⟩
  · unfold State.setDisplay at hj
    dsimp only at hj
    split at hj
    · rw [Table.get_del] at hj
      split at hj
      · exact absurd hj Bool.false_ne_true
      · exact hj
    · rename_i hnew
      rw [Table.get_put] at hj
      split at hj
      · rename_i hjk
        subst hjk
        cases hget : Table.get s.dir j with
        | none => exact absurd (hd.blank (by rw [State.display, hget]; rfl)) hnew
        | some _ => rfl
      · exact hj
  · rw [State.display_setDisplay] at hj ⊢
    split at hj
    · rename_i hjk
      subst hjk
      rw [if_pos rfl]
      exact hd.used hj
    · rename_i hjk
      rw [if_neg hjk]
      exact ⟨hj, rfl⟩
  · rw [State.display_setDisplay] at hp
    split at hp
    · rename_i hjk
      subst hjk
      exact hd.bound p hp
    · exact hp

/-- A change of a segment that starts no assignment. -/
def Segment.NoNewAssign (x y : Segment) : Prop :=
  ∀ c i a n, y.activity = .sweeping c (.assign i a n) → ∃ c' n', x.activity = .sweeping c' (.assign i a n')

theorem Steady.of_modSeg {f : Segment → Segment} (hf : (s.seg g).NoNewAssign (f (s.seg g))) : Steady s (s.modSeg g f) := by
  refine ⟨.of_dir rfl, fun h c i a n ha => ?_⟩
  by_cases hg : h = g
  · subst hg
    rw [State.seg_modSeg] at ha
    exact hf c i a n ha
  · rw [State.seg_modSeg_ne _ _ _ _ hg] at ha
    exact ⟨c, n, ha⟩

/-- The activity stays. -/
theorem Segment.NoNewAssign.of_activity {x y : Segment} (h : y.activity = x.activity) : x.NoNewAssign y :=
  fun c _ _ n ha => ⟨c, n, h ▸ ha⟩

/-- The records are rewritten, each by one that follows it. -/
theorem SameHolders.mapVals {f : Nat → Display → Display} (ht : t.dir = Table.mapVals f s.dir)
    (hf : ∀ k (d : Display), d.Follows (f k d)) :
    SameHolders s t := by
  have hdisplay : ∀ k, t.display k = f k (s.display k) := fun k => display_mapVals ht k ((hf k _).blank rfl)
  refine ⟨fun hw => ht ▸ Table.wf_mapVals f hw, fun k hk => ?_, fun k hk => ?_, fun k p hp => ?_⟩
  · rw [ht, Table.get_mapVals, Option.isSome_map] at hk
    exact hk
  · rw [hdisplay] at hk ⊢
    exact (hf k _).used hk
  · rw [hdisplay] at hp
    exact (hf k _).bound p hp

end

/-! ## The shared operations

Each lemma continues a state `s` that is already steady from the state `o` at the command's start. -/

namespace Steady
section
variable {o s t : State} {g : Seg}

theorem eq (h : Steady o s) (hd : t.dir = s.dir) (hs : t.segs = s.segs) : Steady o t := h.trans (.of_eq hd hs)

theorem send (h : Steady o s) (g : Seg) (f : BusFrame) : Steady o (s.send g f) := h.eq rfl rfl

theorem raise (h : Steady o s) (l : LinkId) (x : Source) : Steady o (s.raise l x) := h.eq rfl rfl

theorem raiseIf (h : Steady o s) (c : Bool) (l : LinkId) (x : Source) : Steady o (s.raiseIf c l x) := h.eq (by simp) (by simp)

theorem completeOp (h : Steady o s) (k : OpKind) (g : Option Seg) (x : OpOutcome) : Steady o (s.completeOp k g x) := h.eq rfl rfl

theorem modSeg (h : Steady o s) {f : Segment → Segment} (hf : (s.seg g).NoNewAssign (f (s.seg g))) : Steady o (s.modSeg g f) :=
  h.trans (.of_modSeg hf)

/-- A segment changes in what is not its activity. -/
theorem modOther (h : Steady o s) {f : Segment → Segment} (hf : (f (s.seg g)).activity = (s.seg g).activity) :
    Steady o (s.modSeg g f) := h.modSeg (.of_activity hf)

theorem setDisplay (h : Steady o s) {k : Nat} {d : Display} (hd : (s.display k).Follows d) : Steady o (s.setDisplay k d) :=
  h.trans ⟨.setDisplay hd, fun _ c _ _ n ha => ⟨c, n, ha⟩⟩

theorem composes (h : Steady o s) (hc : Composes s t) : Steady o t := h.trans (.of_recomposed hc.recomposed)

theorem leaveQueue (h : Steady o s) (k : Nat) : Steady o (s.leaveQueue k) := h.modOther rfl

/-- A record changes as it leaves its queue. -/
theorem leave (h : Steady o s) {k : Nat} {d : Display} (hd : (s.display k).Follows d) :
    Steady o ((s.leaveQueue k).setDisplay k d) :=
  (h.leaveQueue k).setDisplay hd

theorem joinQueue (h : Steady o s) (k : Nat) : Steady o (s.joinQueue k) := by
  refine h.modOther ?_
  split <;> rfl

theorem moveLast (h : Steady o s) (k : Nat) : Steady o (s.moveLast k) :=
  h.trans ⟨.of_dir rfl, fun g c _ _ n ha => ⟨c, n, by rwa [(moveLast_composed s k).activity_eq] at ha⟩⟩

/-! ## Sweeps -/

theorem beginSweep (h : Steady o s) (c : SweepCause) : Steady o (s.beginSweep g c) := h.modSeg fun _ _ _ _ ha => nomatch ha

theorem requestSweep (h : Steady o s) (c : SweepCause) : Steady o (s.requestSweep g c) := by
  unfold State.requestSweep
  split
  · split
    · exact h.beginSweep c
    · exact h.modSeg fun _ _ _ _ ha => nomatch ha
  · split
    · exact h.modSeg fun _ _ _ _ ha => nomatch ha
    · exact h
  · exact h.modOther rfl

theorem startWaiting (h : Steady o s) : Steady o (s.startWaiting g) := by
  unfold State.startWaiting
  split
  · exact h.beginSweep _
  · exact h

/-- A phase that keeps the assignment, if it is one. -/
theorem setPhase (h : Steady o s) {p : SweepPhase}
    (hp : ∀ i a n, p = .assign i a n → ∃ c n', (s.seg g).activity = .sweeping c (.assign i a n')) : Steady o (s.setPhase g p) := by
  refine h.modSeg fun c i a n ha => ?_
  split at ha
  · cases ha
    exact hp _ _ _ rfl
  · exact ⟨c, n, ha⟩

theorem toPresence (h : Steady o s) : Steady o (s.toPresence g) := (h.setPhase (by exact nofun)).send ..

theorem sweepStart (h : Steady o s) : Steady o (Machine.sweepStart g s) := by
  unfold Machine.sweepStart
  dsimp only
  split
  · exact (h.startWaiting.send ..).toPresence
  · exact h

theorem automaticExpiry (h : Steady o s) : Steady o (Machine.automaticExpiry g s) := by
  unfold Machine.automaticExpiry
  split
  · exact h
  · split
    · exact h.modOther rfl
    · exact (h.modOther (f := fun x => { x with autoTimer := none }) rfl).requestSweep _

theorem sweepAgain (h : Steady o s) : Steady o (s.sweepAgain g) := by
  unfold State.sweepAgain
  split
  · exact beginSweep (h.modOther rfl) _
  · exact h

theorem completeSweep (h : Steady o s) (code : StepCode) : Steady o (s.completeSweep g code) := by
  unfold State.completeSweep
  dsimp only
  split
  · exact completeOp (h.modOther rfl) ..
  · exact h

theorem closeSweep (h : Steady o s) (code : StepCode) : Steady o (s.closeSweep g code) := by
  unfold State.closeSweep
  split
  · refine sweepAgain (completeSweep (modSeg (h.send g .sweepClose) ?_) _)
    exact fun _ _ _ _ ha => nomatch ha
  · exact h

theorem presenceWindow (h : Steady o s) (b : Bool) : Steady o (Machine.presenceWindow g b s) := by
  unfold Machine.presenceWindow
  split
  · split
    · exact (h.setPhase (by exact nofun)).send ..
    · exact h.closeSweep _
  · exact h

theorem muteDisplay (h : Steady o s) (i : Identity) : Steady o (s.muteDisplay g i) := (h.send ..).modOther rfl

theorem duplicate (h : Steady o s) (i : Identity) : Steady o (s.duplicate g i) := ((h.muteDisplay i).raise ..).toPresence

/-- A record in use becomes FREE. -/
theorem freeRecord (h : Steady o s) {k : Nat} (hk : (s.display k).state ≠ .free) : Steady o (s.freeRecord k) :=
  h.setDisplay (.freed hk _)

theorem freeElsewhere (h : Steady o s) (hw : Table.wf s.dir = true) (i : Identity) : Steady o (s.freeElsewhere g i) := by
  unfold State.freeElsewhere
  split
  · rename_i k hk
    exact h.freeRecord (RecState.ne_free_of_isHeld (heldElsewhere_held (holderOf_some hw hk).2))
  · exact h

theorem assignFailed (h : Steady o s) {c : SweepCause} {i : Identity} {a n : Nat}
    (ha : (s.seg g).activity = .sweeping c (.assign i a n)) : Steady o (s.assignFailed g i a n) := by
  unfold State.assignFailed
  split
  · exact (h.setPhase fun _ _ _ hp => by cases hp; exact ⟨_, _, ha⟩).send ..
  · exact (h.send ..).closeSweep _

theorem assignTimeout (h : Steady o s) : Steady o (Machine.assignTimeout g s) := by
  unfold Machine.assignTimeout
  split
  · exact h.assignFailed ‹_›
  · exact h

theorem sweepRequest (h : Steady o s) (tag : Byte) : Steady o (Machine.sweepRequest tag g s).state := by
  unfold Machine.sweepRequest
  split
  · exact h
  · exact eq (requestSweep (h.modOther rfl) _) rfl rfl

theorem resetSegment (h : Steady o s) : Steady o (s.resetSegment g) := by
  unfold State.resetSegment
  dsimp only
  refine requestSweep (h.trans ?_) _
  have hclear : Steady s ((s.modSeg g Segment.cleared).send g .busReset) :=
    ((Steady.refl s).modSeg (f := Segment.cleared) fun _ _ _ _ ha => nomatch ha).send ..
  refine hclear.trans ⟨SameHolders.mapVals rfl fun k d => ?_, fun _ c _ _ n ha => ⟨c, n, ha⟩⟩
  split
  · rename_i hd
    exact .freed hd.2 _
  · exact .refl d

theorem matchedState_bound (p : Option Nat) : (matchedState p).bound = p := by cases p <;> rfl

theorem revive (h : Steady o s) (a : Nat) : Steady o (Machine.revive g a s).state := by
  unfold Machine.revive
  split
  · exact h
  · rename_i prior c hstate
    have hset : Steady o (s.setDisplay (recKey g a)
        { s.display (recKey g a) with state := matchedState prior, attempts := 0, busy := false }) := by
      refine h.setDisplay (.of_used (by rw [hstate]; exact nofun) rfl fun p hp => ?_)
      rw [hstate]
      exact (matchedState_bound prior).symm.trans hp
    change Steady o (s.reviveRecord (recKey g a) prior)
    unfold State.reviveRecord
    dsimp only
    have hcomposed := hset.composes (composeRecord_composes _ (recKey g a) .other)
    split
    · exact hcomposed.joinQueue _
    · exact hcomposed
  · exact h

/-! ## Exchanges and the dispatcher -/

theorem endExchange (h : Steady o s) (n : Turn) : Steady o (s.endExchange g n) := h.modOther rfl

theorem recompose (h : Steady o s) (k : Nat) : Steady o (s.recompose k) := by
  unfold State.recompose
  split
  · exact h
  · rename_i press entry hmark
    dsimp only
    have ht : Steady o (s.setDisplay k { s.display k with recompose := .clear }) :=
      h.setDisplay (.of_state (fun hd => by rw [hd]; rfl) rfl rfl)
    generalize (if press = true then Cause.press else Cause.other) = c
    have hr := ht.composes (composeRecord_composes _ k c)
    split
    · exact hr.moveLast k
    · exact hr

theorem endCard (h : Steady o s) (a : Nat) : Steady o (s.endCard g a) := ((h.endExchange .poll).recompose _).startWaiting

theorem endPoll (h : Steady o s) : Steady o (s.endPoll g) := (h.endExchange .card).startWaiting

theorem applyAck (h : Steady o s) (k : Nat) : Steady o (s.applyAck k) := by
  unfold State.applyAck
  split
  · exact h
  · exact h.leave (.of_used ‹_› rfl fun _ hp => hp)

theorem ack (h : Steady o s) (a : Nat) : Steady o (Machine.ack g a s) := by
  unfold Machine.ack
  split
  · split
    · exact (h.applyAck _).endCard _
    · exact h
  · exact h

theorem refused_follows (d : Display) : d.Follows d.refused := by
  unfold Display.refused
  split
  · exact .of_used (RecState.ne_free_of_inService ‹_›) rfl fun _ hp => hp
  · exact .refl d

theorem nak (h : Steady o s) (a : Nat) : Steady o (Machine.nak g a s) := by
  unfold Machine.nak
  split
  · split
    · exact endCard (h.setDisplay (refused_follows _)) _
    · exact h
  · exact h

theorem enterHeld (h : Steady o s) {k : Nat} (hk : (s.display k).state ≠ .free) (c : HeldCause) : Steady o (s.enterHeld k c) := by
  unfold State.enterHeld
  dsimp only
  refine raiseIf (raise (h.leave ?_) ..) ..
  exact .of_used hk rfl fun _ hp => hp

theorem missed (h : Steady o s) (k : Nat) : Steady o (s.missed k) := by
  unfold State.missed
  dsimp only
  split
  · rename_i hservice
    have hfree := RecState.ne_free_of_inService hservice
    have ht : Steady o (s.setDisplay k { s.display k with attempts := (s.display k).attempts + 1 }) :=
      h.setDisplay (.of_used hfree rfl fun _ hp => hp)
    split
    · exact ht
    · refine ht.enterHeld ?_ _
      rw [State.display_setDisplay_same]
      exact hfree
  · exact h

theorem replyTimeout (h : Steady o s) : Steady o (Machine.replyTimeout g s) := by
  unfold Machine.replyTimeout
  split
  · exact (h.missed _).endCard _
  · exact (h.missed _).endPoll
  · exact h

theorem cardExchange (h : Steady o s) : Steady o (Machine.cardExchange g s) := by
  unfold Machine.cardExchange State.sendCard
  split
  · dsimp only
    split
    · exact h
    · exact send (h.modOther rfl) ..
  · exact h

theorem pollExchange (h : Steady o s) : Steady o (Machine.pollExchange g s) := by
  unfold Machine.pollExchange
  split
  · exact send (h.modOther rfl) ..
  · exact h

theorem answered (h : Steady o s) (k : Nat) : Steady o (s.answered k) := by
  unfold State.answered
  split
  · exact h
  · exact h.setDisplay (.of_used ‹_› rfl fun _ hp => hp)

theorem pollNone (h : Steady o s) (a : Nat) : Steady o (Machine.pollNone g a s) := by
  unfold Machine.pollNone
  split
  · split
    · exact (h.answered _).endPoll
    · exact h
  · exact h

theorem pollNak (h : Steady o s) (a : Nat) : Steady o (Machine.pollNak g a s) := by
  unfold Machine.pollNak State.pollRefused
  split
  · split
    · split
      · exact (h.answered _).endPoll
      · exact h.endPoll
    · exact h
  · exact h

theorem report (h : Steady o s) (a : Nat) (k c x : Byte) : Steady o (Machine.report g a k c x s) := by
  unfold Machine.report State.takeReport
  split
  · split
    · split
      · exact startWaiting (eq ((h.answered _).endExchange .card) rfl rfl)
      · exact h
    · exact h
  · exact h

theorem limitExpiry (h : Steady o s) (a : Nat) : Steady o (Machine.limitExpiry g a s) := by
  unfold Machine.limitExpiry
  dsimp only
  split
  · exact h
  · split
    · rename_i hbusy
      simp only [Bool.and_eq_true] at hbusy
      exact h.enterHeld (RecState.ne_free_of_inService hbusy.2) _
    · exact h.setDisplay (.of_state (fun hd => by rw [hd]; rfl) rfl rfl)

theorem creditRefill (h : Steady o s) : Steady o (Machine.creditRefill s) := by
  refine h.trans ⟨SameHolders.mapVals rfl fun _ d => ?_, fun _ c _ _ n ha => ⟨c, n, ha⟩⟩
  exact .of_state (fun hd => by rw [hd]; rfl) rfl rfl

theorem clearBusy (h : Steady o s) {k : Nat} (hk : (s.display k).state ≠ .free) : Steady o (s.clearBusy k) :=
  h.setDisplay (.of_used hk rfl fun _ hp => hp)

theorem offerGuest (h : Steady o s) (n : Nat) (k : GuestKind) (x : Bool) : Steady o (s.offerGuest n k x) := by
  unfold State.offerGuest
  split
  · exact h.eq rfl rfl
  · exact h.eq rfl rfl

theorem handPress (h : Steady o s) (k c : Nat) (x : PressCode) (b : Bool) : Steady o (s.handPress k c x b) := by
  have hcabin : ∀ r, Steady o (s.changeCabin c r (some k)) := fun r => h.trans (.of_keeps (changeCabin_keeps ..) (by decide))
  unfold State.handPress State.vacate
  dsimp only
  split
  · split
    · exact hcabin _
    · exact h
  · split
    · exact (hcabin _).offerGuest ..
    · exact h
  · split
    · exact (hcabin _).offerGuest ..
    · exact h

theorem dispatchKind (h : Steady o s) (k : Nat) (e : InboundEntry) : Steady o (s.dispatchKind k e) := by
  unfold State.dispatchKind
  dsimp only
  split
  · split
    · exact h.clearBusy (RecState.ne_free_of_inService ‹_›)
    · split
      · exact h.setDisplay (.of_used (RecState.ne_free_of_isHeld ‹_›) rfl fun _ hp => hp)
      · exact h
  · split
    · exact h.enterHeld (RecState.ne_free_of_inService ‹_›) _
    · exact h
  · split
    · exact h.handPress ..
    · exact h

theorem dispatch (h : Steady o s) : Steady o (Machine.dispatch s) := by
  unfold Machine.dispatch
  split
  · exact h
  · rename_i e rest hin
    have hrest : Steady o { s with bus := { s.bus with inbound := rest } } := h.eq rfl rfl
    dsimp only
    refine dispatchKind ?_ ..
    split
    · rename_i hover
      simp only [Bool.and_eq_true] at hover
      exact hrest.clearBusy (RecState.ne_free_of_inService hover.2)
    · exact hrest

theorem tick (h : Steady o s) : Steady o s.tick := by
  refine h.trans ⟨SameHolders.mapVals (f := fun _ d => d.tick) rfl fun _ d => ?_, fun g c i a n ha => ⟨c, n, ?_⟩⟩
  · exact .of_state (fun hd => by rw [hd]; rfl) rfl rfl
  · rwa [tick_seg] at ha

end
end Steady

end Sys2Proof.Machine
end


section
/-! PROOFS. Each identity in use belongs to one record (R145), and every record that holds an identity being assigned stands at the
address chosen for it: the invariant, command by command. -/

namespace Sys2Proof.Machine

/-- The part of the invariant that reads the directory and the sweeps. -/
structure HolderOk (s : State) : Prop where
  addresses : addressesValid s
  assign : assignSound s
  distinct : identitiesDistinct s

section
variable {s t : State} {g : Seg}

/-! ## What keeps it -/

/-- Records keep their identities, none comes into use and no sweep chooses an address. -/
theorem HolderOk.of_used (h : HolderOk s) (hw : Table.wf t.dir = true)
    (hk : ∀ k, (Table.get t.dir k).isSome = true → (Table.get s.dir k).isSome = true)
    (hu : ∀ k, (t.display k).state ≠ .free → (s.display k).state ≠ .free ∧ (t.display k).identity = (s.display k).identity)
    (ha : assignsAsBefore s t) : HolderOk t := by
  refine ⟨⟨hw, fun k d hm => ?_, fun g c i a n hact => ?_⟩, fun g c i a n hact k hg hf hi => ?_, fun j k i hj hk hi hi' => ?_⟩
  · obtain ⟨d', hd'⟩ := Option.isSome_iff_exists.mp (hk k (by rw [Table.get_of_mem hw hm]; rfl))
    exact h.addresses.2.1 k d' (Table.mem_of_get hd')
  · obtain ⟨c', n', hc⟩ := ha g c i a n hact
    exact h.addresses.2.2 g c' i a n' hc
  · obtain ⟨c', n', hc⟩ := ha g c i a n hact
    obtain ⟨hfs, his⟩ := hu k hf
    exact h.assign g c' i a n' hc k hg hfs (his ▸ hi)
  · obtain ⟨hfj, hij⟩ := hu j hj
    obtain ⟨hfk, hik⟩ := hu k hk
    exact h.distinct j k i hfj hfk (hij ▸ hi) (hik ▸ hi')

theorem HolderOk.steady (h : HolderOk s) (ht : Steady s t) : HolderOk t :=
  h.of_used (ht.holders.wf h.addresses.1) ht.holders.keys ht.holders.used ht.assigns

theorem HolderOk.of_keeps {fs : List Facet} (h : HolderOk s) (hk : Keeps fs s t) (hfs : Facet.records ∉ fs) : HolderOk t :=
  h.steady (.of_keeps hk hfs)

theorem HolderOk.keyValid (h : HolderOk s) {k : Nat} (hd : (s.display k).state ≠ .free) : Machine.keyValid k :=
  h.addresses.keyValid_of_state hd

/-! ## The address choice (R152) -/

theorem Table.not_of_first_eq_none {α β : Type} {f : Nat → α → Option β} {t : Table α} (h : Table.first f t = none) {k : Nat}
    {v : α}
    (hm : (k, v) ∈ t) : f k v = none := by
  induction t with
  | nil => cases hm
  | cons x t ih =>
    rw [Table.first] at h
    split at h
    · cases h
    · rename_i hx
      rcases List.mem_cons.mp hm with rfl | hm
      · exact hx
      · exact ih h hm

/-- A search for a holder that fails: no record in use that holds the identity satisfies it. -/
theorem holderOf_none {i : Identity} {p : Nat → Display → Bool} (h : s.holderOf i p = none) {k : Nat}
    (hf : (s.display k).state ≠ .free) (hi : (s.display k).identity = some i) : p k (s.display k) = false := by
  cases hget : Table.get s.dir k with
  | none => exact absurd (by rw [State.display, hget]; rfl) hf
  | some d =>
    have hd : s.display k = d := by rw [State.display, hget]; rfl
    have hno := Table.not_of_first_eq_none h (Table.mem_of_get hget)
    rw [hd] at hi ⊢
    simpa [hi] using hno

/-- ASSIGN begins at an address where every record of the segment that holds the identity stands. -/
theorem HolderOk.startAssign (h : HolderOk s) {i : Identity} {a : Nat} (ha : isAddress a)
    (honly : ∀ k, keySeg k = g → (s.display k).state ≠ .free → (s.display k).identity = some i → keyAddr k = a) :
    HolderOk (s.startAssign g i a) := by
  have hact : ∀ e c j b n, ((s.startAssign g i a).seg e).activity = .sweeping c (.assign j b n) →
      (e = g ∧ j = i ∧ b = a) ∨ (s.seg e).activity = .sweeping c (.assign j b n) := fun e c j b n he => by
    change ((s.setPhase g (.assign i a 0)).seg e).activity = _ at he
    by_cases heg : e = g
    · subst heg
      rw [State.setPhase, State.seg_modSeg] at he
      split at he
      · cases he
        exact .inl ⟨rfl, rfl, rfl⟩
      · exact .inr he
    · rw [State.setPhase, State.seg_modSeg_ne _ _ _ _ heg] at he
      exact .inr he
  refine ⟨⟨h.addresses.1, h.addresses.2.1, fun e c j b n he => ?_⟩, fun e c j b n he k hk hf hi => ?_, h.distinct⟩
  · rcases hact e c j b n he with ⟨-, -, rfl⟩ | he
    · exact ha
    · exact h.addresses.2.2 e c j b n he
  · rcases hact e c j b n he with ⟨rfl, rfl, rfl⟩ | he
    · exact honly k hk hf hi
    · exact h.assign e c j b n he k hk hf hi

theorem HolderOk.freeElsewhere (h : HolderOk s) (i : Identity) : HolderOk (s.freeElsewhere g i) :=
  h.steady ((Steady.refl s).freeElsewhere h.addresses.1 i)

theorem HolderOk.assignAddress (h : HolderOk s) (i : Identity) : HolderOk (s.assignAddress g i) := by
  unfold State.assignAddress
  split
  · rename_i k hk
    obtain ⟨hik, hhere⟩ := holderOf_some h.addresses.1 hk
    obtain ⟨-, hfree⟩ := heldHere_spec hhere
    refine h.startAssign (h.keyValid hfree).2 fun j _ hfj hij => ?_
    rw [h.distinct j k i hfj hfree hij hik]
  · rename_i hnone
    have hfreed := Steady.freeElsewhere (g := g) (Steady.refl s) h.addresses.1 i
    split
    · exact h.steady ((Steady.refl s).duplicate i)
    · split
      · exact h.steady (((Steady.refl s).muteDisplay i).closeSweep _)
      · dsimp only
        split
        · rename_i a ha
          refine (h.steady hfreed).startAssign (mem_freeAddresses.mp (chooseFree_mem ha)).1 fun k hg hf hi => ?_
          obtain ⟨hfs, his⟩ := hfreed.holders.used k hf
          have hhere := holderOf_none hnone hfs (his ▸ hi)
          simp [heldHere, hg, hfs] at hhere
        · exact h.steady hfreed

theorem HolderOk.checkOutcome (h : HolderOk s) (i : Identity) (b : BitVec 8) : HolderOk (s.checkOutcome g i b) := by
  have hmark : ∀ n : Segment → Nat, Steady s (s.modSeg g fun x => { x with mismatch := n x }) := fun n =>
    (Steady.refl s).modOther rfl
  unfold State.checkOutcome
  dsimp only
  split
  · exact (h.steady (hmark _)).assignAddress i
  · split
    · exact h.steady (hmark _).toPresence
    · exact h.steady ((hmark _).closeSweep _)

theorem HolderOk.bitWindow (h : HolderOk s) (b : Bool) : HolderOk (Machine.bitWindow g b s) := by
  unfold Machine.bitWindow
  split
  · dsimp only
    split
    · exact h.steady (((Steady.refl s).setPhase (by exact nofun)).send ..)
    · exact h.steady (((Steady.refl s).setPhase (by exact nofun)).send ..)
  · dsimp only
    split
    · exact h.steady (((Steady.refl s).setPhase (by exact nofun)).send ..)
    · exact h.checkOutcome ..
  · exact h

/-! ## Taking a display in (R154) -/

/-- The record at the assigned address takes the identity, when no other record in use holds it. -/
theorem HolderOk.enrol (h : HolderOk s) {c : SweepCause} {i : Identity} {a n : Nat} (ha : isAddress a)
    (hact : (s.seg g).activity = .sweeping c (.assign i a n))
    (honly : ∀ j, (s.display j).state ≠ .free → (s.display j).identity = some i → j = recKey g a) {d : Display}
    (hd : d.identity = some i) : HolderOk (s.setDisplay (recKey g a) d) := by
  have hholds : ∀ j k, ((s.setDisplay (recKey g a) d).display j).state ≠ .free → j ≠ recKey g a →
      ((s.setDisplay (recKey g a) d).display j).identity = some k → (s.display j).state ≠ .free ∧
        (s.display j).identity = some k := by
    intro j k hf hj hk
    rw [State.display_setDisplay_other _ _ _ _ hj] at hf hk
    exact ⟨hf, hk⟩
  have hown : ∀ k, ((s.setDisplay (recKey g a) d).display (recKey g a)).identity = some k → k = i := fun k hk => by
    rw [State.display_setDisplay_same, hd] at hk
    exact (Option.some.inj hk).symm
  refine ⟨addressesValid_setDisplay h.addresses (.inl (keyValid_recKey ha)), fun e c' j b m he k hk hf hi => ?_,
    fun j k x hfj hfk hij hik => ?_⟩
  · by_cases hkey : k = recKey g a
    · subst hkey
      obtain rfl : g = e := (keySeg_recKey ha).symm.trans hk
      have hassign := hact.symm.trans he
      cases hassign
      exact keyAddr_recKey ha
    · obtain ⟨hfs, his⟩ := hholds k j hf hkey hi
      exact h.assign e c' j b m he k hk hfs his
  · by_cases hj : j = recKey g a
    · subst hj
      by_cases hk : k = recKey g a
      · exact hk.symm
      · obtain ⟨hfs, his⟩ := hholds k x hfk hk hik
        exact (honly k hfs (hown x hij ▸ his)).symm
    · obtain ⟨hfs, his⟩ := hholds j x hfj hj hij
      by_cases hk : k = recKey g a
      · subst hk
        exact honly j hfs (hown x hik ▸ his)
      · obtain ⟨hfk', hik'⟩ := hholds k x hfk hk hik
        exact h.distinct j k x hfs hfk' his hik'

theorem RecState.isHeld_of_idle {x : RecState} (hf : x ≠ .free) (h : x.inService = false) : x.isHeld = true := by
  cases x with
  | free => exact absurd rfl hf
  | held _ _ => rfl
  | placed _ => exact absurd h.symm Bool.false_ne_true
  | orphan => exact absurd h.symm Bool.false_ne_true

/-- What follows the set-up of the record. -/
theorem takeIn_steady (g : Seg) (i : Identity) (a : Nat) (c : Capability) (s : State) :
    Steady ((s.leaveQueue (recKey g a)).setDisplay (recKey g a) (enrolled s.activePlan i c (s.display (recKey g a))))
      (s.takeIn g i a c) := by
  unfold State.takeIn
  dsimp only
  exact ((((Steady.refl _).raiseIf ..).modOther rfl).composes (composeRecord_composes ..)).toPresence

/-- After R152 case 4 no other record in use holds the identity of a display that is not a duplicate. -/
theorem holder_after_freeElsewhere (h : HolderOk s) {c : SweepCause} {i : Identity} {a n : Nat}
    (hact : (s.seg g).activity = .sweeping c (.assign i a n)) (hlive : s.holderOf i (liveElsewhere g) = none) {j : Nat}
    (hf : ((s.freeElsewhere g i).display j).state ≠ .free) (hi : ((s.freeElsewhere g i).display j).identity = some i) :
    j = recKey g a := by
  obtain ⟨hfs, his⟩ := ((Steady.refl s).freeElsewhere (g := g) h.addresses.1 i).holders.used j hf
  rw [his] at hi
  have hj := h.keyValid hfs
  by_cases hg : keySeg j = g
  · rw [← h.assign g c i a n hact j hg hfs hi, ← hg]
    exact (recKey_of_keyValid hj).symm
  · exfalso
    have hnolive := holderOf_none hlive hfs hi
    have hheld : (s.display j).state.isHeld = true := RecState.isHeld_of_idle hfs (by simpa [liveElsewhere, hg] using hnolive)
    unfold State.freeElsewhere at hf
    split at hf
    · rename_i k hk
      obtain ⟨hik, hkheld⟩ := holderOf_some h.addresses.1 hk
      have hjk := h.distinct j k i hfs (RecState.ne_free_of_isHeld (heldElsewhere_held hkheld)) hi hik
      subst hjk
      rw [State.freeRecord, State.display_setDisplay_same] at hf
      exact hf rfl
    · rename_i hnone
      have hno := holderOf_none hnone hfs hi
      simp [heldElsewhere, hg, hheld] at hno

theorem HolderOk.takeReply (h : HolderOk s) {x : SweepCause} {i : Identity} {a n : Nat}
    (hact : (s.seg g).activity = .sweeping x (.assign i a n)) (c : Capability) : HolderOk (s.takeReply g i a c) := by
  unfold State.takeReply
  split
  · exact h.steady ((Steady.refl s).duplicate i)
  · rename_i hlive
    have hnone : s.holderOf i (liveElsewhere g) = none := Option.not_isSome_iff_eq_none.mp hlive
    have hother : ∀ j, ((s.freeElsewhere g i).display j).state ≠ .free → ((s.freeElsewhere g i).display j).identity = some i →
        j = recKey g a := fun j => holder_after_freeElsewhere h hact hnone
    have ht := h.freeElsewhere (g := g) i
    have hsegs : (s.freeElsewhere g i).seg g = s.seg g := by
      unfold State.freeElsewhere
      split <;> rfl
    generalize s.freeElsewhere g i = t at ht hother hsegs
    refine HolderOk.steady ?_ (takeIn_steady g i a c t)
    refine HolderOk.enrol (c := x) (n := n) (ht.steady ((Steady.refl t).leaveQueue _)) (h.addresses.2.2 _ _ _ _ _ hact) ?_
      hother rfl
    rw [(leaveQueue_composed t _).activity_eq, hsegs]
    exact hact

theorem HolderOk.capabilityReply (h : HolderOk s) (addr : Nat) (i : Identity) (c : Capability) :
    HolderOk (Machine.capabilityReply g addr i c s) := by
  unfold Machine.capabilityReply
  split
  · rename_i hact
    split
    · exact h
    · split
      · exact h.takeReply hact c
      · exact h.steady ((Steady.refl s).assignFailed hact)
  · exact h

/-! ## Completions and reset -/

theorem RecState.rebind_eq_free {x : RecState} {m : Option Nat} : x.rebind m = .free ↔ x = .free := by
  cases x <;> cases m <;> simp [RecState.rebind]

theorem bindState_eq_free {d : Display} {p : Nat} {i : Identity} {l : Option Nat} :
    bindState d p i l = .free ↔ d.state = .free := by
  unfold bindState
  split
  · simp_all
  · split_ifs
    · exact RecState.rebind_eq_free
    · exact RecState.rebind_eq_free
    · exact Iff.rfl

/-- The records are rewritten, each in use as before under its identity. -/
theorem HolderOk.mapVals {f : Nat → Display → Display} (h : HolderOk s) (ht : t.dir = Table.mapVals f s.dir) (hs : t.segs = s.segs)
    (hblank : ∀ k, f k (Display.freed none) = Display.freed none)
    (hf : ∀ k d, (f k d).state ≠ .free → d.state ≠ .free ∧ (f k d).identity = d.identity) : HolderOk t := by
  have hdisplay : ∀ k, t.display k = f k (s.display k) := fun k => display_mapVals ht k (hblank k)
  refine h.of_used (ht ▸ Table.wf_mapVals f h.addresses.1) (fun k hk => ?_) (fun k hk => ?_) fun g c i a n ha => ?_
  · rw [ht, Table.get_mapVals, Option.isSome_map] at hk
    exact hk
  · rw [hdisplay] at hk ⊢
    exact hf k _ hk
  · rw [State.seg, hs] at ha
    exact ⟨c, n, ha⟩

theorem HolderOk.commitMatch (h : HolderOk s) : HolderOk (Machine.commitMatch s) := by
  refine HolderOk.steady ?_ ((Steady.refl _).raiseIf ..)
  refine h.mapVals (f := fun _ d => d.rematch s.activePlan) rfl rfl (fun _ => rfl) fun _ d hd => ⟨fun hf => hd ?_, rfl⟩
  exact RecState.rebind_eq_free.mpr hf

/-- What follows the match of the records at the completion of a commit. -/
theorem commitCompletion_rest (s : State) {n : Nat} (hn : s.store.inFlight = some (.commit n)) :
    Keeps [.cabins, .ports, .prog, .routes, .dir, .segs, .stranded]
      (Machine.commitMatch (commitCarry s.activePlan (commitConditions (commitStore n s)))).finishWrite
      (Machine.commitCompletion s) := by
  unfold Machine.commitCompletion
  rw [hn]
  dsimp only
  refine Keeps.trans ?_ ((strandedAtStart_keeps _).mono (by decide))
  refine Keeps.trans ?_ ((composes_keeps (composeAll_composes _)).mono (by decide))
  refine Keeps.trans ?_ ((raise_keeps ..).mono (by decide))
  refine Keeps.trans ?_ ((raise_keeps ..).mono (by decide))
  refine Keeps.trans ?_ ((completeOp_same ..).toKeeps.mono (by decide))
  refine Keeps.trans ?_ ((commitRoutes_keeps _).mono (by decide))
  refine Keeps.trans ?_ ((withChoice_keeps _ _ _ (State.prog _).programme).mono (by decide))
  exact (retally_keeps _).mono (by decide)

theorem commitCompletion_idle (h : ∀ n, s.store.inFlight ≠ some (.commit n)) : Machine.commitCompletion s = s := by
  unfold Machine.commitCompletion
  split
  · exact absurd ‹_› (h _)
  · rfl

theorem HolderOk.commitCompletion (h : HolderOk s) : HolderOk (Machine.commitCompletion s) := by
  by_cases hn : ∃ n, s.store.inFlight = some (.commit n)
  · obtain ⟨n, hn⟩ := hn
    refine HolderOk.of_keeps ?_ (commitCompletion_rest s hn) (by decide)
    refine HolderOk.steady (.commitMatch (s := commitCarry s.activePlan (commitConditions (commitStore n s))) ?_) (.of_eq rfl rfl)
    exact h.steady (.of_eq rfl rfl)
  · rw [commitCompletion_idle fun n hm => hn ⟨n, hm⟩]
    exact h

/-- The plans and the records as the bind write changes them (R22). -/
def boundRecords (p : Nat) (i : Identity) (l : Option Nat) (s : State) : State :=
  { bindPlans p i l s with dir := Table.mapVals (fun _ d => { d with state := bindState d p i l }) s.dir }

/-- What follows the change of the plans and the records at the completion of a bind. -/
theorem bindCompletion_rest (s : State) {p : Nat} {i : Identity} {l : Option Nat} (hp : s.store.inFlight = some (.bind p i l)) :
    Keeps [.dir, .segs, .ports] (boundRecords p i l s).finishWrite (Machine.bindCompletion s) := by
  unfold Machine.bindCompletion
  rw [hp]
  dsimp only
  refine Keeps.trans ?_ ((composes_keeps (composeWhere_composes ..)).mono (by decide))
  refine Keeps.trans ?_ ((completeOp_same ..).toKeeps.mono (by decide))
  exact (raiseIf_keeps ..).mono (by decide)

theorem bindCompletion_idle (h : ∀ p i l, s.store.inFlight ≠ some (.bind p i l)) : Machine.bindCompletion s = s := by
  unfold Machine.bindCompletion
  split
  · exact absurd ‹_› (h _ _ _)
  · rfl

theorem HolderOk.bindCompletion (h : HolderOk s) : HolderOk (Machine.bindCompletion s) := by
  by_cases hp : ∃ p i l, s.store.inFlight = some (.bind p i l)
  · obtain ⟨p, i, l, hp⟩ := hp
    refine HolderOk.of_keeps ?_ (bindCompletion_rest s hp) (by decide)
    refine h.mapVals (t := (boundRecords p i l s).finishWrite) (f := fun _ d => { d with state := bindState d p i l }) rfl rfl
      (fun _ => rfl) ?_
    exact fun _ d hd => ⟨fun hf => hd (bindState_eq_free.mpr hf), rfl⟩
  · rw [bindCompletion_idle fun p i l hm => hp ⟨p, i, l, hm⟩]
    exact h

theorem HolderOk.start : HolderOk State.reset := by
  refine ⟨DeliveryOk.start.addresses, fun g c i a n ha => ?_, fun j k i hj => absurd rfl hj⟩
  fin_cases g <;> cases ha

theorem HolderOk.reset (h : exec .reset s = .next t) : HolderOk t := by
  cases h
  unfold startUp
  dsimp only
  refine HolderOk.of_keeps (fs := [.routes, .stranded, .ports]) ?_
    (((startComputation_keeps _).mono (by decide)).trans ((strandedAtStart_keeps _).mono (by decide))) (by decide)
  exact HolderOk.start.steady (.of_eq rfl rfl)

end

end Sys2Proof.Machine
end


section
/-! PROOFS. The plans that are or become active expect no identity twice, and a record is bound to a placement that expects its
identity (R13, R17, R21, R22, R145). -/

namespace Sys2Proof.Machine

/-! ## Plans without equal expected identities -/

section
variable {p : Plan}

theorem firstSome_eq_none {α β : Type} {f : α → Option β} {l : List α} (h : firstSome f l = none) {a : α} (ha : a ∈ l) :
    f a = none := by
  induction l with
  | nil => cases ha
  | cons b l ih =>
    rw [firstSome] at h
    split at h
    · cases h
    · rename_i hb
      rcases List.mem_cons.mp ha with rfl | ha
      · exact hb
      · exact ih h ha

theorem offender_eq_none {α : Type} {k : RecordKind} {t : Table α} {bad : Nat → α → Bool}
    (h : offender k t bad = none) {i : Nat} {x : α}
    (hi : Table.get t i = some x) : bad i x = false := by
  have hno := Table.not_of_first_eq_none h (Table.mem_of_get hi)
  revert hno
  cases bad i x <;> simp

/-- A validated plan expects no identity twice (R13 check 7). -/
theorem expectedDistinct_of_valid (h : validatePlan p = none) : expectedDistinct p := by
  have hcheck : checkIdentity p = none := by
    have hno := firstSome_eq_none h (a := (.duplicateIdentity, checkIdentity p)) (by simp)
    simpa using hno
  have hbelow : ∀ i j x y, Table.get p.placements i = some x → Table.get p.placements j = some y → x.expected.isSome = true →
      y.expected = x.expected → ¬ j < i := by
    intro i j x y hi hj hx he hlt
    have hno := offender_eq_none hcheck hi
    rw [hx, Bool.true_and, List.any_eq_false] at hno
    exact hno (j, y) (Table.mem_of_get hj) (by simp [hlt, he])
  intro i j x y hi hj hx he
  have h1 := hbelow i j x y hi hj hx he.symm
  have h2 := hbelow j i y x hj hi (he ▸ hx) he
  omega

theorem get_setExpected (p : Plan) (k : Nat) (e : Option Identity) (j : Nat) :
    Table.get (setExpected p k e).placements j =
      if j = k then (Table.get p.placements k).map fun pl => { pl with expected := e } else Table.get p.placements j := by
  unfold setExpected
  cases hk : Table.get p.placements k with
  | none =>
    dsimp only
    split
    · rename_i hj
      rw [hj, hk]
      rfl
    · rfl
  | some pl =>
    dsimp only
    rw [Table.get_put]
    rfl

/-- The placements after a bind: the target expects the identity, the loser none, and the others what they did. -/
theorem get_applyBind (p : Plan) (k : Nat) (i : Identity) {l : Option Nat} (hl : l ≠ some k) (j : Nat) :
    Table.get (applyBind p k i l).placements j =
      if j = k then (Table.get p.placements k).map fun pl => { pl with expected := some i }
      else if l = some j then (Table.get p.placements j).map fun pl => { pl with expected := none }
      else Table.get p.placements j := by
  unfold applyBind
  cases l with
  | none =>
    rw [get_setExpected]
    simp
  | some m =>
    have hmk : m ≠ k := fun h => hl (congrArg some h)
    dsimp only
    rw [get_setExpected, get_setExpected, get_setExpected, if_neg hmk.symm]
    split
    · rfl
    · by_cases hj : j = m
      · rw [if_pos hj, if_pos (congrArg some hj.symm), hj]
      · rw [if_neg hj, if_neg fun h => hj (Option.some.inj h).symm]

theorem bindLoser_ne (p : Plan) (k : Nat) (i : Identity) : bindLoser p k i ≠ some k := fun h => by
  obtain ⟨j, pl, -, hf⟩ := Table.of_first_eq_some h
  split at hf
  · cases hf
    rename_i hk
    exact hk.1 rfl
  · cases hf

/-- The placement that loses an identity to the target is the other one that expects it. -/
theorem bindLoser_eq (hw : Table.wf p.placements = true) (hd : expectedDistinct p) {k j : Nat} {i : Identity} {pl : Placement}
    (hj : j ≠ k)
    (hget : Table.get p.placements j = some pl) (hi : pl.expected = some i) : bindLoser p k i = some j := by
  cases hl : bindLoser p k i with
  | none =>
    have hno := Table.not_of_first_eq_none hl (Table.mem_of_get hget)
    simp [hj, hi] at hno
  | some m =>
    obtain ⟨m', pl', hm, hf⟩ := Table.of_first_eq_some hl
    split at hf
    · rename_i hx
      cases hf
      rw [hd m j pl' pl (Table.get_of_mem hw hm) hget (by rw [hx.2]; rfl) (hx.2.trans hi.symm)]
    · cases hf

/-- A bind keeps the expected identities distinct (R21). -/
theorem expectedDistinct_applyBind (hw : Table.wf p.placements = true) (hd : expectedDistinct p) (k : Nat) (i : Identity) :
    expectedDistinct (applyBind p k i (bindLoser p k i)) := by
  have hget := get_applyBind p k i (bindLoser_ne p k i)
  have hkept : ∀ j y, j ≠ k → Table.get (applyBind p k i (bindLoser p k i)).placements j = some y → y.expected.isSome = true →
      bindLoser p k i ≠ some j ∧ Table.get p.placements j = some y := fun j y hj hy hs => by
    rw [hget, if_neg hj] at hy
    split at hy
    · obtain ⟨_, _, rfl⟩ := Option.map_eq_some_iff.mp hy
      exact absurd hs Bool.false_ne_true
    · exact ⟨‹_›, hy⟩
  have htarget : ∀ x, Table.get (applyBind p k i (bindLoser p k i)).placements k = some x → x.expected = some i := fun x hx => by
    rw [hget, if_pos rfl] at hx
    obtain ⟨_, _, rfl⟩ := Option.map_eq_some_iff.mp hx
    rfl
  have hother : ∀ j x y, j ≠ k → Table.get (applyBind p k i (bindLoser p k i)).placements k = some x →
      Table.get (applyBind p k i (bindLoser p k i)).placements j = some y → y.expected ≠ x.expected := fun j x y hj hx hy he => by
    have hyi := he.trans (htarget x hx)
    obtain ⟨hl, hyp⟩ := hkept j y hj hy (by rw [hyi]; rfl)
    exact hl (bindLoser_eq hw hd hj hyp hyi)
  intro a b x y hx hy hs he
  by_cases ha : a = k
  · by_cases hb : b = k
    · rw [ha, hb]
    · exact absurd he.symm (hother b x y hb (ha ▸ hx) hy)
  · by_cases hb : b = k
    · exact absurd he (hother a y x ha (hb ▸ hy) hx)
    · obtain ⟨-, hxp⟩ := hkept a x ha hx hs
      obtain ⟨-, hyp⟩ := hkept b y hb hy (he ▸ hs)
      exact hd a b x y hxp hyp hs he

end

/-! ## Bound records -/

section
variable {s t : State}

theorem activePlan_congr (h : t.plan.active = s.plan.active) : t.activePlan = s.activePlan := by
  unfold State.activePlan
  rw [h]

theorem boundAsExpected.of_holders (hb : boundAsExpected s) (hs : SameHolders s t) (ha : t.plan.active = s.plan.active) :
    boundAsExpected t := fun k p hp => by
  rw [(hs.used k (RecState.ne_free_of_bound hp)).2, activePlan_congr ha]
  exact hb k p (hs.bound k p hp)

/-- Records bound as expected are bound apart (R145). -/
theorem placementsDistinct_of_bound (hb : boundAsExpected s) (hd : identitiesDistinct s) : placementsDistinct s := by
  intro j k p hj hk
  obtain ⟨hsome, pl, hpl, hj'⟩ := hb j p hj
  obtain ⟨-, pl', hpl', hk'⟩ := hb k p hk
  cases hpl.symm.trans hpl'
  obtain ⟨i, hi⟩ := Option.isSome_iff_exists.mp hsome
  exact hd j k i (RecState.ne_free_of_bound hj) (RecState.ne_free_of_bound hk) hi (hk'.symm.trans (hj'.trans hi))

/-- The placement a match gives expects the identity. -/
theorem matchIdentity_expects {p : Plan} (hw : Table.wf p.placements = true) {i : Identity} {k : Nat}
    (h : matchIdentity p i = some k) :
    ∃ pl, Table.get p.placements k = some pl ∧ pl.expected = some i := by
  obtain ⟨j, pl, hm, hf⟩ := Table.of_first_eq_some h
  split at hf
  · cases hf
    exact ⟨pl, Table.get_of_mem hw hm, ‹_›⟩
  · cases hf

theorem RecState.rebind_bound {x : RecState} {m : Option Nat} {p : Nat} (h : (x.rebind m).bound = some p) : m = some p := by
  cases x <;> cases m <;> simp_all [RecState.rebind, RecState.bound]

theorem rematch_bound {p : Plan} (hw : Table.wf p.placements = true) {d : Display} {k : Nat}
    (h : (d.rematch p).state.bound = some k) :
    d.identity.isSome ∧ ∃ pl, Table.get p.placements k = some pl ∧ pl.expected = d.identity := by
  have hmatch := RecState.rebind_bound h
  cases hi : d.identity with
  | none =>
    rw [hi] at hmatch
    cases hmatch
  | some i =>
    rw [hi] at hmatch
    exact ⟨rfl, matchIdentity_expects hw hmatch⟩

theorem commitMatch_bound (hw : Table.wf s.activePlan.placements = true) : boundAsExpected (commitMatch s) := by
  have hmatched : boundAsExpected { s with dir := Table.mapVals (fun _ d => d.rematch s.activePlan) s.dir } := fun k p hp => by
    rw [display_mapVals (s := s) (f := fun _ d => d.rematch s.activePlan) rfl k rfl] at hp ⊢
    exact rematch_bound (d := s.display k) hw hp
  exact hmatched.of_holders ((Steady.refl _).raiseIf ..).holders (raiseIf_keeps ..|>.keeps .active (by decide))

/-- A record as a bind leaves it: bound to the target under the bind identity, or to a placement that keeps what it expects. -/
theorem bindState_bound {p : Plan} {k : Nat} {i : Identity} {l : Option Nat} (hl : l ≠ some k)
    (hk : Table.has p.placements k = true)
    {d : Display} (hd : ∀ q, d.state.bound = some q →
      d.identity.isSome ∧ ∃ pl, Table.get p.placements q = some pl ∧ pl.expected = d.identity) {q : Nat}
    (hq : (bindState d k i l).bound = some q) :
    d.identity.isSome ∧ ∃ pl, Table.get (applyBind p k i l).placements q = some pl ∧ pl.expected = d.identity := by
  unfold bindState at hq
  split at hq
  · cases hq
  · split at hq
    · rename_i hi
      cases RecState.rebind_bound hq
      obtain ⟨pl, hpl⟩ := Option.isSome_iff_exists.mp hk
      exact ⟨by rw [hi]; rfl, { pl with expected := some i }, by rw [get_applyBind _ _ _ hl, if_pos rfl, hpl]; rfl, hi.symm⟩
    · split at hq
      · cases RecState.rebind_bound hq
      · rename_i hother
        obtain ⟨hsome, hpl⟩ := hd q hq
        refine ⟨hsome, ?_⟩
        have hqk : q ≠ k := fun h => hother (.inl (h ▸ hq))
        have hql : l ≠ some q := fun h => hother (.inr ⟨by rw [h]; rfl, hq.trans h.symm⟩)
        rwa [get_applyBind _ _ _ hl, if_neg hqk, if_neg hql]

end

/-! ## The plans of the state -/

/-- What the records and the plans rest on. -/
structure PlansOk (s : State) : Prop where
  wf : tablesWf s
  kept : planKept s
  edit : editOrder s
  distinct : plansDistinct s

section
variable {s t : State}

theorem PlansOk.activeWf (h : PlansOk s) {a : ActivePlan} (ha : s.plan.active = some a) : Table.wf a.plan.placements = true := by
  obtain ⟨-, hactive, -⟩ := h.wf
  obtain ⟨-, -, -, -, -, -, -, hplacements⟩ := hactive a ha
  exact hplacements

theorem PlansOk.shadowWf (h : PlansOk s) : Table.wf s.plan.shadow.placements = true := by
  obtain ⟨⟨-, -, -, -, -, -, -, hplacements⟩, -⟩ := h.wf
  exact hplacements

theorem commitCompletion_bound (h : PlansOk s) (hb : boundAsExpected s) : boundAsExpected (commitCompletion s) := by
  by_cases hn : ∃ n, s.store.inFlight = some (.commit n)
  · obtain ⟨n, hn⟩ := hn
    have hrest := commitCompletion_rest s hn
    have hmatch := commitMatch_bound (s := commitCarry s.activePlan (commitConditions (commitStore n s))) h.shadowWf
    have hfinished := hmatch.of_holders (t := (commitMatch _).finishWrite) (.of_dir rfl) rfl
    exact hfinished.of_holders (Steady.of_keeps hrest (by decide)).holders (hrest.keeps .active (by decide))
  · rw [commitCompletion_idle fun n hm => hn ⟨n, hm⟩]
    exact hb

theorem boundRecords_bound {a : ActivePlan} {p : Nat} {i : Identity} {l : Option Nat} (ha : s.plan.active = some a)
    (hl : l ≠ some p)
    (hp : Table.has a.plan.placements p = true) (hb : boundAsExpected s) : boundAsExpected (boundRecords p i l s) :=
      fun k q hq => by
  have hactive : s.activePlan = a.plan := by rw [State.activePlan, ha]
  have hnew : (boundRecords p i l s).activePlan = applyBind a.plan p i l := by
    unfold boundRecords bindPlans State.activePlan
    dsimp only
    rw [ha]
    rfl
  rw [display_mapVals (s := s) (t := boundRecords p i l s) (f := fun _ d => { d with state := bindState d p i l }) rfl k rfl]
    at hq ⊢
  rw [hnew]
  exact bindState_bound (d := s.display k) hl hp (fun q hq => hactive ▸ hb k q hq) hq

theorem bindCompletion_bound (h : PlansOk s) (hb : boundAsExpected s) : boundAsExpected (bindCompletion s) := by
  by_cases hp : ∃ p i l, s.store.inFlight = some (.bind p i l)
  · obtain ⟨p, i, l, hp⟩ := hp
    have hrest := bindCompletion_rest s hp
    obtain ⟨a, ha, htarget, rfl⟩ := h.distinct.2.2 p i l hp
    have hbound := boundRecords_bound (i := i) ha (bindLoser_ne a.plan p i) htarget hb
    refine (hbound.of_holders (t := (boundRecords p i (bindLoser a.plan p i) s).finishWrite) (.of_dir rfl) rfl).of_holders ?_
      (hrest.keeps .active (by decide))
    exact (Steady.of_keeps hrest (by decide)).holders
  · rw [bindCompletion_idle fun p i l hm => hp ⟨p, i, l, hm⟩]
    exact hb

end

end Sys2Proof.Machine
end


section
/-! PROOFS. What most commands leave of the plans and of a bind write (R13, R21), and the invariant of identities and
placements. -/

namespace Sys2Proof.Machine

/-- The active plan stays, no commit is accepted and no bind write starts. -/
structure PlanSteady (s t : State) : Prop where
  active : t.plan.active = s.plan.active
  edit : t.plan.edit = .committing → s.plan.edit = .committing ∧ t.plan.shadow = s.plan.shadow
  flight : ∀ p i l, t.store.inFlight = some (.bind p i l) → s.store.inFlight = some (.bind p i l)

namespace PlanSteady
section
variable {o s t : State}

theorem refl (s : State) : PlanSteady s s := ⟨rfl, fun h => ⟨h, rfl⟩, fun _ _ _ h => h⟩

theorem trans (h : PlanSteady o s) (h' : PlanSteady s t) : PlanSteady o t := by
  refine ⟨h'.active.trans h.active, fun he => ?_, fun p i l hw => h.flight p i l (h'.flight p i l hw)⟩
  obtain ⟨hs, hshadow⟩ := h'.edit he
  obtain ⟨ho, hshadow'⟩ := h.edit hs
  exact ⟨ho, hshadow.trans hshadow'⟩

/-- The plan store stays and the store's write is another only when it is no bind. -/
theorem of_store (hp : t.plan = s.plan)
    (hw : ∀ p i l, t.store.inFlight = some (.bind p i l) → s.store.inFlight = some (.bind p i l)) : PlanSteady s t :=
  ⟨by rw [hp], fun he => ⟨hp ▸ he, by rw [hp]⟩, hw⟩

theorem keeps {fs : List Facet} (h : PlanSteady o s) (hk : Keeps fs s t)
    (hfs : Facet.store ∉ fs ∧ Facet.active ∉ fs ∧ Facet.edit ∉ fs) : PlanSteady o t := by
  have hstore : t.store = s.store := hk.keeps .store hfs.1
  exact h.trans (.of_store (hk.plan_eq hfs.2.1 hfs.2.2) fun _ _ _ hw => hstore ▸ hw)

theorem withMuster (h : PlanSteady o s) (m : MusterController) : PlanSteady o { s with muster := m } :=
  h.trans (.of_store rfl fun _ _ _ hw => hw)

theorem startOp (h : PlanSteady o s) {w : Write} (hw : ∀ p i l, w ≠ .bind p i l) (l : LinkId) (e : OpEntry) :
    PlanSteady o ((s.startWrite w).beginOp l e) := by
  refine keeps (s := s.startWrite w) (fs := [.ports]) ?_ (beginOp_keeps ..) (by decide)
  exact h.trans (.of_store rfl fun p i l hf => absurd (Option.some.inj hf) (hw p i l))

theorem requestLatch (h : PlanSteady o s) (w : LatchWrite) : PlanSteady o (s.requestLatch w) := by
  refine h.trans ?_
  unfold State.requestLatch
  split
  · exact .of_store rfl fun _ _ _ hf => nomatch hf
  · exact .of_store rfl fun _ _ _ hf => hf

theorem finishWrite (h : PlanSteady o s) : PlanSteady o s.finishWrite := by
  refine h.trans (.of_store rfl fun p i l hf => ?_)
  change s.store.waiting.map Write.latch = _ at hf
  cases hw : s.store.waiting <;> rw [hw] at hf <;> cases hf

theorem handMuster (h : PlanSteady o s) (m : MusterState) : PlanSteady o (s.handMuster m) := by
  obtain ⟨hstore, -, -⟩ := handMuster_facets s m
  refine h.trans ?_
  have hflight : ∀ p i l, (s.handMuster m).store.inFlight = some (.bind p i l) → s.store.inFlight = some (.bind p i l) :=
    fun _ _ _ hf => hstore ▸ hf
  have hplan := handMuster_plan s m
  rw [closeEdit_plan] at hplan
  split at hplan
  · split at hplan
    · exact ⟨by rw [hplan], fun he => (by rw [hplan] at he; cases he), hflight⟩
    · exact .of_store hplan hflight
  · exact .of_store hplan hflight

/-! ## The muster requests and events -/

theorem enterMuster (h : PlanSteady o s) (d : Bool) : PlanSteady o (s.enterMuster d) := by
  unfold State.enterMuster
  exact (((h.withMuster _).keeps (retally_keeps _) (by decide)).requestLatch _).handMuster _

theorem resume (h : PlanSteady o s) (d : Bool) : PlanSteady o (s.resume d) := by
  unfold State.resume
  dsimp only
  split
  · exact ((h.withMuster _).requestLatch _).handMuster _
  · exact (h.withMuster _).handMuster _

theorem clearDrill (h : PlanSteady o s) : PlanSteady o s.clearDrill := by
  unfold State.clearDrill
  dsimp only
  split
  · exact ((h.withMuster _).requestLatch _).handMuster _
  · exact (h.withMuster _).handMuster _

theorem returnToQuiet (h : PlanSteady o s) : PlanSteady o s.returnToQuiet :=
  ((h.withMuster _).keeps (retally_keeps _) (by decide)).handMuster _

theorem alarmEvent (h : PlanSteady o s) : PlanSteady o s.alarmEvent := by
  have hr : PlanSteady o (s.raise .safety .musterByLine) := h.keeps (raise_keeps ..) (by decide)
  unfold State.alarmEvent
  dsimp only
  split
  · exact hr.enterMuster _
  · exact hr.enterMuster _
  · split
    · exact hr.clearDrill
    · exact hr
  · exact hr.resume _

theorem alert (h : PlanSteady o s) (d : Bool) : PlanSteady o (Machine.alert d s).state := by
  unfold Machine.alert
  split
  · exact (h.withMuster _).handMuster _
  · split
    · exact h
    · split
      · exact h
      · exact h.clearDrill
  · exact h

theorem cancelAlert (h : PlanSteady o s) : PlanSteady o (Machine.cancelAlert s).state := by
  unfold Machine.cancelAlert
  split
  · exact (h.withMuster _).handMuster _
  · exact h

theorem musterRequest (h : PlanSteady o s) (d : Bool) : PlanSteady o (Machine.musterRequest d s).state := by
  unfold Machine.musterRequest
  split
  · exact h.enterMuster d
  · split
    · exact h
    · exact h.enterMuster d
  · split
    · exact h
    · split
      · exact h
      · exact h.clearDrill
  · split
    · exact h
    · exact h.resume d

theorem standdown (h : PlanSteady o s) : PlanSteady o (Machine.standdown s).state := by
  unfold Machine.standdown
  split
  · exact (h.withMuster _).handMuster _
  · exact h

theorem generalAlarm (h : PlanSteady o s) : PlanSteady o (Machine.generalAlarm s) := by
  unfold Machine.generalAlarm
  split
  · exact (h.withMuster _).alarmEvent
  · exact h

theorem overdueExpiry (h : PlanSteady o s) : PlanSteady o (Machine.overdueExpiry s) := by
  unfold Machine.overdueExpiry
  split
  · exact (h.withMuster _).keeps (raiseIf_keeps ..) (by decide)
  · exact h

theorem holdExpiry (h : PlanSteady o s) : PlanSteady o (Machine.holdExpiry s) := by
  unfold Machine.holdExpiry
  split
  · exact (h.withMuster _).requestLatch _
  · exact h

/-! ## The plan edit and the writes -/

/-- The edit is not COMMITTING afterwards. -/
theorem withEdit (h : PlanSteady o s) {e : EditState} (he : e ≠ .committing) (p : Plan) :
    PlanSteady o { s with plan := { s.plan with edit := e, shadow := p } } :=
  h.trans ⟨rfl, fun hc => absurd hc he, fun _ _ _ hf => hf⟩

theorem planOpen (h : PlanSteady o s) (n : Nat) : PlanSteady o (Machine.planOpen n s).state := by
  unfold Machine.planOpen
  split
  · exact h
  · split
    · exact h
    · split
      · exact h
      · split
        · exact h.withEdit (by exact nofun) _
        · exact h.withEdit (by exact nofun) _
        · exact h

theorem planWrite (h : PlanSteady o s) (b : Except Reason PlanWriteBody) : PlanSteady o (Machine.planWrite b s).state := by
  unfold Machine.planWrite
  split
  · exact h
  · split
    · exact h
    · exact h
    · rename_i hediting
      refine parsed_state h fun w => h.trans ⟨rfl, fun hc => ?_, fun _ _ _ hf => hf⟩
      cases hediting.symm.trans hc

theorem planAbandon (h : PlanSteady o s) : PlanSteady o (Machine.planAbandon s).state := by
  unfold Machine.planAbandon
  split
  · exact h
  · exact h
  · exact h.withEdit (by exact nofun) _

theorem setMusterTimers (h : PlanSteady o s) (l : LinkId) (tag : Byte) (x y : Nat) :
    PlanSteady o (Machine.setMusterTimers l tag x y s).state := by
  unfold Machine.setMusterTimers
  split
  · exact h
  · exact h.startOp (by exact nofun) ..

theorem setLinkTimeout (h : PlanSteady o s) (l : LinkId) (tag : Byte) (n : Nat) :
    PlanSteady o (Machine.setLinkTimeout l tag n s).state := by
  unfold Machine.setLinkTimeout
  split
  · exact h
  · exact h.startOp (by exact nofun) ..

theorem fixedDetour (h : PlanSteady o s) (tag : Byte) (f : DetourFields) (c : ConditionTable) :
    PlanSteady o (Machine.fixedDetour tag f c s).state := by
  unfold Machine.fixedDetour
  split
  · exact h
  · split
    · exact h
    · split
      · exact h
      · split
        · exact h
        · refine startOp (s := { s with cond := { s.cond with writing := some f } }) ?_ (by exact nofun) ..
          exact h.trans (.of_store rfl fun _ _ _ hf => hf)

theorem fixedDetourCompletion (h : PlanSteady o s) : PlanSteady o (Machine.fixedDetourCompletion s) := by
  unfold Machine.fixedDetourCompletion
  split
  case h_2 => exact h
  dsimp only
  refine keeps (finishWrite ?_) (((trigger_keeps _).mono (gs := [.routes, .stranded, .dir, .segs, .ports]) (by decide)).trans
    ((completeOp_same ..).toKeeps.mono (by decide))) (by decide)
  exact h.trans (.of_store rfl fun _ _ _ hf => hf)

theorem storeLatch (h : PlanSteady o s) (x : Latch) : PlanSteady o (s.storeLatch x) :=
  finishWrite (h.trans (.of_store rfl fun _ _ _ hf => hf))

theorem latchSetCompletion (h : PlanSteady o s) : PlanSteady o (Machine.latchSetCompletion s) := by
  unfold Machine.latchSetCompletion
  split
  · exact h.storeLatch _
  · exact h

theorem latchClearCompletion (h : PlanSteady o s) : PlanSteady o (Machine.latchClearCompletion s) := by
  unfold Machine.latchClearCompletion
  split
  · have hl := h.storeLatch ⟨false, false⟩
    dsimp only
    split
    · exact hl.returnToQuiet
    · exact hl
  · exact h

theorem settingsCompletion (h : PlanSteady o s) : PlanSteady o (Machine.settingsCompletion s) := by
  unfold Machine.settingsCompletion
  split
  case h_2 => exact h
  refine keeps (fs := [.ports]) ?_ (modPort_keeps ..) (by decide)
  unfold State.applySettings
  split
  · exact finishWrite (h.trans (.of_store rfl fun _ _ _ hf => hf))
  · exact finishWrite (h.trans (.of_store rfl fun _ _ _ hf => hf))
  · exact finishWrite (h.trans (.of_store rfl fun _ _ _ hf => hf))

end
end PlanSteady

/-! ## The commands that decide the plans -/

section
variable {s t : State}

theorem plansDistinct.steady (h : plansDistinct s) (ht : PlanSteady s t) : plansDistinct t := by
  obtain ⟨hactive, hshadow, hbind⟩ := h
  refine ⟨fun a ha => hactive a (ht.active ▸ ha), fun he => ?_, fun p i l hw => ht.active ▸ hbind p i l (ht.flight p i l hw)⟩
  obtain ⟨hs, hp⟩ := ht.edit he
  exact hp ▸ hshadow hs

/-- A commit is accepted for a valid shadow plan alone (R13). -/
theorem planCommit_distinct (h : plansDistinct s) (tag : Byte) : plansDistinct (planCommit tag s).state := by
  unfold planCommit
  split
  · exact h
  · exact h
  · split
    · exact h
    · split
      · exact h
      · rename_i hvalid
        refine plansDistinct.steady (s := { s with plan := { s.plan with edit := .committing } }.startWrite _) ?_
          ((PlanSteady.refl _).keeps (beginOp_keeps ..) (by decide))
        exact ⟨h.1, fun _ => expectedDistinct_of_valid hvalid, fun _ _ _ hf => nomatch hf⟩

/-- A bind is accepted for a placement of the active plan, with the placement that loses the identity (R21). -/
theorem bindDisplay_distinct (h : plansDistinct s) (tag : Byte) (p : Nat) (g : Seg) (a : Nat) :
    plansDistinct (bindDisplay tag p g a s).state := by
  unfold bindDisplay
  split
  · exact h
  · split
    · exact h
    · split
      · exact h
      · rename_i pl hpl
        dsimp only
        split
        · exact h
        · split
          · exact h
          · rename_i i hi
            split
            · exact h
            · refine plansDistinct.steady (s := s.startWrite (.bind p i (bindLoser s.activePlan p i))) ?_
                ((PlanSteady.refl _).keeps (beginOp_keeps ..) (by decide))
              refine ⟨h.1, h.2.1, fun q j l hf => ?_⟩
              cases hf
              cases hactive : s.plan.active with
              | none =>
                rw [State.activePlan, hactive] at hpl
                cases hpl
              | some x =>
                rw [State.activePlan, hactive] at hpl ⊢
                exact ⟨x, hactive, by rw [Table.has, hpl]; rfl, rfl⟩

/-- A write that completes leaves a waiting latch write, if any. -/
theorem finishWrite_inFlight (s : State) (p : Nat) (i : Identity) (l : Option Nat) :
    s.finishWrite.store.inFlight ≠ some (.bind p i l) := by
  change s.store.waiting.map Write.latch ≠ _
  cases s.store.waiting <;> simp

theorem commitCompletion_distinct (h : PlansOk s) : plansDistinct (commitCompletion s) := by
  by_cases hn : ∃ n, s.store.inFlight = some (.commit n)
  · obtain ⟨n, hn⟩ := hn
    have hcommitting : s.plan.edit = .committing := h.edit.1.mp ⟨n, hn⟩
    refine plansDistinct.steady ?_ ((PlanSteady.refl _).keeps (commitCompletion_rest s hn) (by decide))
    have hplan : (commitMatch (commitCarry s.activePlan (commitConditions (commitStore n s)))).finishWrite.plan =
        ⟨some ⟨s.plan.shadow, n⟩, .empty, .closed⟩ := (commitMatch_same _).keeps .plan (by decide)
    refine ⟨fun a ha => ?_, fun he => ?_, fun p i l hf => (finishWrite_inFlight _ _ _ _ hf).elim⟩
    · rw [hplan] at ha
      cases ha
      exact h.distinct.2.1 hcommitting
    · rw [hplan] at he
      cases he
  · rw [commitCompletion_idle fun n hm => hn ⟨n, hm⟩]
    exact h.distinct

theorem bindCompletion_distinct (h : PlansOk s) : plansDistinct (bindCompletion s) := by
  by_cases hp : ∃ p i l, s.store.inFlight = some (.bind p i l)
  · obtain ⟨p, i, l, hp⟩ := hp
    obtain ⟨a, ha, -, rfl⟩ := h.distinct.2.2 p i l hp
    refine plansDistinct.steady ?_ ((PlanSteady.refl _).keeps (bindCompletion_rest s hp) (by decide))
    refine ⟨fun b hb => ?_, h.distinct.2.1, fun q j m hf => (finishWrite_inFlight _ _ _ _ hf).elim⟩
    change s.plan.active.map _ = _ at hb
    rw [ha] at hb
    cases hb
    exact expectedDistinct_applyBind (h.activeWf ha) (h.distinct.1 a ha) p i
  · rw [bindCompletion_idle fun p i l hm => hp ⟨p, i, l, hm⟩]
    exact h.distinct

/-- The plan area a reset finds expects no identity twice: the active plan, or it with the bind in flight. -/
theorem keep_plan_distinct (h : PlansOk s) (n : Nat) {a : ActivePlan} (ha : (s.store.afterReset n).plan = some a) :
    expectedDistinct a.plan := by
  have hactive : ∀ b, s.store.plan = some b → s.plan.active = some b := fun b hb => h.kept.trans hb
  change (s.store.keep n).plan = some a at ha
  unfold RetainedStore.keep at ha
  split at ha
  · exact h.distinct.1 a (hactive a ha)
  · cases ha
  · rename_i p i l hw
    change keptBind n s.store.plan p i l = some a at ha
    unfold keptBind at ha
    split at ha
    · obtain ⟨b, hb, rfl⟩ := Option.map_eq_some_iff.mp ha
      obtain ⟨c, hc, -, rfl⟩ := h.distinct.2.2 p i l hw
      obtain rfl : b = c := Option.some.inj ((hactive b hb).symm.trans hc)
      exact expectedDistinct_applyBind (h.activeWf hc) (h.distinct.1 b hc) p i
    · exact h.distinct.1 a (hactive a ha)
  · split at ha
    · exact h.distinct.1 a (hactive a ha)
    · exact h.distinct.1 a (hactive a ha)
  all_goals exact h.distinct.1 a (hactive a ha)

theorem reset_distinct (h : PlansOk s) (hexec : exec .reset s = .next t) : plansDistinct t ∧ boundAsExpected t := by
  cases hexec
  unfold startUp
  dsimp only
  have hrest := fun u : State => ((withDests_keeps u u.destList).mono (gs := [.routes, .stranded, .ports]) (by decide)).trans
    (((startComputation_keeps _).mono (by decide)).trans ((strandedAtStart_keeps _).mono (by decide)))
  generalize hb : startBlocks (s.store.afterReset s.freeCount) s.alarmLine (s.freeCount + freeValuesPerReset) s.pending = u
  have hplan : u.plan = ⟨(s.store.afterReset s.freeCount).plan, .empty, .closed⟩ := hb ▸ rfl
  have hstore : u.store.inFlight = none := hb ▸ rfl
  have hdir : u.dir = [] := hb ▸ rfl
  constructor
  · refine plansDistinct.steady (s := u) ?_ ((PlanSteady.refl _).keeps (hrest u) (by decide))
    refine ⟨fun a ha => keep_plan_distinct h s.freeCount (by rwa [hplan] at ha), fun he => ?_, fun p i l hf => ?_⟩
    · rw [hplan] at he
      cases he
    · rw [hstore] at hf
      cases hf
  · refine boundAsExpected.of_holders (s := u) (fun k p hp => ?_) (Steady.of_keeps (hrest u) (by decide)).holders
      ((hrest u).keeps .active (by decide))
    rw [State.display, hdir] at hp
    cases hp

end

/-! ## Taking a display in -/

section
variable {s t : State} {g : Seg}

/-- The record taken in is bound to the placement that expects it (R154). -/
theorem takeReply_bound (h : PlansOk s) (hw : Table.wf s.dir = true) (hb : boundAsExpected s) (i : Identity) (a : Nat)
    (c : Capability) :
    boundAsExpected (s.takeReply g i a c) := by
  unfold State.takeReply
  split
  · exact hb.of_holders ((Steady.refl s).duplicate i).holders rfl
  · have hfreed := ((Steady.refl s).freeElsewhere (g := g) hw i).holders
    have hactive : (s.freeElsewhere g i).plan = s.plan := by
      unfold State.freeElsewhere
      split <;> rfl
    have ht := hb.of_holders hfreed (congrArg _ hactive)
    have hwf : Table.wf s.activePlan.placements = true := by
      unfold State.activePlan
      cases ha : s.plan.active with
      | none => rfl
      | some x => exact h.activeWf ha
    rw [← activePlan_congr (t := s.freeElsewhere g i) (congrArg _ hactive)] at hwf
    generalize s.freeElsewhere g i = u at ht hwf
    have hset : boundAsExpected ((u.leaveQueue (recKey g a)).setDisplay (recKey g a)
        (enrolled u.activePlan i c (u.display (recKey g a)))) := fun k p hp => by
      rw [State.display_setDisplay] at hp ⊢
      split at hp
      · rename_i hk
        rw [if_pos hk]
        refine ⟨rfl, matchIdentity_expects hwf ?_⟩
        exact (Steady.matchedState_bound _).symm.trans hp
      · rename_i hk
        rw [if_neg hk]
        exact ht k p hp
    refine hset.of_holders (takeIn_steady g i a c u).holders ?_
    exact congrArg PlanStore.active ((takeIn_same (s := u) (g := g) i a c).keeps .plan (by decide))

theorem capabilityReply_bound (h : PlansOk s) (hw : Table.wf s.dir = true) (hb : boundAsExpected s) (addr : Nat) (i : Identity)
    (c : Capability) : boundAsExpected (capabilityReply g addr i c s) := by
  unfold capabilityReply
  split
  · rename_i hact
    split
    · exact hb
    · split
      · exact takeReply_bound h hw hb _ _ _
      · refine hb.of_holders ((Steady.refl s).assignFailed hact).holders ?_
        exact congrArg PlanStore.active ((assignFailed_same ..).keeps .plan (by decide))
  · exact hb

/-- An assignment begins with the records as they are but for one freed. -/
theorem assignAddress_holders (hw : Table.wf s.dir = true) (i : Identity) : SameHolders s (s.assignAddress g i) := by
  have hfreed := ((Steady.refl s).freeElsewhere (g := g) hw i).holders
  unfold State.assignAddress
  split
  · exact .of_dir rfl
  · split
    · exact ((Steady.refl s).duplicate i).holders
    · split
      · exact (((Steady.refl s).muteDisplay i).closeSweep _).holders
      · dsimp only
        split
        · exact hfreed.trans (.of_dir rfl)
        · exact hfreed

theorem bitWindow_holders (hw : Table.wf s.dir = true) (b : Bool) : SameHolders s (bitWindow g b s) := by
  unfold bitWindow
  split
  · dsimp only
    split
    · exact .of_dir rfl
    · exact .of_dir rfl
  · dsimp only
    split
    · exact .of_dir rfl
    · unfold State.checkOutcome
      dsimp only
      split
      · refine SameHolders.trans (t := s.modSeg g fun x => { x with mismatch := 0 }) (.of_dir rfl) ?_
        refine assignAddress_holders ?_ _
        exact hw
      · split
        · exact .of_dir rfl
        · exact (((Steady.refl s).modOther rfl).closeSweep _).holders
  · exact .of_dir rfl

end

/-! ## Every command -/

/-- A step that keeps the invariant of the records, and with sound plans that of the placements. -/
def holdersKept (s t : State) : Prop :=
  HolderOk s → HolderOk t ∧ (PlansOk s → boundAsExpected s → plansDistinct t ∧ boundAsExpected t)

theorem holdersKept.of_steady {s t : State} (h : Steady s t) (hp : PlanSteady s t) : holdersKept s t := fun hs =>
  ⟨hs.steady h, fun hplans hb => ⟨hplans.distinct.steady hp, hb.of_holders h.holders hp.active⟩⟩

theorem PlansOk.of_eq {s t : State} (h : PlansOk s) (hd : t.dir = s.dir) (hst : t.store = s.store) (hp : t.plan = s.plan)
    (hc : t.cond = s.cond) (hr : t.route = s.route) (hm : t.muster = s.muster) (hg : t.prog = s.prog)
      (hv : t.resolver = s.resolver) :
    PlansOk t := by
  obtain ⟨h1, h2, h3, h4⟩ := h
  refine ⟨?_, ?_, ?_, ?_⟩
  · simpa only [tablesWf, hd, hst, hp, hc, hr, hm, hg, hv] using h1
  · simpa only [planKept, hst, hp] using h2
  · simpa only [editOrder, hst, hp] using h3
  · simpa only [plansDistinct, hst, hp] using h4

theorem exec_holdersKept {c : Instr} {s t : State} (h : exec c s = .next t) : holdersKept s t := by
  refine exec_cases (P := holdersKept) (fun s t hk => .of_steady (.of_keeps hk (by decide))
    ((PlanSteady.refl s).keeps hk (by decide)))
    (fun c s t hf hr h => ?_) (fun s t h _ => ⟨HolderOk.reset h, fun hp _ => reset_distinct hp h⟩) h
  have hrecords : Facet.records ∉ facets c → Steady s t := fun hc => .of_keeps (execPlain_keeps hf hr h) hc
  have hplans : Facet.store ∉ facets c ∧ Facet.active ∉ facets c ∧ Facet.edit ∉ facets c → PlanSteady s t := fun hc =>
    (PlanSteady.refl s).keeps (execPlain_keeps hf hr h) hc
  have hbegin : Steady s s.begin := .of_keeps (begin_keeps s) (by decide)
  have hbeginPlan : PlanSteady s s.begin := (PlanSteady.refl s).keeps (begin_keeps s) (by decide)
  have hports : ∀ {u v}, Keeps [.ports, .confirm] u v → Steady s u → Steady s v := fun hk hu => hu.trans (.of_keeps hk (by decide))
  have hportsPlan : ∀ {u v}, Keeps [.ports, .confirm] u v → PlanSteady s u → PlanSteady s v := fun hk hu => hu.keeps hk (by decide)
  have hportsDistinct : ∀ {u v}, Keeps [.ports, .confirm] u v → plansDistinct u → plansDistinct v := fun hk hu =>
    hu.steady ((PlanSteady.refl _).keeps hk (by decide))
  have hopen := PlansOk.of_eq (s := s) (t := s.begin)
  have hrefl := Steady.refl s
  have hreflPlan := PlanSteady.refl s
  cases c
  case unknownKind | badCrcFrame | frameWhileBusy | startByte | lengthOutOfRange => exact absurd hf.symm Bool.false_ne_true
  case reset => exact absurd rfl hr
  case sweep =>
    exact .of_steady (execRequest_pred hports h hrefl fun u hu => parsed_state hu fun _ => hu.sweepRequest _)
      (hplans (by simp [facets]))
  case segmentReset =>
    exact .of_steady (execRequest_pred hports h hrefl fun u hu => parsed_state hu fun _ => hu.resetSegment)
      (hplans (by simp [facets]))
  case revive =>
    exact .of_steady (execRequest_pred hports h hrefl fun u hu => parsed_state hu fun _ => hu.revive _) (hplans (by simp [facets]))
  case sweepStart => exact .of_steady (by cases h; exact hbegin.sweepStart) (hplans (by simp [facets]))
  case automaticSweepTimerExpiry => exact .of_steady (by cases h; exact hbegin.automaticExpiry) (hplans (by simp [facets]))
  case presence => exact .of_steady (by cases h; exact hbegin.presenceWindow _) (hplans (by simp [facets]))
  case assignReplyTimeout => exact .of_steady (by cases h; exact hbegin.assignTimeout) (hplans (by simp [facets]))
  case cardExchange => exact .of_steady (by cases h; exact hbegin.cardExchange) (hplans (by simp [facets]))
  case pollExchange => exact .of_steady (by cases h; exact hbegin.pollExchange) (hplans (by simp [facets]))
  case ack => exact .of_steady (by cases h; exact hbegin.ack _) (hplans (by simp [facets]))
  case nak => exact .of_steady (by cases h; exact hbegin.nak _) (hplans (by simp [facets]))
  case pollNone => exact .of_steady (by cases h; exact hbegin.pollNone _) (hplans (by simp [facets]))
  case pollNak => exact .of_steady (by cases h; exact hbegin.pollNak _) (hplans (by simp [facets]))
  case report => exact .of_steady (by cases h; exact hbegin.report ..) (hplans (by simp [facets]))
  case panelReplyTimeout => exact .of_steady (by cases h; exact hbegin.replyTimeout) (hplans (by simp [facets]))
  case refreshLimitExpiry => exact .of_steady (by cases h; exact hbegin.limitExpiry _) (hplans (by simp [facets]))
  case creditRefill => exact .of_steady (by cases h; exact hbegin.creditRefill) (hplans (by simp [facets]))
  case dispatch => exact .of_steady (by cases h; exact hbegin.dispatch) (hplans (by simp [facets]))
  case bit =>
    have hplan := hplans (by simp [facets])
    cases h
    refine fun hs => ⟨(hs.steady hbegin).bitWindow _, fun hp hb => ⟨hp.distinct.steady hplan, hb.of_holders ?_ hplan.active⟩⟩
    exact hbegin.holders.trans (bitWindow_holders (s := s.begin) hs.addresses.1 _)
  case capabilityReply =>
    have hplan := hplans (by simp [facets])
    cases h
    refine fun hs => ⟨(hs.steady hbegin).capabilityReply .., fun hp hb => ⟨hp.distinct.steady hplan, ?_⟩⟩
    exact capabilityReply_bound (hopen hp rfl rfl rfl rfl rfl rfl rfl rfl) hs.addresses.1 (hb.of_holders hbegin.holders rfl) _ _ _
  case commitCompletion =>
    cases h
    refine fun hs => ⟨(hs.steady hbegin).commitCompletion, fun hp hb => ?_⟩
    have hp := hopen hp rfl rfl rfl rfl rfl rfl rfl rfl
    exact ⟨commitCompletion_distinct hp, commitCompletion_bound hp (hb.of_holders hbegin.holders rfl)⟩
  case bindCompletion =>
    cases h
    refine fun hs => ⟨(hs.steady hbegin).bindCompletion, fun hp hb => ?_⟩
    have hp := hopen hp rfl rfl rfl rfl rfl rfl rfl rfl
    exact ⟨bindCompletion_distinct hp, bindCompletion_bound hp (hb.of_holders hbegin.holders rfl)⟩
  case planCommit =>
    have hst := hrecords (by simp [facets])
    have hactive : t.plan.active = s.plan.active := (execPlain_keeps hf hr h).keeps .active (by simp [facets])
    refine fun hs => ⟨hs.steady hst, fun hp hb => ⟨?_, hb.of_holders hst.holders hactive⟩⟩
    exact execRequest_pred hportsDistinct h hp.distinct fun u hu => planCommit_distinct hu _
  case bind =>
    have hst := hrecords (by simp [facets])
    have hactive : t.plan.active = s.plan.active := (execPlain_keeps hf hr h).keeps .active (by simp [facets])
    refine fun hs => ⟨hs.steady hst, fun hp hb => ⟨?_, hb.of_holders hst.holders hactive⟩⟩
    exact execRequest_pred hportsDistinct h hp.distinct fun u hu => parsed_state hu fun _ => bindDisplay_distinct hu ..
  case planOpen =>
    exact .of_steady (hrecords (by simp [facets]))
      (execRequest_pred hportsPlan h hreflPlan fun u hu => parsed_state hu fun _ => hu.planOpen _)
  case planWrite => exact .of_steady (hrecords (by simp [facets])) (execRequest_pred hportsPlan h hreflPlan fun u hu =>
    hu.planWrite _)
  case planAbandon => exact .of_steady (hrecords (by simp [facets])) (execRequest_pred hportsPlan h hreflPlan fun u hu =>
    hu.planAbandon)
  case setMusterTimers =>
    exact .of_steady (hrecords (by simp [facets]))
      (execRequest_pred hportsPlan h hreflPlan fun u hu => parsed_state hu fun _ => hu.setMusterTimers ..)
  case setLinkTimeout =>
    exact .of_steady (hrecords (by simp [facets]))
      (execRequest_pred hportsPlan h hreflPlan fun u hu => parsed_state hu fun _ => hu.setLinkTimeout ..)
  case fixedDetour =>
    refine .of_steady (hrecords (by simp [facets])) (execRequest_pred hportsPlan h hreflPlan fun u hu => ?_)
    have hu' := hu.keeps (abandonConfirm_keeps u) (by decide)
    exact parsed_state (P := PlanSteady s) hu' fun _ => hu'.fixedDetour ..
  case alert =>
    exact .of_steady (hrecords (by simp [facets])) (execRequest_pred hportsPlan h hreflPlan fun u hu =>
      parsed_state hu fun _ => hu.alert _)
  case cancelAlert => exact .of_steady (hrecords (by simp [facets])) (execRequest_pred hportsPlan h hreflPlan fun u hu =>
    hu.cancelAlert)
  case muster =>
    exact .of_steady (hrecords (by simp [facets]))
      (execRequest_pred hportsPlan h hreflPlan fun u hu => parsed_state hu fun _ => hu.musterRequest _)
  case standdown => exact .of_steady (hrecords (by simp [facets])) (execRequest_pred hportsPlan h hreflPlan fun u hu =>
    hu.standdown)
  case generalAlarmEvent => exact .of_steady (hrecords (by simp [facets])) (by cases h; exact hbeginPlan.generalAlarm)
  case overdueTimerExpiry => exact .of_steady (hrecords (by simp [facets])) (by cases h; exact hbeginPlan.overdueExpiry)
  case standDownHoldExpiry => exact .of_steady (hrecords (by simp [facets])) (by cases h; exact hbeginPlan.holdExpiry)
  case fixedDetourCompletion => exact .of_steady (hrecords (by simp [facets])) (by cases h; exact hbeginPlan.fixedDetourCompletion)
  case latchSetCompletion => exact .of_steady (hrecords (by simp [facets])) (by cases h; exact hbeginPlan.latchSetCompletion)
  case latchClearCompletion => exact .of_steady (hrecords (by simp [facets])) (by cases h; exact hbeginPlan.latchClearCompletion)
  case settingsWriteCompletion => exact .of_steady (hrecords (by simp [facets])) (by cases h; exact hbeginPlan.settingsCompletion)
  all_goals exact .of_steady (hrecords (by simp only [facets]; decide)) (hplans (by simp only [facets]; decide))

/-- Settles O50: the invariant of identities and placements, kept by the passing second and by every command. -/
theorem identitiesStayDistinct : Obligations.IdentitiesStayDistinct := by
  intro s t haddresses hassign hdistinct hstep
  have hs : HolderOk s := ⟨haddresses, hassign, hdistinct⟩
  have hkept : HolderOk t ∧ (PlansOk s → boundAsExpected s → plansDistinct t ∧ boundAsExpected t) := by
    rcases step_cases hstep with rfl | ⟨c, rest, h⟩
    · exact holdersKept.of_steady (.tick (.refl s)) (.of_store rfl fun _ _ _ hw => hw) hs
    · obtain ⟨ht, hplans⟩ := exec_holdersKept h (hs.steady (.of_eq rfl rfl))
      exact ⟨ht, fun hp hb => hplans (hp.of_eq rfl rfl rfl rfl rfl rfl rfl rfl) (hb.of_holders (.of_dir rfl) rfl)⟩
  obtain ⟨ht, hplans⟩ := hkept
  refine ⟨ht.addresses, ht.assign, ht.distinct, fun hw hp he hd hb => ?_⟩
  obtain ⟨htd, htb⟩ := hplans ⟨hw, hp, he, hd⟩ hb
  exact ⟨htd, htb, placementsDistinct_of_bound htb ht.distinct⟩

end Sys2Proof.Machine
end


section
/-! PROOFS. Requests on a READY port, said once; the state right after reset; and the requests on detours (R31 to R38). -/

namespace Sys2Proof.Machine

/-! ## Requests whose body decodes -/

section
variable {α : Type} {area : Area} {kind tag : Byte} {l : LinkId} {s t : State} {r : Reply}

/-- The block's answer is the request's. -/
theorem taken_answer {h : State → Handled} (hr : portReady s l) (hd : area.denies l = false)
    (ha : h (requestTaken l s) = .answer t r) :
    takeRequest area false kind l tag h s = t.answer l tag kind r := by
  rw [takeRequest_taken hr hd, ha, settle]

/-- A body that decodes goes to the block. -/
theorem taken_parsed {p : Except Reason α} {f : State → α → Handled} {a : α} (hr : portReady s l) (hd : area.denies l = false)
    (hp : p = .ok a) (ha : f (requestTaken l s) a = .answer t r) :
    takeRequest area false kind l tag (fun u => parsed p u (f u)) s = t.answer l tag kind r := by
  refine taken_answer hr hd ?_
  rw [hp]
  exact ha

end

/-! ## The state right after reset -/

/-- Settles O58: every invariant of the reset state, whose tables are empty and whose writes, timers and sweeps are none. -/
theorem resetStateMeetsTheInvariants : Obligations.ResetStateMeetsTheInvariants := by
  have hempty : ∀ k, State.reset.display k = Display.freed none := fun _ => rfl
  have hbound : boundAsExpected State.reset := fun k p hp => by
    rw [hempty] at hp
    cases hp
  have hdelivery := DeliveryOk.start
  have hholders := HolderOk.start
  refine ⟨rfl, nofun, ⟨⟨nofun, nofun⟩, fun _ => rfl⟩, nofun, fun f => ⟨nofun, nofun⟩, fun _ => ⟨rfl, nofun, nofun⟩, rfl,
    ⟨nofun, nofun, nofun⟩, ?_, rfl, fun _ => ⟨rfl, rfl⟩, nofun, hdelivery.addresses, hdelivery.queues, hdelivery.credits,
    hdelivery.bounds, ?_, hholders.assign, hholders.distinct, ⟨nofun, nofun, nofun⟩, hbound,
    placementsDistinct_of_bound hbound hholders.distinct⟩
  · unfold tallyCounts
    decide
  · exact ⟨by unfold planWf; decide, nofun, nofun, nofun, by decide⟩

/-! ## Detours (R31 to R38) -/

/-- Settles O14: the checks of R31 in their order, the three lookups together. -/
theorem detourFieldsAreChecked : Obligations.DetourFieldsAreChecked := by
  intro p f
  unfold checkDetour
  refine if_congr Iff.rfl rfl (if_congr Iff.rfl rfl ?_)
  rw [Table.has]
  cases Table.get p.zones f.zone with
  | none => rfl
  | some z => cases Table.get p.edges f.blocked <;> cases Table.get p.edges f.opened <;> rfl

/-- Settles O16: the answer of the checks, else the slot of the zone. -/
theorem softDetourSetFollowsTheSlot : Obligations.SoftDetourSetFollowsTheSlot := by
  intro tag body f s hr hbody t
  refine congrArg Host.Outcome.next ((takeRequest_taken hr rfl).trans ?_)
  rw [hbody]
  change settle .safety tag 0x16#8 (softDetourSet f t) = _
  have hactive : t.activePlan = s.activePlan := rfl
  have hslots : t.cond.slots = s.cond.slots := rfl
  rw [softDetourSet, hactive, State.slotFixed, hslots]
  cases checkDetour s.activePlan f with
  | some r => rfl
  | none =>
    cases Table.get s.cond.slots f.zone with
    | none => rfl
    | some d =>
      obtain ⟨b, o, fixed⟩ := d
      cases fixed with
      | true => rfl
      | false =>
        simp only [Option.any_some, Bool.false_eq_true, if_false]
        split <;> rfl

theorem bodyOne_cons (z : Byte) (rest : List Byte) : bodyOne (z :: rest) = .ok z.toNat := rfl

/-- Settles O17: DENIED on the hotel link, and on the safety link the zone's range, its record and its slot. -/
theorem softDetourClearFollowsTheSlot : Obligations.SoftDetourClearFollowsTheSlot := by
  intro tag z rest s
  refine ⟨fun hr => congrArg Host.Outcome.next (takeRequest_denied hr rfl), fun hr => ?_⟩
  intro t
  refine congrArg Host.Outcome.next ((takeRequest_taken hr rfl).trans ?_)
  change settle .safety tag 0x17#8 (softDetourClear z.toNat t) = _
  have hactive : t.activePlan = s.activePlan := rfl
  have hslots : t.cond.slots = s.cond.slots := rfl
  rw [softDetourClear, hactive, hslots, apply_ite (settle .safety tag 0x17#8), apply_ite (settle .safety tag 0x17#8)]
  refine if_congr Iff.rfl rfl (if_congr (by simp) rfl ?_)
  cases Table.get s.cond.slots z.toNat with
  | none => rfl
  | some d => exact apply_ite ..

/-- Settles O18: the rows of the table of R35 in their order. -/
theorem confirmFollowsItsTable : Obligations.ConfirmFollowsItsTable := by
  intro tag body k f s hr hbody t ended
  refine congrArg Host.Outcome.next ((takeRequest_own hr rfl).trans ?_)
  rw [hbody]
  change settle .safety tag 0x18#8 (confirmStep k f t) = _
  have hprogress : t.cond.progress = s.cond.progress := rfl
  have hfields : t.cond.fields = s.cond.fields := rfl
  have hactive : t.activePlan = s.activePlan := rfl
  have hslots : t.cond.slots = s.cond.slots := rfl
  rw [confirmStep, hprogress, hfields, hactive, State.slotFixed, hslots]
  simp only [apply_ite (settle .safety tag 0x18#8)]
  by_cases hrange : k = 0 ∨ 4 < k
  · rw [if_pos hrange, if_pos hrange]
    rfl
  · rw [if_neg hrange, if_neg hrange]
    refine if_congr Iff.rfl ?_ (if_congr ?_ rfl rfl)
    · cases checkDetour s.activePlan f with
      | some r => rfl
      | none => exact apply_ite ..
    · rw [← and_assoc, ← and_assoc]
      exact and_congr_left fun _ => by omega

/-- Settles O19: the steps, the checks, the slot and the store in their order; and the completion, whose result is as the model
computes it. -/
theorem fixedDetourIsWrittenOnce : Obligations.FixedDetourIsWrittenOnce := by
  constructor
  · intro tag body f s hr hbody t
    refine congrArg Host.Outcome.next ((takeRequest_own hr rfl).trans ?_)
    rw [hbody]
    change settle .safety tag 0x19#8 (fixedDetour tag f s.cond t) = _
    have hactive : t.activePlan = s.activePlan := rfl
    have hslots : t.cond.slots = s.cond.slots := rfl
    have hbusy : t.storeBusy = s.storeBusy := rfl
    rw [fixedDetour, stepsTaken, hactive, State.slotFixed, hslots, hbusy, apply_ite (settle .safety tag 0x19#8)]
    refine if_congr Iff.rfl rfl ?_
    cases checkDetour s.activePlan f with
    | some r => rfl
    | none =>
      simp only [apply_ite (settle .safety tag 0x19#8)]
      refine if_congr Iff.rfl rfl (if_congr ?_ rfl ?_)
      · simp [State.storeBusy]
      · rfl
  · intro f s hw d
    have hbegin : s.begin.store.inFlight = some (.fixedDetour f) := hw
    change Host.Outcome.next (fixedDetourCompletion s.begin) = _
    rw [fixedDetourCompletion, hbegin]
    rfl

end Sys2Proof.Machine
end


section
/-! PROOFS. The link ports (chapter 9): the reads without operands, the port's own events, attention and settings. -/

namespace Sys2Proof.Machine

/-! ## The reads without operands (R20, R44, R67, R91, R120, R142, R191, R199) -/

/-- The port of a link that has taken a request: its link is live and its silence timer runs, unless it is HELD. -/
theorem linkStatus_taken (l : LinkId) (s : State) : linkStatus l (requestTaken l s) =
    { safety := if l = .safety then .live else (s.port .safety).live
      hotel := if l = .hotel then .live else (s.port .hotel).live
      safetyTimeout := (s.port .safety).timeout
      hotelTimeout := (s.port .hotel).timeout
      silence := if (s.port l).silence = SilenceTimer.held then .held else .running (s.port l).timeout
      enables := (sourceList l).map fun x => (x, (s.port l).mask.contains x)
      pending := (s.port l).pendingSet } := by
  have hsilence : ∀ p : Port, p.frameArrived.silence = if p.silence = SilenceTimer.held then .held else .running p.timeout :=
    fun p => by
    unfold Port.frameArrived
    cases p.silence <;> rfl
  have harrived := hsilence (s.port l)
  cases l with
  | safety =>
    change LinkStatusResult.mk _ _ _ _ ((s.port .safety).frameArrived.silence) _ _ = _
    rw [harrived]
    rfl
  | hotel =>
    change LinkStatusResult.mk _ _ _ _ ((s.port .hotel).frameArrived.silence) _ _ = _
    rw [harrived]
    rfl

/-- Settles O27: each read answers with its report, which is that of the state before, the port's own fields apart. -/
theorem statusReadsReportTheState : Obligations.StatusReadsReportTheState := by
  intro l tag body s hr t
  have hread : ∀ {h : State → Handled} {kind : Byte} {r : Reply}, h t = .answer t r →
      (Host.Outcome.next (takeRequest .shared false kind l tag h s) : Host.Outcome State Fault Refusal) =
        .next (t.answer l tag kind r) := fun ha => congrArg _ (taken_answer hr rfl ha)
  refine ⟨hread (congrArg (Handled.answer t) ?_), hread (congrArg (Handled.answer t) ?_), hread (congrArg (Handled.answer t) ?_),
    hread (congrArg (Handled.answer t) ?_), hread (congrArg (Handled.answer t) ?_), hread (congrArg (Handled.answer t) ?_),
    hread (congrArg (Handled.answer t) ?_), hread (congrArg (Handled.answer t) ?_)⟩
  · cases l <;> rfl
  · exact congrArg (fun x => Reply.results (.linkStatus x)) (linkStatus_taken l s)
  all_goals cases l <;> rfl

/-! ## Port events (R184, R186, R194) -/

section
variable {l : LinkId} {s : State}

theorem receiveByte_hunting (h : (s.port l).receiver = .hunting) :
    receiveByte l startByteValue s = .next (s.begin.modPort l fun p => { p with receiver := .receiving [] }) := by
  rw [receiveByte, h]
  exact if_pos rfl

theorem receiveByte_length {n : Byte} (h : (s.port l).receiver = .receiving []) (hn : n.toNat < 2 ∨ 250 < n.toNat) :
    receiveByte l n s = .next (s.begin.hunt l) := by
  rw [receiveByte, h]
  exact if_pos hn

theorem sentAnswer_answering {p : Port} {a : Answer} (h : p.state = .answering a) :
    p.sentAnswer = { p with
      state := .ready
      silence := if p.silence = SilenceTimer.held then .running p.timeout else p.silence } := by
  rw [Port.sentAnswer, h]
  cases p.silence <;> rfl

/-- The expiry of a running silence timer, block by block. -/
theorem silenceExpiry_running {n : Nat} (h : (s.port l).silence = .running n) :
    (silenceExpiry l s).port l = { s.port l with live := .lost, silence := .stopped } ∧
    (silenceExpiry l s).port l.peer =
      { s.port l.peer with
        pendingSet := if (s.port l).live = .live then
            (sourceList l.peer).filter fun x => x == .peerLost || (s.port l.peer).pendingSet.contains x
          else (s.port l.peer).pendingSet } ∧
    (silenceExpiry l s).cond = (if l = .safety then { s.cond with progress := 0, fields := none } else s.cond) := by
  unfold silenceExpiry
  rw [h]
  unfold State.raiseIf
  by_cases hlive : (s.port l).live = .live
  · simp only [hlive, decide_true, if_true]
    cases l <;> exact ⟨rfl, rfl, rfl⟩
  · simp only [hlive, decide_false, if_false, Bool.false_eq_true]
    cases l <;> exact ⟨rfl, rfl, rfl⟩

end

/-- Settles O7: the receiver's events, the end of an answer, and the silence timer's expiry. -/
theorem portEventsFollowTheirTables : Obligations.PortEventsFollowTheirTables := by
  refine ⟨fun l n s => ⟨fun h => receiveByte_hunting h, fun h hn => receiveByte_length h hn, rfl, rfl, fun a ha => ?_⟩,
    fun l n s h => ⟨_, rfl, ?_⟩⟩
  · exact congrArg (fun p => Host.Outcome.next (s.begin.setPort l p)) (sentAnswer_answering ha)
  · obtain ⟨hport, hpeer, hcond⟩ := silenceExpiry_running (s := s.begin) h
    exact ⟨hport, hpeer, hcond, everyCommandKeepsTheRest (.silenceTimerExpiry l) s _ rfl⟩

end Sys2Proof.Machine
end


section
/-! PROOFS. Lists of items (R29, R41, R197), the record of long operations (R189), and the requests on attention and settings
(R190, R195 to R198). -/

namespace Sys2Proof.Machine

/-! ## Lists whose items are checked in order -/

section
variable {α β : Type} {check : Nat → α → Except Reply β}

theorem checkItems_eq_ok {f : α → β} {xs : List α} (h : ∀ x ∈ xs, ∀ n, check n x = .ok (f x)) (pos : Nat) :
    checkItems check pos xs = .ok (xs.map f) := by
  induction xs generalizing pos with
  | nil => rfl
  | cons x xs ih =>
    rw [checkItems, h x List.mem_cons_self pos]
    dsimp only
    rw [ih (fun y hy => h y (List.mem_cons_of_mem _ hy))]
    rfl

/-- The first item that fails its check decides. -/
theorem checkItems_eq_error {good rest : List α} {x : α} {r : Reply} (hgood : ∀ y ∈ good, ∀ n, ∃ z, check n y = .ok z) (pos : Nat)
    (hx : check (pos + good.length) x = .error r) : checkItems check pos (good ++ x :: rest) = .error r := by
  induction good generalizing pos with
  | nil =>
    change checkItems check pos (x :: rest) = _
    rw [checkItems, show check pos x = .error r from hx]
  | cons y good ih =>
    obtain ⟨z, hz⟩ := hgood y List.mem_cons_self pos
    change checkItems check pos (y :: (good ++ x :: rest)) = _
    rw [checkItems, hz]
    dsimp only
    rw [ih (fun w hw => hgood w (List.mem_cons_of_mem _ hw)) (pos + 1)
      (by rwa [List.length_cons, ← Nat.add_assoc, Nat.add_right_comm] at hx)]

/-- The last item that `p` accepts decides a value. -/
theorem foldl_last (p : α → Bool) (g : α → β) (xs : List α) (b : β) :
    xs.foldl (fun acc y => if p y then g y else acc) b = ((xs.reverse.find? p).map g).getD b := by
  induction xs generalizing b with
  | nil => rfl
  | cons x xs ih =>
    rw [List.foldl_cons, ih, List.reverse_cons, List.find?_append]
    cases hfind : xs.reverse.find? p with
    | some y => rfl
    | none => cases hx : p x <;> simp [hx]

end

/-! ## Long operations (R189) -/

/-- The end of an operation moves its entry to the last completed one. -/
theorem endOp_entered (p : Port) (k : OpKind) (g : Option Seg) (o : OpOutcome) : opEntered k g o p (p.endOp k g o) := by
  have his : ∀ e : OpEntry, (e.kind == k && e.seg == g) = true ↔ e.kind = k ∧ e.seg = g := fun e => by simp
  constructor
  · intro pre e post hsplit he hpre
    have hfind : (p.inFlight.find? fun e => e.kind == k && e.seg == g) = some e := by
      rw [hsplit, List.find?_append, List.find?_eq_none.mpr fun x hx => fun h => hpre x hx ((his x).mp h)]
      rw [Option.none_or, List.find?_cons_of_pos (by exact (his e).mpr he)]
    have hnot : e ∉ pre := fun hmem => hpre e hmem he
    rw [Port.endOp, hfind]
    refine ⟨?_, rfl⟩
    change p.inFlight.erase e = _
    rw [hsplit, List.erase_append_right _ hnot, List.erase_cons_head]
  · intro hno
    have hfind : (p.inFlight.find? fun e => e.kind == k && e.seg == g) = none :=
      List.find?_eq_none.mpr fun x hx => fun h => hno x hx ((his x).mp h)
    rw [Port.endOp, hfind]
    exact ⟨rfl, rfl⟩

/-- The end of an operation changes the record of operations alone. -/
theorem endOp_rest (p : Port) (k : OpKind) (g : Option Seg) (o : OpOutcome) :
    p.endOp k g o = { p with inFlight := (p.endOp k g o).inFlight, lastDone := (p.endOp k g o).lastDone } := by
  unfold Port.endOp
  split <;> rfl

theorem opEntered.congr {k : OpKind} {g : Option Seg} {o : OpOutcome} {p q q' : Port} (h : opEntered k g o p q)
    (hi : q'.inFlight = q.inFlight) (hl : q'.lastDone = q.lastDone) : opEntered k g o p q' := by
  unfold opEntered at *
  rwa [hi, hl]

/-- A frame with one part fewer, where that part is seen to stay. -/
theorem SameBut.drop {ps qs : List Part} {s t : State} (h : SameBut ps s t) (hq : ∀ p ∈ ps, p ∉ qs → p.same s t) :
    SameBut qs s t :=
  ⟨fun p hp => if hps : p ∈ ps then hq p hps hp else h.keeps p hps⟩

/-! ## Settings (R117, R190, R195) -/

section
variable {l : LinkId} {s : State}

/-- A settings request is refused in a busy store, and else held. -/
theorem exec_settings {α : Type} {kind tag : Byte} {area : Area} {p : Except Reason α} {a : α} {w : SettingsWrite}
    (hr : portReady s l)
    (hd : area.denies l = false) (hp : p = .ok a) {f : State → α → Handled}
    (hf : ∀ u, f u a = if u.storeBusy then .answer u (.refuse .busy)
      else .hold ((u.startWrite (.settings w)).beginOp l ⟨.settings, tag, none⟩)) :
    takeRequest area false kind l tag (fun u => parsed p u (f u)) s =
      if s.store.inFlight.isSome ∨ s.store.waiting.isSome then (requestTaken l s).answer l tag kind (.refuse .busy)
      else { requestTaken l s with store := { s.store with inFlight := some (.settings w) } }.setPort l
        { (requestTaken l s).port l with
          inFlight := ((requestTaken l s).port l).inFlight ++ [(⟨.settings, tag, none⟩ : OpEntry)]
          state := .handling tag kind, silence := .held } := by
  rw [takeRequest_taken hr hd, hp]
  change settle l tag kind (f (requestTaken l s) a) = _
  have hbusy : ((requestTaken l s).storeBusy = true) = (s.store.inFlight.isSome ∨ s.store.waiting.isSome) := by
    simp [State.storeBusy]
  rw [hf, apply_ite (settle l tag kind)]
  simp only [hbusy]
  refine if_congr Iff.rfl rfl ?_
  cases l <;> rfl

/-- The held answer goes out, and nothing else of the port changes. -/
theorem sendHeld_rest (p : Port) (r : Reply) :
    p.sendHeld r = { p with
      state := match p.state with
        | .handling u kind => .answering ⟨u, kind, r⟩
        | x => x } := by
  obtain ⟨receiver, state, life, silence, timeout, pendingSet, mask, inFlight, lastDone⟩ := p
  cases state <;> rfl

/-- The port at the completion of a settings write whose timeout is `n`. -/
theorem settled_port (p : Port) (n : Nat) (w : SettingsWrite) :
    let q := ((({ p with timeout := n } : Port).endOp .settings none (.settings w)).sendHeld w.reply)
    q.timeout = n ∧
    (q = { p with
      timeout := q.timeout, inFlight := q.inFlight, lastDone := q.lastDone
      state := match p.state with
        | .handling u kind => .answering ⟨u, kind, w.reply⟩
        | x => x }) ∧
    opEntered .settings none (.settings w) p q := by
  intro q
  have hrest := endOp_rest { p with timeout := n } .settings none (.settings w)
  have hq : q = { ({ p with timeout := n } : Port).endOp .settings none (.settings w) with
      state := match p.state with
        | .handling u kind => .answering ⟨u, kind, w.reply⟩
        | x => x } := by
    change Port.sendHeld _ _ = _
    rw [sendHeld_rest, hrest]
  refine ⟨?_, ?_, ?_⟩
  · rw [hq, hrest]
  · rw [hq]
    dsimp only
    rw [hrest]
  · rw [hq]
    exact (endOp_entered { p with timeout := n } .settings none (.settings w)).congr rfl rfl

end

/-- Settles O30: the requests held, and the completions that answer them. -/
theorem settingsAreAnsweredAtTheirCompletion : Obligations.SettingsAreAnsweredAtTheirCompletion := by
  intro l tag body s
  refine ⟨fun hr => ?_, ?_⟩
  · intro t p held
    refine ⟨fun n hbody => congrArg Host.Outcome.next ?_, fun a b hl hbody => ?_⟩
    · exact exec_settings (w := .silence l (clamp 2 60 n)) hr rfl hbody fun u => rfl
    · subst hl
      exact congrArg Host.Outcome.next (exec_settings (w := .timers (clamp 1 60 a) (clamp 1 30 b)) hr rfl hbody fun u => rfl)
  intro answered
  refine ⟨fun n hw => ?_, fun a b hw => ?_⟩
  · obtain ⟨htimeout, hanswered, hentered⟩ := settled_port (s.port l) n (.silence l n)
    have hkept : SameBut [.store, .muster, .ports] s (settingsCompletion s.begin) :=
      everyCommandKeepsTheRest .settingsWriteCompletion s _ rfl
    refine ⟨settingsCompletion s.begin, rfl, ?_⟩
    rw [settingsCompletion, show s.begin.store.inFlight = some (.settings (.silence l n)) from hw] at hkept ⊢
    cases l with
    | safety => exact ⟨rfl, htimeout, hanswered, hentered, rfl, hkept.drop (by simp [Part.same, State.applySettings])⟩
    | hotel => exact ⟨rfl, htimeout, hanswered, hentered, rfl, hkept.drop (by simp [Part.same, State.applySettings])⟩
  · obtain ⟨htimeout, hanswered, hentered⟩ := settled_port (s.port .safety) (s.port .safety).timeout (.timers a b)
    have hkept : SameBut [.store, .muster, .ports] s (settingsCompletion s.begin) :=
      everyCommandKeepsTheRest .settingsWriteCompletion s _ rfl
    refine ⟨settingsCompletion s.begin, rfl, ?_⟩
    rw [settingsCompletion, show s.begin.store.inFlight = some (.settings (.timers a b)) from hw] at hkept ⊢
    exact ⟨rfl, rfl, htimeout, hanswered, hentered, rfl, hkept.mono (by decide)⟩

/-! ## Attention (R197, R198) -/

section
variable {l : LinkId} {s : State}

theorem line_iff (q : Port) : q.line = true ↔ ∃ x, x ∈ q.pendingSet ∧ x ∈ q.mask := by
  simp [Port.line]

/-- The sources pending once one of them is cleared. -/
theorem clearSource_eq (l : LinkId) (x : Source) (s : State) : s.clearSource l x =
    s.setPort l { s.port l with pendingSet := (sourceList l).filter fun y => y != x && (s.port l).pendingSet.contains y } := rfl

theorem flagOf_eq_ok {n : Nat} (h : n < 2) : flagOf n = .ok (decide (n = 1)) := by
  interval_cases n <;> rfl

theorem flagOf_eq_error {n : Nat} (h : 2 ≤ n) : flagOf n = .error .range := by
  unfold flagOf
  split <;> first | rfl | omega

theorem sourceOf_code (l : LinkId) {y : Source} (h : y ∈ sourceList l) : sourceOf l y.code = some y := by
  cases l <;> cases y <;> first | rfl | exact absurd h (by decide)

/-- The source and the enable an item of a mask request stands for. -/
def maskItem (l : LinkId) (x : Nat × Nat) : Source × Bool := ((sourceOf l x.1).getD .reload, decide (x.2 = 1))

/-- An item of the link's list with an enable of 0 or 1. -/
def maskFits (l : LinkId) (x : Nat × Nat) : Prop := (∃ y ∈ sourceList l, y.code = x.1) ∧ x.2 < 2

theorem checkMaskItem_ok {x : Nat × Nat} (h : maskFits l x) (n : Nat) : checkMaskItem l n x = .ok (maskItem l x) := by
  obtain ⟨⟨y, hy, hcode⟩, henable⟩ := h
  rw [checkMaskItem, maskItem, ← hcode, sourceOf_code l hy, flagOf_eq_ok henable]
  rfl

theorem checkMaskItem_error {x : Nat × Nat} (h : (∀ y ∈ sourceList l, y.code ≠ x.1) ∨ 2 ≤ x.2) (n : Nat) :
    checkMaskItem l n x = .error (.badAt .range (.position n)) := by
  unfold checkMaskItem
  rcases h with hcode | henable
  · rw [show sourceOf l x.1 = none from List.find?_eq_none.mpr fun y hy => by simpa using hcode y hy]
  · rw [flagOf_eq_error henable]
    cases sourceOf l x.1 <;> rfl

/-- The enable of a source after the items: the last one that names it decides (log 17). -/
theorem enableAfter_items {old : List Source} {xs : List (Nat × Nat)} (hxs : ∀ x ∈ xs, maskFits l x) {y : Source}
    (hy : y ∈ sourceList l) :
    enableAfter old (xs.map (maskItem l)) y = true ↔
      match xs.reverse.find? fun x => x.1 == y.code with
      | some x => x.2 = 1
      | none => y ∈ old := by
  have hnames : ∀ x ∈ xs, ((maskItem l x).1 = y) = ((x.1 == y.code) = true) := fun x hx => by
    obtain ⟨⟨z, hz, hcode⟩, -⟩ := hxs x hx
    rw [maskItem, ← hcode, sourceOf_code l hz, beq_iff_eq, Option.getD_some, eq_iff_iff]
    refine ⟨fun h => h ▸ rfl, fun h => ?_⟩
    have hsame := (sourceOf_code l hz).symm.trans (h ▸ sourceOf_code l hy)
    exact Option.some.inj hsame
  have hfold : enableAfter old (xs.map (maskItem l)) y =
      xs.foldl (fun acc x => if (x.1 == y.code) = true then decide (x.2 = 1) else acc) (old.contains y) := by
    rw [enableAfter, List.foldl_map]
    refine List.foldl_ext _ _ _ fun acc x hx => ?_
    simp only [hnames x hx]
    rfl
  rw [hfold, foldl_last]
  cases xs.reverse.find? fun x => x.1 == y.code <;> simp

end

/-- What READ ATTENTION answers, with and without a code. -/
theorem readAttention_eq (l : LinkId) (n : Nat) (s : State) : readAttention l n s =
    if n = 255 then
      match (sourceList l).find? fun x => (s.port l).pendingSet.contains x && (s.port l).mask.contains x with
      | none => .answer s (.results (.attention 0 (s.port l).pendingSet))
      | some x => .answer (s.clearSource l x) (.results (.attention x.code ((s.clearSource l x).port l).pendingSet))
    else match (sourceList l).find? fun x => x.code == n with
      | none => .answer s (.bad .range)
      | some x => .answer (s.clearSource l x) (.results (.attention (if x ∈ (s.port l).pendingSet then n else 0)
          ((s.clearSource l x).port l).pendingSet)) := by
  unfold readAttention indexOrAbsent
  by_cases hn : n = 255
  · rw [if_pos hn, if_pos hn]
    dsimp only
    unfold readTop Port.topSource
    cases (sourceList l).find? fun x => (s.port l).pendingSet.contains x && (s.port l).mask.contains x <;> rfl
  · rw [if_neg hn, if_neg hn]
    dsimp only
    unfold readCode sourceOf
    cases (sourceList l).find? fun x => x.code == n with
    | none => rfl
    | some x => simp

/-- Settles O29: the line, the two forms of READ ATTENTION, and the mask's items taken in order. -/
theorem attentionFollowsSetAndMask : Obligations.AttentionFollowsSetAndMask := by
  intro l tag body s hr t p rest
  have hp : p = (s.port l).frameArrived := (requestTaken_port l s l).trans (frameTaken_port l s)
  have hpending : p.pendingSet = (s.port l).pendingSet := by rw [hp]; rfl
  have hmask : p.mask = (s.port l).mask := by rw [hp]; rfl
  have hclear : ∀ x, t.clearSource l x = t.setPort l { p with pendingSet := rest x } := fun x => by
    rw [clearSource_eq, hpending]
  have hcleared : ∀ x, ((t.clearSource l x).port l).pendingSet = rest x := fun x => by
    rw [hclear, State.port_setPort]
  refine ⟨line_iff, fun n hbody => ?_, fun xs hbody hxs => ?_, fun good x bad hbody hgood hx => ?_⟩
  · refine congrArg Host.Outcome.next ((takeRequest_taken hr rfl).trans ?_)
    rw [hbody]
    change settle l tag 0x48#8 (readAttention l n t) = _
    have hread := readAttention_eq l n t
    rw [show (t.port l).pendingSet = _ from hpending, show (t.port l).mask = _ from hmask] at hread
    rw [hread, apply_ite (settle l tag 0x48#8)]
    refine if_congr Iff.rfl ?_ ?_
    · cases (sourceList l).find? fun x => (s.port l).pendingSet.contains x && (s.port l).mask.contains x with
      | none => rfl
      | some x =>
        dsimp only
        rw [hcleared, hclear]
        rfl
    · cases (sourceList l).find? fun x => x.code == n with
      | none => rfl
      | some x =>
        dsimp only
        rw [hcleared, hclear]
        rfl
  · refine ⟨sourcesWhere l (enableAfter p.mask (xs.map (maskItem l))), congrArg Host.Outcome.next ?_, List.filter_sublist,
      fun y hy => ?_⟩
    · refine taken_parsed hr rfl hbody ?_
      rw [setAttentionMask, checkItems_eq_ok (fun x hx => checkMaskItem_ok (hxs x hx))]
      rfl
    · refine (List.mem_filter.trans (and_iff_right hy)).trans ?_
      rw [← hmask]
      exact enableAfter_items hxs hy
  · refine congrArg Host.Outcome.next (taken_parsed hr rfl hbody ?_)
    rw [setAttentionMask, checkItems_eq_error (fun y hy n => ⟨_, checkMaskItem_ok (hgood y hy) n⟩) 0 (checkMaskItem_error hx _),
      Nat.zero_add]
    rfl

end Sys2Proof.Machine
end


section
/-! PROOFS. One second of the timebase (log 2): what comes due, and what the timers become. -/

namespace Sys2Proof.Machine

section
variable {s : State}

theorem mem_dueCommand {c i : Instr} {b : Bool} : c ∈ dueCommand b i ↔ b = true ∧ c = i := by
  cases b <;> simp [dueCommand]

theorem dueNow_iff (n : Nat) : dueNow n = true ↔ n ≤ 1 := decide_eq_true_iff

theorem optDue_iff (t : Option Nat) : optDue t = true ↔ ∃ n, t = some n ∧ n ≤ 1 := by
  cases t <;> simp [optDue, dueNow]

theorem SilenceTimer.due_iff (t : SilenceTimer) : t.due = true ↔ ∃ n, t = .running n ∧ n ≤ 1 := by
  cases t <;> simp [SilenceTimer.due, dueNow]

theorem OverdueTimer.due_iff (t : OverdueTimer) : t.due = true ↔ ∃ n, t = .running n ∧ n ≤ 1 := by
  cases t <;> simp [OverdueTimer.due, dueNow]

theorem AlarmWatch.due_iff (t : AlarmWatch) : t.due = true ↔ ∃ n, t = .timing n ∧ n ≤ 1 := by
  cases t <;> simp [AlarmWatch.due, dueNow]

theorem minuteDue_iff (x : Option Clock) :
    x.any Clock.minuteDue = true ↔ ∃ c, x = some c ∧ c.run = .running ∧ 59 ≤ c.seconds ∧ c.minute < 65535 := by
  cases x <;> simp [Clock.minuteDue, and_assoc]

theorem holdDue_iff (x : Option Clock) :
    x.any Clock.holdDue = true ↔ ∃ c, x = some c ∧ c.run = .running ∧ 58 ≤ c.seconds ∧ c.minute = 65535 := by
  cases x <;> simp [Clock.holdDue, and_assoc]

theorem mem_limitsDue {dir : Table Display} {c : Instr} : c ∈ limitsDue dir ↔
    ∃ k d, (k, d) ∈ dir ∧ optDue d.refreshLimit = true ∧ c = .refreshLimitExpiry (keySeg k) (keyAddr k) := by
  simp [limitsDue, mem_dueCommand]

theorem mem_sweepsDue {c : Instr} : (c ∈ [0, 1, 2, 3].flatMap fun g : Seg => dueCommand (optDue (s.seg g).autoTimer)
    (.automaticSweepTimerExpiry g)) ↔ ∃ g, optDue (s.seg g).autoTimer = true ∧ c = .automaticSweepTimerExpiry g := by
  have hall : ∀ g : Seg, g ∈ ([0, 1, 2, 3] : List Seg) := by decide
  simp only [List.mem_flatMap, mem_dueCommand]
  exact ⟨fun ⟨g, _, h⟩ => ⟨g, h⟩, fun ⟨g, h⟩ => ⟨g, hall g, h⟩⟩

/-- What comes due with this second, timer by timer. -/
theorem mem_due {c : Instr} : c ∈ s.due ↔
    (s.prog.clock.any Clock.minuteDue = true ∧ c = .minuteEvent) ∨
      (s.prog.clock.any Clock.holdDue = true ∧ c = .clockRunStateHeld) ∨
    (s.muster.watch.due = true ∧ c = .generalAlarmEvent) ∨ (s.muster.overdue.due = true ∧ c = .overdueTimerExpiry) ∨
    (optDue s.muster.hold = true ∧ c = .standDownHoldExpiry) ∨
    (∃ k d, (k, d) ∈ s.dir ∧ optDue d.refreshLimit = true ∧ c = .refreshLimitExpiry (keySeg k) (keyAddr k)) ∨
    (dueNow s.bus.refill = true ∧ c = .creditRefill) ∨
    (∃ g, optDue (s.seg g).autoTimer = true ∧ c = .automaticSweepTimerExpiry g) ∨
    ((s.port .safety).silence.due = true ∧ c = .silenceTimerExpiry .safety) ∨
    ((s.port .hotel).silence.due = true ∧ c = .silenceTimerExpiry .hotel) := by
  unfold State.due
  simp only [List.mem_append, mem_dueCommand, mem_limitsDue, mem_sweepsDue, or_assoc]

/-- A refresh limit comes due exactly for the record it runs for. -/
theorem mem_due_refreshLimit (h : addressesValid s) {g : Seg} {a : Nat} (ha : isAddress a) :
    .refreshLimitExpiry g a ∈ s.due ↔ optDue (s.display (recKey g a)).refreshLimit = true := by
  simp only [mem_due, reduceCtorEq, and_false, false_or, or_false, exists_false, Instr.refreshLimitExpiry.injEq]
  constructor
  · rintro ⟨k, d, hm, hdue, rfl, rfl⟩
    have hk : recKey (keySeg k) (keyAddr k) = k := recKey_of_keyValid (h.2.1 k d hm)
    rw [hk, State.display, Table.get_of_mem h.1 hm]
    exact hdue
  · intro hdue
    cases hget : Table.get s.dir (recKey g a) with
    | none =>
      rw [State.display, hget] at hdue
      cases hdue
    | some d =>
      rw [State.display, hget] at hdue
      exact ⟨_, d, Table.mem_of_get hget, hdue, (keySeg_recKey ha).symm, (keyAddr_recKey ha).symm⟩

theorem isExpiry_of_due {c : Instr} (h : c ∈ s.due) : isExpiry c := by
  rcases mem_due.mp h with ⟨-, rfl⟩ | ⟨-, rfl⟩ | ⟨-, rfl⟩ | ⟨-, rfl⟩ | ⟨-, rfl⟩ | ⟨_, _, _, -, rfl⟩ | ⟨-, rfl⟩ | ⟨_, -, rfl⟩ |
    ⟨-, rfl⟩ | ⟨-, rfl⟩
  all_goals trivial

theorem Clock.tick_eq (c : Clock) :
    c.tick = { c with seconds := if c.run = .running ∧ c.seconds < 59 then c.seconds + 1 else c.seconds } := by
  unfold Clock.tick
  split <;> rfl

theorem SilenceTimer.tick_eq (t : SilenceTimer) : t.tick = match t with
    | .running n => .running (n - 1)
    | x => x := by
  cases t <;> rfl

theorem tick_same (s : State) : SameBut [.prog, .muster, .dir, .segs, .bus, .ports, .pending] s s.tick := by
  refine ⟨fun p hp => ?_⟩
  cases p <;> first | rfl | exact absurd (by decide) hp

theorem tick_port (s : State) (l : LinkId) : s.tick.port l = (s.port l).tick := by cases l <;> rfl

end

/-- Settles O2: the passing second, each timer and each expiry by itself. -/
theorem idleStepQueuesWhatComesDue : Obligations.IdleStepQueuesWhatComesDue := by
  intro s hp
  refine ⟨s.tick, by rw [step, hp], tick_same s, rfl, ?_, ?_, ?_, ?_, ?_, ?_, fun g => ?_, fun l => ?_, fun h g a ha => ?_,
    fun c hc => isExpiry_of_due hc, ?_, ?_, fun k => tick_display s k, rfl, fun g => tick_seg s g, fun l => ?_⟩
  · rw [← minuteDue_iff]
    simp [State.tick, mem_due]
  · rw [← holdDue_iff]
    simp [State.tick, mem_due]
  · rw [← AlarmWatch.due_iff]
    simp [State.tick, mem_due]
  · rw [← OverdueTimer.due_iff]
    simp [State.tick, mem_due]
  · rw [← optDue_iff]
    simp [State.tick, mem_due]
  · rw [← dueNow_iff]
    simp [State.tick, mem_due]
  · rw [← optDue_iff]
    simp [State.tick, mem_due]
  · rw [← SilenceTimer.due_iff]
    cases l <;> simp [State.tick, mem_due]
  · exact (mem_due_refreshLimit h ha).trans (optDue_iff _)
  · rw [State.tick, show Clock.tick = _ from funext Clock.tick_eq]
  · rfl
  · exact (tick_port s l).trans (congrArg (fun x => { s.port l with silence := x }) (SilenceTimer.tick_eq _))

end Sys2Proof.Machine
end


section
/-! PROOFS. The reads with operands (R20, R44, R68, R83, R91, R97, R115, R119, R142, R161, R182). -/

namespace Sys2Proof.Machine

section
variable {α : Type} {kind tag : Byte} {l : LinkId} {s : State}

/-- A read whose body decodes answers without changing anything. -/
theorem read_answer {p : Except Reason α} {f : State → α → Handled} {a : α} {r : Reply} (hr : portReady s l) (hp : p = .ok a)
    (ha : f (requestTaken l s) a = .answer (requestTaken l s) r) :
    (Host.Outcome.next (takeRequest .shared false kind l tag (fun u => parsed p u (f u)) s) : Host.Outcome State Fault Refusal) =
      .next ((requestTaken l s).answer l tag kind r) := congrArg Host.Outcome.next (taken_parsed hr rfl hp ha)

/-- A body refused with a reason. -/
theorem read_refused {p : Except Reason α} {f : State → α → Handled} {e : Reason} (hr : portReady s l) (hp : p = .error e) :
    (Host.Outcome.next (takeRequest .shared false kind l tag (fun u => parsed p u (f u)) s) : Host.Outcome State Fault Refusal) =
      .next ((requestTaken l s).answer l tag kind (.bad e)) := by
  refine congrArg Host.Outcome.next (taken_answer hr rfl ?_)
  rw [hp]
  rfl

/-! ## The answers -/

theorem planRead_eq (l : LinkId) (b : PlanReadBody) (s : State) : planRead l b s = .answer s
    (if b.shadow = true ∧ l = .hotel then .refuse .denied
     else if b.shadow = true ∧ s.plan.edit = .closed then .refuse .state
     else match (if b.shadow then s.plan.shadow else s.activePlan).read b.kind b.index with
       | some r => .results (.planRecord r)
       | none => .refuse .notFound) := by
  unfold planRead
  cases b.shadow with
  | false =>
    simp only [Bool.false_eq_true, if_false, false_and]
    cases s.activePlan.read b.kind b.index <;> rfl
  | true =>
    simp only [if_true, true_and]
    split
    · rfl
    · split
      · rfl
      · cases s.plan.shadow.read b.kind b.index <;> rfl

theorem conditionRead_eq (first count : Nat) (s : State) : conditionRead first count s = .answer s
    (if 160 ≤ first ∨ count = 0 then .bad .range
     else .results (.conditions ((List.range (min (min count 32) (160 - first))).map fun j =>
       (Table.get s.activePlan.edges (first + j)).map fun _ => (Table.get s.cond.edges (first + j)).getD .openEdge))) := by
  unfold conditionRead
  have hitem : ∀ i, (if Table.has s.activePlan.edges i then some (s.condition i) else none) =
      (Table.get s.activePlan.edges i).map fun _ => (Table.get s.cond.edges i).getD .openEdge := fun i => by
    rw [Table.has, State.condition]
    cases Table.get s.activePlan.edges i <;> rfl
  simp only [hitem]
  exact (apply_ite (Handled.answer s) _ _ _).symm

/-- The 40 columns of a portal's row are those of the 8 stations, then those of the 32 venues. -/
theorem remainderRow (portal : Nat) (f : Nat → Option Remainder) : (List.range 40).map (fun c => f (portal * 40 + c)) =
    ((List.range 8).map fun i => f (remainderKey portal .station i)) ++ (List.range 32).map fun i =>
      f (remainderKey portal .venue i) := by
  rw [show (40 : Nat) = 8 + 32 from rfl, List.range_add, List.map_append, List.map_map]
  rfl

theorem remainderRead_eq (portal : Nat) (s : State) : remainderRead portal s = .answer s
    (if 8 ≤ portal then .bad .range
     else .results (.remainders
       (((List.range 8).map fun i => if s.planless then none else Table.get s.cond.remainders (remainderKey portal .station i)) ++
         (List.range 32).map fun i => if s.planless then none else Table.get s.cond.remainders
           (remainderKey portal .venue i)))) := by
  unfold remainderRead
  rw [remainderRow portal fun c => if s.planless then none else Table.get s.cond.remainders c]
  exact (apply_ite (Handled.answer s) _ _ _).symm

/-- A decoder in steps succeeds when each step does. -/
theorem bind_eq_ok {ε α β : Type} {x : Except ε α} {f : α → Except ε β} {b : β} :
    x >>= f = .ok b ↔ ∃ a, x = .ok a ∧ f a = .ok b := by
  cases x with
  | error e => exact ⟨nofun, fun ⟨_, h, _⟩ => nomatch h⟩
  | ok a => exact ⟨fun h => ⟨a, rfl, h⟩, fun ⟨_, h, hf⟩ => by cases h; exact hf⟩

theorem bodyEventList_ok {body : List Byte} {first count : Nat} (h : bodyEventList body = .ok (first, count)) :
    1 ≤ first ∧ 1 ≤ count ∧ count ≤ 16 := by
  unfold bodyEventList at h
  obtain ⟨⟨f, r⟩, -, h⟩ := bind_eq_ok.mp h
  obtain ⟨⟨c, r'⟩, -, h⟩ := bind_eq_ok.mp h
  dsimp only at h
  split at h
  · cases h
  · rename_i hne
    cases h
    simp only [Bool.or_eq_true, decide_eq_true_eq, not_or] at hne
    omega

/-- A list of events read from the first id on. -/
theorem eventList_eq (first count : Nat) (s : State) :
    ∃ es more, eventList first count s = .events es more ∧ es.length ≤ count ∧
      ∃ tail, s.prog.events.filter (fun x => decide (first ≤ x.1)) = es ++ tail ∧ (more = true ↔ tail ≠ []) ∧
        (tail ≠ [] → es.length = count) := by
  refine ⟨_, _, rfl, List.length_take_le _ _, _, (List.take_append_drop count _).symm, ?_, fun htail => ?_⟩
  · rw [decide_eq_true_iff, ← List.length_pos_iff_ne_nil, List.length_drop]
    omega
  · rw [← List.length_pos_iff_ne_nil, List.length_drop] at htail
    rw [List.length_take]
    omega

theorem cabinNumberFits_iff (n : Nat) : cabinNumberFits n = true ↔ 1 ≤ n ∧ n ≤ 99999 := by
  simp [cabinNumberFits]

/-- A cabin counts as occupied unless nobody is aboard. -/
theorem occupied_eq (c : CabinState) : c.occupied = (c.aboard != .count 0) := by
  unfold CabinState.occupied
  cases c.aboard with
  | unknown => rfl
  | count n => cases n <;> rfl

/-- A cabin found, with its record in the plan (R97). -/
theorem cabinRead_found {n i : Nat} {c : Cabin} (hn : 1 ≤ n ∧ n ≤ 99999) (hi : cabinIndex s.activePlan n = some i)
    (hc : Table.get s.activePlan.cabins i = some c) : cabinRead n s = .answer s (.results (.cabin
      { index := i, door := c.door, defaultStation := c.station, cabin := s.cabin i
        station := ((s.cabin i).stationOverride).getD c.station
        counted := (s.cabin i).aboard != .count 0 })) := by
  have hstation : (cabinStation s.activePlan s.muster.cabins i).getD c.station = ((s.cabin i).stationOverride).getD c.station := by
    rw [cabinStation, ← State.cabin, hc]
    cases (s.cabin i).stationOverride <;> rfl
  have hcounted : (s.cabin i).occupied = ((s.cabin i).aboard != .count 0) := occupied_eq _
  simp only [cabinRead, (cabinNumberFits_iff n).mpr hn, hi, hc, hstation, hcounted, Bool.not_true, Bool.false_eq_true, if_false]

theorem readOutstanding_eq (st start : Nat) (s : State) : readOutstanding st start s = .answer s
    (if 8 ≤ st ∨ 160 ≤ start then .bad .range
     else match Table.get s.activePlan.stations st with
       | none => .refuse .notFound
       | some _ =>
         let y := s.muster.tally.getD st ⟨0, 0, 0, []⟩
         .results (.outstanding
           { occupied := y.occupied, vacated := y.vacated, outstanding := y.outstanding, serial := s.muster.tallySerial
             cabins := (y.list.drop start).take 32 })) := by
  unfold readOutstanding
  rw [apply_ite (Handled.answer s)]
  refine if_congr Iff.rfl rfl ?_
  rw [Table.has]
  cases Table.get s.activePlan.stations st <;> rfl

/-! ## Displays and segments -/

theorem segOf_val (g : Seg) : segOf g.val = .ok g := dif_pos g.isLt

theorem segOf_error {n : Nat} (h : 4 ≤ n) : segOf n = .error .range := dif_neg (by omega)

theorem bodyDisplay_ok {body : List Byte} {g : Seg} {a : Nat} (h : bodyTwoBytes body = .ok (g.val, a)) (ha : isAddress a) :
    bodyDisplay body = .ok (g, a) := by
  rw [bodyDisplay, h]
  change displayOf g.val a = _
  rw [displayOf, segOf_val]
  exact if_pos ha

theorem bodyDisplay_error {body : List Byte} {x y : Nat} (h : bodyTwoBytes body = .ok (x, y)) (hxy : 4 ≤ x ∨ y = 0 ∨ 48 < y) :
    bodyDisplay body = .error .range := by
  rw [bodyDisplay, h]
  change displayOf x y = _
  unfold displayOf
  by_cases hx : 4 ≤ x
  · rw [segOf_error hx]
    rfl
  · rw [segOf, dif_pos (by omega)]
    exact if_neg (by omega)

theorem bodySeg_ok {body : List Byte} {g : Seg} (h : bodyOne body = .ok g.val) : bodySeg body = .ok g := by
  rw [bodySeg, h]
  exact segOf_val g

theorem bodySeg_error {body : List Byte} {n : Nat} (h : bodyOne body = .ok n) (hn : 4 ≤ n) : bodySeg body = .error .range := by
  rw [bodySeg, h]
  exact segOf_error hn

theorem inQueue_recKey {g : Seg} {a : Nat} (ha : isAddress a) : s.inQueue (recKey g a) = decide (a ∈ (s.seg g).queue) := by
  rw [State.inQueue, keySeg_recKey ha, keyAddr_recKey ha, Bool.eq_iff_iff]
  simp

theorem inTransit_recKey {g : Seg} {a : Nat} (ha : isAddress a) :
    s.inTransit (recKey g a) = decide ((s.seg g).exchange = some (.card a)) := by
  rw [State.inTransit, keySeg_recKey ha, keyAddr_recKey ha, Bool.eq_iff_iff]
  simp

/-- The standing of a queued record (R182): an EPAPER record without credits waits for one, unless its card is exempt. -/
theorem queueStanding_eq (d : Display) (c : StoredCard) : d.queueStanding c =
    if d.busy = true then .busy
    else if d.isEpaper = true ∧ (d.credits = none ∨ d.credits = some 0) ∧ c.cls ≠ .safety ∧ c.cause ≠ .press then .noCredit
    else .ready := by
  have hcredit : d.hasCredit = false ↔ d.credits = none ∨ d.credits = some 0 := by
    unfold Display.hasCredit
    cases d.credits <;> simp
  unfold Display.queueStanding
  refine if_congr Iff.rfl rfl (if_congr ?_ rfl rfl)
  simp [StoredCard.exempt, hcredit, and_assoc]

end

/-- Settles O28: each read's checks and its report, of the state as it stands. -/
theorem tableReadsFollowTheirChecks : Obligations.TableReadsFollowTheirChecks := by
  have hactive : ∀ (l : LinkId) (s : State), (requestTaken l s).activePlan = s.activePlan := requestTaken_activePlan
  refine ⟨fun l tag body s hr => ?_, fun l tag body s hr => ?_, fun l tag body s hr => ?_⟩
  · intro t
    have hroute : t.route = s.route := requestTaken_route ..
    refine ⟨fun b hb => read_answer hr hb ?_, fun first count hb => read_answer hr hb ?_, fun portal hb => read_answer hr hb ?_,
      fun k i first count hb => read_answer hr hb ?_, fun k i p hb => read_answer hr hb ?_⟩
    · have h := planRead_eq l b t
      rw [hactive, show t.plan = s.plan from requestTaken_plan ..] at h
      exact h
    · have h := conditionRead_eq first count t
      rw [hactive, requestTaken_edges] at h
      exact h
    · have h := remainderRead_eq portal t
      rw [requestTaken_remainders, State.planless, show t.plan = s.plan from requestTaken_plan ..] at h
      exact h
    · change routeRead (.nodes k i first count) t = _
      rw [routeRead, hroute]
      cases s.route.published with
      | none => rfl
      | some g =>
        dsimp only
        cases g.resultsFor k i <;> rfl
    · change routeRead (.placement k i p) t = _
      rw [routeRead, hroute]
      cases s.route.published with
      | none => rfl
      | some g =>
        dsimp only
        rw [hactive]
        cases Table.get s.activePlan.placements p with
        | none => rfl
        | some pl =>
          have hlookup : routeLookup t pl k i = routeLookup s pl k i := by rw [routeLookup, routeLookup, hactive, hroute]
          exact congrArg (fun x => Handled.answer t (.results (.routePlacement g.number g.profile x))) hlookup
  · intro t
    have hprog : t.prog = s.prog := requestTaken_prog ..
    have hmuster : t.muster = s.muster := requestTaken_muster ..
    refine ⟨fun id hb => read_answer hr hb ?_, fun first count hb => ?_, fun id lang hb => read_answer hr hb ?_,
      fun n hb hn => read_answer hr hb ?_, fun n hb h1 h2 hi => read_answer hr hb ?_, fun n i c hb h1 h2 hi hc =>
        read_answer hr hb ?_,
      fun st start hb => read_answer hr hb ?_, fun start hb => read_answer hr hb ?_⟩
    · change eventRead id t = _
      rw [eventRead, hprog]
      cases Table.get s.prog.events id <;> rfl
    · obtain ⟨hfirst, hcount, hmost⟩ := bodyEventList_ok hb
      obtain ⟨es, more, heq, hlength, htail⟩ := eventList_eq first count t
      rw [hprog] at htail
      exact ⟨hfirst, hcount, hmost, es, more, read_answer hr hb (congrArg (fun x => Handled.answer t (.results x)) heq),
        hlength, htail⟩
    · change textRead id lang t = _
      rw [textRead, hprog]
      cases Table.get s.prog.texts (textKey id lang) <;> rfl
    · have hfits : cabinNumberFits n = false := by
        rw [← Bool.not_eq_true, cabinNumberFits_iff]
        omega
      change cabinRead n t = _
      rw [cabinRead, hfits]
      rfl
    · change cabinRead n t = _
      rw [cabinRead, (cabinNumberFits_iff n).mpr ⟨h1, h2⟩, hactive, hi]
      rfl
    · have h := cabinRead_found (s := t) ⟨h1, h2⟩ (by rwa [hactive]) (by rwa [hactive])
      rw [requestTaken_cabin] at h
      exact h
    · have h := readOutstanding_eq st start t
      rw [hactive, hmuster] at h
      exact h
    · change readStranded start t = _
      rw [readStranded, hmuster]
      exact (apply_ite (Handled.answer t) _ _ _).symm
  · intro t
    have hdisplay : ∀ k, t.display k = s.display k := requestTaken_display l s
    have hseg : ∀ g, t.seg g = s.seg g := requestTaken_seg l s
    refine ⟨fun x y hb hxy => ⟨read_refused hr (bodyDisplay_error hb hxy), read_refused hr (bodyDisplay_error hb hxy)⟩,
      fun x hb hx => ⟨read_refused hr (bodySeg_error hb hx), read_refused hr (bodySeg_error hb hx)⟩, fun g a hb ha => ?_,
        fun g hb => ?_⟩
    · intro d
      have hdraft : ∀ e, t.draft e = s.draft e := fun e => by cases l <;> rfl
      have hcabin : ∀ e, t.doorCabin e = s.doorCabin e := fun e => by cases l <;> rfl
      refine ⟨read_answer hr (bodyDisplay_ok hb ha) (congrArg (fun x => Handled.answer t (.results (.card x))) ?_),
        read_answer hr (bodyDisplay_ok hb ha) (congrArg (fun x => Handled.answer t (.results (.display x))) ?_)⟩
      · change cardRead g a t = _
        rw [cardRead, hdisplay, hdraft, inQueue_recKey ha, inTransit_recKey ha, hseg]
        rfl
      · change displayRead g a t = _
        rw [displayRead, hdisplay, hcabin, inQueue_recKey ha, hseg]
    · intro x
      refine ⟨read_answer hr (bodySeg_ok hb) (congrArg (fun x => Handled.answer t (.results (.segment x))) ?_), ?_⟩
      · change segmentStatus g t = _
        simp only [segmentStatus, State.countStates, hdisplay, hseg]
        rfl
      · intro item
        refine read_answer hr (bodySeg_ok hb) (congrArg (fun x => Handled.answer t (.results (.queue x))) ?_)
        have hitem : t.queueItem g = item := funext fun a => by
          rw [State.queueItem, hdisplay]
          simp only [queueStanding_eq]
          rfl
        have horder : t.queueOrder g = s.queueOrder g := by
          simp only [State.queueOrder, State.backClass, hdisplay, hseg]
        have hreservations : t.reservations = s.reservations := reservations_congr fun g => by rw [hseg]
        change queueRead g t = _
        rw [queueRead, hitem, horder, hreservations, hseg, show t.bus = s.bus from requestTaken_bus ..]

end Sys2Proof.Machine
end

section
/-! PROOFS. What a composition writes, record by record and queue by queue (R138 to R141), and the order of an entry into ALERT or
MUSTER (R167). -/

namespace Sys2Proof.Machine

/-! ## The card of a record does not depend on records and segments -/

theorem compose_congr {s t : State} (h : Composed s t) (d : Display) : t.compose d = s.compose d := by
  rw [h.rest]
  rfl

theorem compose_cardsOnly (s : State) {d e : Display} (h : cardsOnly d e) : s.compose e = s.compose d := by
  rw [h.1]
  rfl

theorem standing_congr {s t : State} (h : Composed s t) (d : Display) : t.standing d = s.standing d := by
  rw [h.rest]
  rfl

theorem roleOf_composed {s t : State} (h : Composed s t) (k : Nat) : t.roleOf (t.display k) = s.roleOf (s.display k) := by
  have hd : t.roleOf (t.display k) = t.roleOf (s.display k) := by
    rw [(h.cards k).1]
    rfl
  rw [hd, State.roleOf, standing_congr h]
  rfl

theorem inTransit_congr {s t : State} (h : Composed s t) (k : Nat) : t.inTransit k = s.inTransit k := by
  rw [State.inTransit, State.inTransit, h.exchange_eq]

theorem Composed.sameBut {s t : State} (h : Composed s t) : SameBut [.dir, .segs] s t := by
  rw [h.rest]
  constructor
  intro p hp
  cases p <;> first | rfl | exact absurd (by simp) hp

theorem Composed.only {s t : State} (h : Composed s t) : composedOnly s t := ⟨h.cards, h.queues⟩

/-! ## The record a composition leaves -/

theorem Display.shown_of_back {d : Display} {x : StoredCard} (h : d.buffers.backCard = some x) : d.shown = some x.card := by
  rw [Display.shown, h]

/-- A composition of record `k` fills or replaces its back buffer. -/
def State.refills (s : State) (k : Nat) : Prop :=
  (s.display k).state ≠ .free ∧ s.inTransit k = false ∧ (s.display k).shown ≠ some (s.compose (s.display k)).2.1

/-- Record `k` after it was composed. -/
def composedRecord (s : State) (k : Nat) (c : Cause) : Display :=
  if (s.display k).state = .free then s.display k
  else if s.inTransit k then { s.display k with recompose := (s.display k).recompose.mark c }
  else if (s.display k).shown = some (s.compose (s.display k)).2.1 then
    { s.display k with looked := (s.compose (s.display k)).2.2 }
  else filledRecord s k c

section
variable (s : State) (k : Nat) (c : Cause)

theorem composeRecord_display_same : (s.composeRecord k c).1.display k = composedRecord s k c := by
  unfold composedRecord
  by_cases hf : (s.display k).state = .free
  · rw [composeRecord_free s k c hf, if_pos hf]
  rw [if_neg hf]
  cases ht : s.inTransit k with
  | true => rw [composeRecord_transit s k c hf ht, State.display_setDisplay_same, if_pos rfl]
  | false =>
    rw [if_neg Bool.false_ne_true]
    by_cases hshown : (s.display k).shown = some (s.compose (s.display k)).2.1
    · rw [composeRecord_shown s k c hf ht hshown, State.display_setDisplay_same, if_pos hshown]
    · rw [composeRecord_filling s c hf ht hshown, if_neg hshown]
      dsimp only
      split <;> exact State.display_setDisplay_same ..

theorem composeRecord_refills : (s.composeRecord k c).2 = true ↔ s.refills k := by
  unfold State.refills
  by_cases hf : (s.display k).state = .free
  · simp [composeRecord_free s k c hf, hf]
  cases ht : s.inTransit k with
  | true => simp [composeRecord_transit s k c hf ht]
  | false =>
    by_cases hshown : (s.display k).shown = some (s.compose (s.display k)).2.1
    · simp [composeRecord_shown s k c hf ht hshown, hshown]
    · simp [composeRecord_filling s c hf ht hshown, hf, hshown]

variable {s k c}

theorem composedRecord_congr {t : State} (h : Composed s t) (hd : t.display k = s.display k) :
    composedRecord t k c = composedRecord s k c := by
  unfold composedRecord filledRecord
  rw [inTransit_congr h, compose_congr h, hd]

theorem refills_congr {t : State} (h : Composed s t) (hd : t.display k = s.display k) : t.refills k ↔ s.refills k := by
  unfold State.refills
  rw [inTransit_congr h, compose_congr h, hd]

theorem composedRecord_of_refills (h : s.refills k) : composedRecord s k c = filledRecord s k c := by
  obtain ⟨hf, ht, hshown⟩ := h
  rw [composedRecord, if_neg hf, ht, if_neg Bool.false_ne_true, if_neg hshown]

/-- A composition that does not refill the back buffer leaves both buffers. -/
theorem composedRecord_buffers (h : ¬ s.refills k) : (composedRecord s k c).buffers = (s.display k).buffers := by
  unfold composedRecord
  split
  · rfl
  split
  · rfl
  split
  · rfl
  · exact absurd ⟨‹_›, Bool.eq_false_of_not_eq_true ‹_›, ‹_›⟩ h

theorem filledRecord_backCard :
    (filledRecord s k c).buffers.backCard = some ⟨(s.compose (s.display k)).2.1, (s.compose (s.display k)).1, c⟩ :=
  Buffers.backCard_setBack ..

/-- The card a composition writes is another one than that of the back buffer. -/
theorem filledRecord_backCard_ne (h : s.refills k) : (filledRecord s k c).buffers.backCard ≠ (s.display k).buffers.backCard := by
  obtain ⟨-, -, hshown⟩ := h
  intro he
  rw [filledRecord_backCard] at he
  exact hshown (Display.shown_of_back he.symm)

theorem composedRecord_backCard_ne :
    (composedRecord s k c).buffers.backCard ≠ (s.display k).buffers.backCard ↔ s.refills k := by
  constructor
  · intro hne
    by_contra h
    exact hne (by rw [composedRecord_buffers h])
  · intro h
    rw [composedRecord_of_refills h]
    exact filledRecord_backCard_ne h

/-- A new back card carries the cause of its composition (R139). -/
theorem composedRecord_cause {x : StoredCard} (hx : (composedRecord s k c).buffers.backCard = some x)
    (hnew : (s.display k).buffers.backCard ≠ some x) : x.cause = c := by
  have hr : s.refills k := composedRecord_backCard_ne.mp fun he => hnew (he ▸ hx)
  rw [composedRecord_of_refills hr, filledRecord_backCard] at hx
  rw [← Option.some.inj hx]

theorem Buffers.frontCard_setBack (b : Buffers) (x : StoredCard) : (b.setBack x).frontCard = b.frontCard := by
  obtain ⟨x, y, f⟩ := b
  cases f <;> rfl

theorem composedRecord_frontCard : (composedRecord s k c).buffers.frontCard = (s.display k).buffers.frontCard := by
  by_cases h : s.refills k
  · rw [composedRecord_of_refills h]
    exact Buffers.frontCard_setBack ..
  · rw [composedRecord_buffers h]

theorem composedRecord_recompose (h : s.inTransit k = false) :
    (composedRecord s k c).recompose = (s.display k).recompose := by
  unfold composedRecord
  rw [h]
  split
  · rfl
  rw [if_neg Bool.false_ne_true]
  split <;> rfl

theorem composedRecord_transit (hf : (s.display k).state ≠ .free) (ht : s.inTransit k = true) :
    composedRecord s k c = { s.display k with recompose := (s.display k).recompose.mark c } := by
  rw [composedRecord, if_neg hf, if_pos ht]

end

/-! ## Composed records (R140, R141) -/

section
variable {s t : State} {k : Nat} {c : Cause}

theorem Recompose.mark_ne_clear (r : Recompose) (c : Cause) : r.mark c ≠ .clear := by cases r <;> nofun

theorem Recompose.noteEntry_ne_clear {r : Recompose} (h : r ≠ .clear) : r.noteEntry ≠ .clear := by
  cases r with
  | clear => exact absurd rfl h
  | set _ _ => nofun

theorem isComposed_of_composedRecord (h : Composed s t) (hf : (s.display k).state ≠ .free)
    (hd : t.display k = composedRecord s k c) : isComposed t k := by
  have hcard : t.compose (t.display k) = s.compose (s.display k) := by rw [compose_congr h, compose_cardsOnly s (h.cards k)]
  unfold isComposed
  rw [inTransit_congr h, hcard, hd, composedRecord, if_neg hf]
  split
  · exact Recompose.mark_ne_clear _ _
  · split
    · exact ⟨‹_›, rfl⟩
    · exact ⟨Display.shown_of_back filledRecord_backCard, rfl⟩

/-- A composed record stays composed while cards and queues of others change. -/
theorem isComposed.congr (h : Composed s t) (hb : (t.display k).buffers = (s.display k).buffers)
    (hl : (t.display k).looked = (s.display k).looked)
    (hr : (s.display k).recompose ≠ .clear → (t.display k).recompose ≠ .clear) (hs : isComposed s k) : isComposed t k := by
  have hshown : (t.display k).shown = (s.display k).shown := by rw [Display.shown, Display.shown, hb]
  unfold isComposed at hs ⊢
  rw [inTransit_congr h, compose_congr h, compose_cardsOnly s (h.cards k), hshown, hl]
  split at hs
  · rw [if_pos ‹_›]
    exact hr hs
  · rw [if_neg ‹_›]
    exact hs

end

/-! ## A list of compositions -/

section
variable (s : State) (c : Nat → Cause) {ks : List Nat}

theorem composeKeys_display (hn : ks.Nodup) (k : Nat) :
    (s.composeKeys c ks).1.display k = if k ∈ ks then composedRecord s k (c k) else s.display k := by
  induction ks generalizing s with
  | nil => rfl
  | cons j ks ih =>
    obtain ⟨hj, hn⟩ := List.nodup_cons.mp hn
    rw [State.composeKeys]
    dsimp only
    rw [ih _ hn]
    by_cases hk : k = j
    · subst k
      rw [if_neg hj, if_pos (by simp), composeRecord_display_same]
    · have hsame : (s.composeRecord j (c j)).1.display k = s.display k := composeRecord_display_other s j (c j) hk
      rw [composedRecord_congr (composeRecord_composed s j (c j)) hsame, hsame]
      simp only [List.mem_cons, hk, false_or]

theorem mem_composeKeys (hn : ks.Nodup) (k : Nat) : k ∈ (s.composeKeys c ks).2 ↔ k ∈ ks ∧ s.refills k := by
  induction ks generalizing s with
  | nil => simp [State.composeKeys]
  | cons j ks ih =>
    obtain ⟨hj, hn⟩ := List.nodup_cons.mp hn
    have hrest := ih (s.composeRecord j (c j)).1 hn
    have hmem : k ∈ (s.composeKeys c (j :: ks)).2 ↔
        (k = j ∧ s.refills j) ∨ k ∈ ((s.composeRecord j (c j)).1.composeKeys c ks).2 := by
      rw [← composeRecord_refills s j (c j), State.composeKeys]
      dsimp only
      split <;> simp [*]
    rw [hmem, hrest]
    by_cases hk : k = j
    · subst k
      simp [hj]
    · rw [refills_congr (composeRecord_composed s j (c j)) (composeRecord_display_other s j (c j) hk)]
      simp [hk]

/-- A queue grows at its end alone, by the record composed when it is in service and its back buffer was filled. -/
theorem composeRecord_queue (k : Nat) (x : Cause) (g : Seg) : ∃ l, ((s.composeRecord k x).1.seg g).queue = (s.seg g).queue ++ l ∧
    ∀ a ∈ l, (s.composeRecord k x).2 = true ∧ keySeg k = g ∧ (s.display k).state.inService = true ∧ keyAddr k = a := by
  have hsame : ∃ l, (s.seg g).queue = (s.seg g).queue ++ l ∧
      ∀ a ∈ l, (s.composeRecord k x).2 = true ∧ keySeg k = g ∧ (s.display k).state.inService = true ∧ keyAddr k = a :=
    ⟨[], (List.append_nil _).symm, nofun⟩
  rcases composeRecord_cases s k x with h | ⟨d, h⟩ | h <;> rw [h] at hsame ⊢
  · exact hsame
  · exact hsame
  · dsimp only at hsame ⊢
    split
    · unfold State.joinQueue
      by_cases hg : g = keySeg k
      · subst hg
        rw [State.seg_modSeg]
        split
        · exact hsame
        · refine ⟨_, rfl, fun a ha => ⟨rfl, rfl, ‹_›, (List.mem_singleton.mp ha).symm⟩⟩
      · rw [State.seg_modSeg_ne _ _ _ _ hg]
        exact hsame
    · exact hsame

/-- Queues grow at their end alone, by the records in service whose back buffers were filled. -/
theorem composeKeys_queue (hn : ks.Nodup) (g : Seg) : ∃ l, ((s.composeKeys c ks).1.seg g).queue = (s.seg g).queue ++ l ∧
    ∀ a ∈ l, ∃ k ∈ (s.composeKeys c ks).2, keySeg k = g ∧ (s.display k).state.inService = true ∧ keyAddr k = a := by
  induction ks generalizing s with
  | nil => exact ⟨[], (List.append_nil _).symm, nofun⟩
  | cons k ks ih =>
    obtain ⟨-, hn⟩ := List.nodup_cons.mp hn
    obtain ⟨l, hl, hlk⟩ := composeRecord_queue s k (c k) g
    obtain ⟨m, hm, hmk⟩ := ih (s.composeRecord k (c k)).1 hn
    rw [State.composeKeys]
    dsimp only
    refine ⟨l ++ m, by rw [hm, hl, List.append_assoc], fun a ha => ?_⟩
    rcases List.mem_append.mp ha with ha | ha
    · obtain ⟨hfilled, hseg, hservice, rfl⟩ := hlk a ha
      exact ⟨k, by simp [hfilled], hseg, hservice, rfl⟩
    · obtain ⟨j, hj, hseg, hservice, rfl⟩ := hmk a ha
      rw [(composeRecord_composed s k (c k)).state_eq] at hservice
      exact ⟨j, by split <;> simp [hj], hseg, hservice, rfl⟩

theorem mem_composeKeys_queue (hn : ks.Nodup) (g : Seg) (a : Nat) : a ∈ ((s.composeKeys c ks).1.seg g).queue ↔
    a ∈ (s.seg g).queue ∨ ∃ k ∈ ks, (g = keySeg k ∧ a = keyAddr k) ∧ s.refills k ∧ (s.display k).state.inService = true := by
  induction ks generalizing s with
  | nil => simp [State.composeKeys]
  | cons j ks ih =>
    obtain ⟨hj, hn⟩ := List.nodup_cons.mp hn
    rw [State.composeKeys]
    dsimp only
    rw [ih _ hn, mem_composeRecord, composeRecord_refills, or_assoc]
    have hcongr : ∀ k ∈ ks, ((s.composeRecord j (c j)).1.refills k ∧
        ((s.composeRecord j (c j)).1.display k).state.inService = true) ↔
        (s.refills k ∧ (s.display k).state.inService = true) := by
      intro k hk
      have hsame := composeRecord_display_other s j (c j) (j := k) (fun he => hj (he ▸ hk))
      rw [refills_congr (composeRecord_composed s j (c j)) hsame, hsame]
    have hex : (∃ k ∈ ks, (g = keySeg k ∧ a = keyAddr k) ∧ (s.composeRecord j (c j)).1.refills k ∧
          ((s.composeRecord j (c j)).1.display k).state.inService = true) ↔
        ∃ k ∈ ks, (g = keySeg k ∧ a = keyAddr k) ∧ s.refills k ∧ (s.display k).state.inService = true :=
      exists_congr fun k => and_congr_right fun hk => and_congr_right fun _ => hcongr k hk
    rw [hex, List.exists_mem_cons_iff]

end

/-! ## The hand-offs (R138) -/

theorem Table.sorted_keys {α : Type} {t : Table α} (h : Table.wf t = true) : (Table.keys t).Pairwise (· < ·) := by
  induction t with
  | nil => exact List.Pairwise.nil
  | cons x t ih =>
    obtain ⟨k, v⟩ := x
    simp only [Table.wf, Bool.and_eq_true] at h
    obtain ⟨habove, hwf⟩ := h
    refine List.pairwise_cons.mpr ⟨fun j hj => ?_, ih hwf⟩
    obtain ⟨y, hy, rfl⟩ := List.mem_map.mp hj
    exact (Table.above_iff k t).mp habove y hy

theorem Table.mem_keys_iff {α : Type} {t : Table α} (h : Table.wf t = true) (k : Nat) :
    k ∈ Table.keys t ↔ ∃ v, Table.get t k = some v := by
  constructor
  · intro hk
    obtain ⟨⟨k', v⟩, hm, rfl⟩ := List.mem_map.mp hk
    exact ⟨v, Table.get_of_mem h hm⟩
  · rintro ⟨v, hv⟩
    exact List.mem_map.mpr ⟨(k, v), Table.mem_of_get hv, rfl⟩

section
variable {s : State} (hw : Table.wf s.dir = true)
include hw

theorem mem_keysWhere (p : Nat → Display → Bool) (k : Nat) :
    k ∈ s.keysWhere p ↔ (s.display k).state ≠ .free ∧ p k (s.display k) = true := by
  rw [State.keysWhere, Table.mem_keys_iff (Table.wf_keep _ hw), Table.get_keep hw]
  simp only [Option.filter_eq_some_iff, Bool.and_eq_true, bne_iff_ne, ne_eq]
  constructor
  · rintro ⟨d, hd, hkeep⟩
    have hdisplay : s.display k = d := by rw [State.display, hd]; rfl
    rwa [hdisplay]
  · intro h
    cases hg : Table.get s.dir k with
    | none => exact absurd (State.display_of_get hg) (Display.ne_freed h.1)
    | some d =>
      have hdisplay : s.display k = d := by rw [State.display, hg]; rfl
      rw [hdisplay] at h
      exact ⟨d, rfl, h⟩

theorem composeKeysWhere_display (p : Nat → Display → Bool) (c : Nat → Cause) (k : Nat) :
    (s.composeKeys c (s.keysWhere p)).1.display k =
      if (s.display k).state ≠ .free ∧ p k (s.display k) = true then composedRecord s k (c k) else s.display k := by
  rw [composeKeys_display s c (keysWhere_nodup hw p)]
  exact if_congr (mem_keysWhere hw p k) rfl rfl

theorem composeKeysWhere_handedOff (p : Nat → Display → Bool) (c : Nat → Cause) :
    handedOff p s (s.composeKeys c (s.keysWhere p)).1 := by
  have h := composeKeys_composed s c (s.keysWhere p)
  refine ⟨h.sameBut, h.only, fun k hf => ?_⟩
  have hd := composeKeysWhere_display hw p c k
  split
  · exact isComposed_of_composedRecord h hf (hd.trans (if_pos ⟨hf, ‹_›⟩))
  · exact hd.trans (if_neg fun hp => absurd hp.2 ‹_›)

theorem composeWhere_handedOff (p : Nat → Display → Bool) : handedOff p s (s.composeWhere p) :=
  composeKeysWhere_handedOff hw p _

/-- New back cards of a hand-off carry the cause of their record. -/
theorem composeKeysWhere_cause (p : Nat → Display → Bool) (c : Nat → Cause) {k : Nat} {x : StoredCard}
    (hx : ((s.composeKeys c (s.keysWhere p)).1.display k).buffers.backCard = some x)
    (hnew : (s.display k).buffers.backCard ≠ some x) : x.cause = c k := by
  rw [composeKeysWhere_display hw] at hx
  split at hx
  · exact composedRecord_cause hx hnew
  · exact absurd hx hnew

theorem composeKeysWhere_buffers (p : Nat → Display → Bool) (c : Nat → Cause) {k : Nat}
    (hne : ((s.composeKeys c (s.keysWhere p)).1.display k).buffers ≠ (s.display k).buffers) : k ∈ s.keysWhere p ∧ s.refills k := by
  rw [composeKeysWhere_display hw, ← if_congr (mem_keysWhere hw p k) rfl rfl] at hne
  split at hne
  · refine ⟨‹_›, ?_⟩
    by_contra h
    exact hne (composedRecord_buffers h)
  · exact absurd rfl hne

/-- A record in service with a new back card is in its segment's refresh queue (R164). -/
theorem composeKeysWhere_queued (p : Nat → Display → Bool) (c : Nat → Cause) {k : Nat}
    (hne : ((s.composeKeys c (s.keysWhere p)).1.display k).buffers ≠ (s.display k).buffers)
    (hs : (s.display k).state.inService = true) : keyAddr k ∈ ((s.composeKeys c (s.keysWhere p)).1.seg (keySeg k)).queue := by
  obtain ⟨hk, hr⟩ := composeKeysWhere_buffers hw p c hne
  exact (mem_composeKeys_queue s c (keysWhere_nodup hw p) _ _).mpr (.inr ⟨k, hk, ⟨rfl, rfl⟩, hr, hs⟩)

theorem composeKeysWhere_frontCard (p : Nat → Display → Bool) (c : Nat → Cause) (k : Nat) :
    ((s.composeKeys c (s.keysWhere p)).1.display k).buffers.frontCard = (s.display k).buffers.frontCard := by
  rw [composeKeysWhere_display hw]
  split
  · exact composedRecord_frontCard
  · rfl

/-- A record that a hand-off names with a card in transit keeps the cause in its mark (R141). -/
theorem composeKeysWhere_transit (p : Nat → Display → Bool) (c : Nat → Cause) {k : Nat} (hk : k ∈ s.keysWhere p)
    (ht : s.inTransit k = true) :
    ((s.composeKeys c (s.keysWhere p)).1.display k).recompose = (s.display k).recompose.mark (c k) := by
  have hk' := (mem_keysWhere hw p k).mp hk
  rw [composeKeysWhere_display hw, if_pos hk', composedRecord_transit hk'.1 ht]

end

/-! ## The entry into ALERT or MUSTER (R167) -/

/-- The card in transit on segment `g` is that of record `k`. -/
def State.carries (s : State) (g : Seg) (k : Nat) : Prop := ∃ a, (s.seg g).exchange = some (.card a) ∧ recKey g a = k

/-- Record `d` with its recompose mark noted at an entry (R167, log 36). -/
def Display.noted (d : Display) : Display := { d with recompose := d.recompose.noteEntry }

theorem Display.noted_noted (d : Display) : d.noted.noted = d.noted := by
  unfold Display.noted
  cases d.recompose <;> rfl

section
variable (s : State)

open Classical in
theorem noteTransit_display (g : Seg) (k : Nat) : (s.noteTransit g).display k =
    if s.carries g k ∧ (s.display k).state ≠ .free then (s.display k).noted else s.display k := by
  unfold State.noteTransit State.carries
  cases hx : (s.seg g).exchange with
  | none => simp
  | some x =>
    cases x with
    | poll a => simp
    | card a =>
      dsimp only
      by_cases hk : recKey g a = k
      · subst hk
        by_cases hf : (s.display (recKey g a)).state = .free
        · simp [hf]
        · simp [hf, Display.noted]
      · have hne : ¬ ∃ b, some (Exchange.card a) = some (Exchange.card b) ∧ recKey g b = k := by
          rintro ⟨b, hb, hkey⟩
          cases hb
          exact hk hkey
        simp only [hne, false_and, if_false]
        split
        · rfl
        · exact State.display_setDisplay_other _ _ _ _ (Ne.symm hk)

theorem noteTransit_segs (g : Seg) : (s.noteTransit g).segs = s.segs := by
  unfold State.noteTransit
  split
  · dsimp only
    split <;> rfl
  · rfl

/-- One segment's part of an entry. -/
def entryStep (r : List Nat) (t : State) (g : Seg) : State := (t.placeEntry g r).noteTransit g

theorem entryStep_composed (r : List Nat) (g : Seg) : Composed s (entryStep r s g) :=
  (placeEntry_composed s g r).trans (noteTransit_composed _ g)

theorem entryStep_seg (r : List Nat) (g h : Seg) : (entryStep r s g).seg h =
    if h = g then { s.seg g with queue := (s.seg g).queue.filter (fun a => !(entryOrder s g r).contains a) ++ entryOrder s g r }
    else s.seg h := by
  have hseg : (entryStep r s g).seg h = (s.placeEntry g r).seg h := by
    rw [State.seg, State.seg, entryStep, noteTransit_segs]
  rw [hseg, placeEntry_eq]
  split
  · subst h
    exact State.seg_modSeg ..
  · exact State.seg_modSeg_ne _ _ _ _ ‹_›

theorem carries_congr {s t : State} (h : Composed s t) (g : Seg) (k : Nat) : t.carries g k ↔ s.carries g k := by
  unfold State.carries
  rw [h.exchange_eq]

theorem entryOrder_congr {s t : State} (h : Composed s t) (g : Seg) (r : List Nat) : entryOrder t g r = entryOrder s g r := by
  unfold entryOrder
  simp only [h.state_eq, roleOf_composed h]

open Classical in
theorem entryStep_display (r : List Nat) (g : Seg) (k : Nat) : (entryStep r s g).display k =
    if s.carries g k ∧ (s.display k).state ≠ .free then (s.display k).noted else s.display k := by
  rw [entryStep, noteTransit_display]
  exact if_congr (and_congr_left' (carries_congr (placeEntry_composed s g r) g k)) rfl rfl

theorem entrySteps_composed (r : List Nat) (gs : List Seg) : Composed s (gs.foldl (entryStep r) s) := by
  induction gs generalizing s with
  | nil => exact Composed.refl s
  | cons g gs ih => exact (entryStep_composed s r g).trans (ih _)

open Classical in
theorem entrySteps_display (r : List Nat) (gs : List Seg) (k : Nat) : (gs.foldl (entryStep r) s).display k =
    if (∃ g ∈ gs, s.carries g k) ∧ (s.display k).state ≠ .free then (s.display k).noted else s.display k := by
  induction gs generalizing s with
  | nil => simp
  | cons g gs ih =>
    have hc := entryStep_composed s r g
    rw [List.foldl_cons, ih]
    simp only [carries_congr hc, hc.state_eq, List.exists_mem_cons_iff]
    rw [entryStep_display]
    by_cases hf : (s.display k).state = .free
    · simp [hf]
    · by_cases hg : s.carries g k
      · simp [hf, hg, Display.noted_noted]
      · simp [hf, hg]

theorem entrySteps_queue (r : List Nat) {gs : List Seg} (hn : gs.Nodup) (g : Seg) :
    ((gs.foldl (entryStep r) s).seg g).queue = if g ∈ gs then
      (s.seg g).queue.filter (fun a => !(entryOrder s g r).contains a) ++ entryOrder s g r else (s.seg g).queue := by
  induction gs generalizing s with
  | nil => rfl
  | cons h gs ih =>
    obtain ⟨hh, hn⟩ := List.nodup_cons.mp hn
    rw [List.foldl_cons, ih _ hn, entryOrder_congr (entryStep_composed s r h), entryStep_seg]
    by_cases hg : g = h
    · subst hg
      simp [hh]
    · simp [hg]

end

theorem composeEntry_eq (s : State) : s.composeEntry =
    [0, 1, 2, 3].foldl (entryStep (s.composeKeys (fun _ => .other) (s.keysWhere fun _ _ => true)).2)
      (s.composeKeys (fun _ => .other) (s.keysWhere fun _ _ => true)).1 := rfl

theorem mem_segs (g : Seg) : g ∈ ([0, 1, 2, 3] : List Seg) := by
  revert g
  decide

theorem entryGroup_eq (r : Option Role) : entryGroup r = match r with
    | some (.door _) => 1
    | some _ => 0
    | none => 2 := rfl

section
variable {s : State}

theorem composeEntry_handedOff (hw : Table.wf s.dir = true) : handedOff (fun _ _ => true) s s.composeEntry := by
  have h := composeEntry_composed s
  obtain ⟨-, -, hall⟩ := composeKeysWhere_handedOff hw (fun _ _ => true) (fun _ => .other)
  refine ⟨h.sameBut, h.only, fun k hf => ?_⟩
  rw [if_pos rfl, composeEntry_eq]
  have hsteps := entrySteps_display (s.composeKeys (fun _ => .other) (s.keysWhere fun _ _ => true)).1
    (s.composeKeys (fun _ => .other) (s.keysWhere fun _ _ => true)).2 [0, 1, 2, 3] k
  refine isComposed.congr (entrySteps_composed ..) ?_ ?_ ?_ (hall k hf)
  · rw [hsteps]
    split <;> rfl
  · rw [hsteps]
    split <;> rfl
  · rw [hsteps]
    split
    · exact Recompose.noteEntry_ne_clear
    · exact id

theorem keyAddr_lt {j k : Nat} (hj : keyValid j) (hk : keyValid k) (hseg : keySeg j = keySeg k) (hlt : j < k) :
    keyAddr j < keyAddr k := by
  obtain ⟨hj, -, -⟩ := hj
  obtain ⟨hk, -, -⟩ := hk
  simp only [keySeg, Fin.ofNat, Fin.mk.injEq] at hseg
  unfold keyAddr
  omega

/-- The records placed stand in the order of their groups, and of their addresses within a group (R167). -/
theorem entryOrder_sorted (ha : addressesValid s) (g : Seg) {ks : List Nat} (hk : ks.Pairwise (· < ·)) :
    (entryOrder s g ks).Pairwise fun a b =>
      entryGroup (s.roleOf (s.display (recKey g a))) < entryGroup (s.roleOf (s.display (recKey g b))) ∨
      (entryGroup (s.roleOf (s.display (recKey g a))) = entryGroup (s.roleOf (s.display (recKey g b))) ∧ a < b) := by
  have hvalid : ∀ {k}, (s.display k).state.inService = true → keyValid k := fun hi =>
    ha.keyValid_of_state (RecState.ne_free_of_inService hi)
  have hback : ∀ {k}, keySeg k = g → (s.display k).state.inService = true → recKey g (keyAddr k) = k := fun hseg hi => by
    rw [← hseg]
    exact recKey_of_keyValid (hvalid hi)
  unfold entryOrder
  refine List.pairwise_flatMap.mpr ⟨fun n _ => ?_, ?_⟩
  · refine List.pairwise_map.mpr (((hk.filter _).filter _).imp_of_mem fun {j k} hj hk hlt => ?_)
    simp only [List.mem_filter, Bool.and_eq_true, beq_iff_eq] at hj hk
    obtain ⟨⟨-, hjseg, hjs⟩, hjg⟩ := hj
    obtain ⟨⟨-, hkseg, hks⟩, hkg⟩ := hk
    rw [hback hjseg hjs, hback hkseg hks]
    exact .inr ⟨hjg.trans hkg.symm, keyAddr_lt (hvalid hjs) (hvalid hks) (hjseg.trans hkseg.symm) hlt⟩
  · refine List.Pairwise.imp ?_ (show [0, 1, 2].Pairwise (· < ·) by decide)
    intro m n hmn a hm b hn
    simp only [List.mem_map, List.mem_filter, Bool.and_eq_true, beq_iff_eq] at hm hn
    obtain ⟨j, ⟨⟨-, hjseg, hjs⟩, rfl⟩, rfl⟩ := hm
    obtain ⟨k, ⟨⟨-, hkseg, hks⟩, rfl⟩, rfl⟩ := hn
    rw [hback hjseg hjs, hback hkseg hks]
    exact .inl hmn

theorem composeEntry_backCard (hw : Table.wf s.dir = true) (k : Nat) :
    (s.composeEntry.display k).buffers.backCard ≠ (s.display k).buffers.backCard ↔ s.refills k := by
  rw [composeEntry_eq, entrySteps_display, composeKeysWhere_display hw]
  have hbuffers : ∀ (P : Prop) [Decidable P] (d : Display), (if P then d.noted else d).buffers = d.buffers := by
    intro P _ d
    split <;> rfl
  rw [hbuffers]
  split
  · exact composedRecord_backCard_ne
  · rename_i hf
    simp only [and_true, not_not] at hf
    exact iff_of_false (fun h => h rfl) (fun h => h.1 hf)

theorem composeEntry_placed (ha : addressesValid s) : entryPlaced s s.composeEntry := by
  have hw := ha.1
  have hn := keysWhere_nodup hw fun _ _ => true
  have hc := composeKeys_composed s (fun _ => .other) (s.keysWhere fun _ _ => true)
  have hsorted := Table.sorted_keys (Table.wf_keep (fun _ d => d.state != .free && true) hw)
  intro g
  have hmem : ∀ a, a ∈ entryOrder s g (s.composeKeys (fun _ => .other) (s.keysWhere fun _ _ => true)).2 ↔
      ∃ k, s.refills k ∧ keySeg k = g ∧ (s.display k).state.inService = true ∧ keyAddr k = a := by
    intro a
    rw [mem_entryOrder]
    refine exists_congr fun k => ?_
    rw [mem_composeKeys s _ hn, mem_keysWhere hw]
    exact and_congr_left fun ⟨_, hs, _⟩ => and_iff_right ⟨RecState.ne_free_of_inService hs, rfl⟩
  refine ⟨⟨entryOrder s g (s.composeKeys (fun _ => .other) (s.keysWhere fun _ _ => true)).2, ?_, fun a => ?_, ?_⟩,
    fun a haddr hx hf => ?_⟩
  · obtain ⟨l, hl, hlk⟩ := composeKeys_queue s (fun _ => .other) hn g
    have hgone : l.filter (fun a => !(entryOrder s g
        (s.composeKeys (fun _ => .other) (s.keysWhere fun _ _ => true)).2).contains a) = [] := by
      refine List.filter_eq_nil_iff.mpr fun a hal => ?_
      simpa using (mem_entryOrder ..).mpr (hlk a hal)
    rw [composeEntry_eq, entrySteps_queue _ _ (by decide), if_pos (mem_segs g), entryOrder_congr hc, hl, List.filter_append, hgone,
      List.append_nil]
  · rw [hmem, composeEntry_backCard hw]
    constructor
    · rintro ⟨k, hr, rfl, hs, rfl⟩
      have hv := ha.keyValid_of_state hr.1
      rw [recKey_of_keyValid hv]
      exact ⟨hv.2, hs, hr⟩
    · rintro ⟨haddr, hs, hr⟩
      exact ⟨_, hr, keySeg_recKey haddr, hs, keyAddr_recKey haddr⟩
  · exact entryOrder_sorted ha g (hsorted.sublist (composeKeys_sublist ..))
  · have ht : s.inTransit (recKey g a) = true := by
      rw [State.inTransit, keySeg_recKey haddr, keyAddr_recKey haddr, hx]
      exact beq_self_eq_true _
    rw [composeEntry_eq, entrySteps_display, composeKeysWhere_display hw, if_pos (show _ ∧ _ from ⟨hf, rfl⟩),
      composedRecord_transit hf ht]
    rw [if_pos (show _ ∧ _ from ⟨⟨g, mem_segs g, (carries_congr hc g _).mpr ⟨a, hx, rfl⟩⟩, hf⟩)]
    change ((s.display (recKey g a)).recompose.mark .other).noteEntry = _
    cases (s.display (recKey g a)).recompose with
    | clear => rfl
    | set press entry => exact congrArg (Recompose.set · true) (Bool.or_false press)

/-- Settles O42, from the rules of compositions and of entries. -/
theorem compositionsShowTheCards : Obligations.CompositionsShowTheCards := by
  intro p s hw
  refine ⟨composeWhere_handedOff hw p, composeEntry_handedOff hw, fun q => ?_, fun id => composeWhere_handedOff hw _,
    fun ts => composeWhere_handedOff hw _, fun c pressed => ⟨composeKeysWhere_handedOff hw _ _, fun k x hx hnew =>
      composeKeysWhere_cause hw _ _ hx hnew⟩, fun k hne => ⟨composeKeysWhere_queued hw p _ hne,
        composeKeysWhere_frontCard hw p _ k⟩,
    composeEntry_placed⟩
  have hq : (fun (_ : Nat) (d : Display) => (s.standing d).any fun x => q x.1 x.2) = fun _ d => match s.standing d with
      | some (i, pl) => q i pl
      | none => false := by
    funext _ d
    cases s.standing d <;> rfl
  rw [hq]
  exact composeWhere_handedOff hw _

end

end Sys2Proof.Machine
end

section
/-! PROOFS. The route engine at work: what the start of a computation and a publication leave (R54, R57 to R59, R118). -/

namespace Sys2Proof.Machine

section
variable (s : State)

theorem startComputation_of_active {a : ActivePlan} (h : s.plan.active = some a) : s.startComputation =
    if s.route.dests = [] then
      { s with route := { s.route with activity := .computing (s.snapshot a), pending := false } }.publish (s.snapshot a)
    else { s with route := { s.route with activity := .computing (s.snapshot a), pending := false } } := by
  rw [State.startComputation, h]
  exact if_congr List.isEmpty_iff rfl rfl

theorem emptyRun_eq_true {s : State} : s.emptyRun = true ↔ s.plan.active.isSome = true ∧ s.route.dests = [] := by
  rw [State.emptyRun, Bool.and_eq_true, List.isEmpty_iff]

/-- A computation that starts is in progress, or with no destination complete at once (R54, R57, R58). -/
theorem startComputation_started {a : ActivePlan} (h : s.plan.active = some a) :
    computationStarted a s.route s.startComputation := by
  rw [computationStarted, startComputation_of_active s h]
  split
  · rename_i hd
    have hnone : computeRoutes (s.snapshot a) = [] := by rw [computeRoutes, show (s.snapshot a).dests = [] from hd]; rfl
    simp only [State.publish, State.generationOf, hnone]
    simp only [State.snapshot, hd, numberAfter]
  · rfl

/-- The generation that a computation without a destination publishes at once. -/
theorem startComputation_publishes {a : ActivePlan} (h : s.plan.active = some a) (hd : s.route.dests = []) :
    ∃ g, s.startComputation.route.published = some g ∧ g.number = s.startComputation.route.number ∧ g.profile = s.route.profile ∧
      g.results = [] ∧ g.dests = [] := by
  rw [startComputation_of_active s h, if_pos hd]
  refine ⟨_, rfl, rfl, rfl, ?_, hd⟩
  change computeRoutes (s.snapshot a) = []
  rw [computeRoutes, show (s.snapshot a).dests = [] from hd]
  rfl

theorem startComputation_rest : s.startComputation = { s with route := s.startComputation.route } := by
  unfold State.startComputation
  split
  · rfl
  · dsimp only
    split <;> rfl

/-- The records a publication composes are those that show routes (R138). -/
theorem composeRoutes_eq : s.composeRoutes = s.composeWhere fun _ d => showsRoutes s d := by
  unfold State.composeRoutes
  congr 1
  funext _ d
  unfold showsRoutes
  cases s.standing d with
  | none => rfl
  | some x =>
    dsimp only [Option.isSome, Bool.true_and]
    cases (s.draft d).2.card.kind <;> rfl

theorem rebuildStranded_eq {g : Generation} (h : s.route.published = some g) : s.rebuildStranded =
    if g.profile = .safety then
      if s.muster.stranded.length < (s.strandedList g).length then
        { s with muster := { s.muster with stranded := s.strandedList g, strandedGen := g.number } }.raise .safety .stranded
      else { s with muster := { s.muster with stranded := s.strandedList g, strandedGen := g.number } }
    else s := by
  rw [State.rebuildStranded, h]
  dsimp only
  refine if_congr Iff.rfl ?_ rfl
  by_cases hlt : s.muster.stranded.length < (s.strandedList g).length
  · rw [if_pos hlt, decide_eq_true hlt]
    rfl
  · rw [if_neg hlt, decide_eq_false hlt]
    rfl

theorem handPublication_handed {g : Generation} (hw : Table.wf s.dir = true) (h : s.route.published = some g) :
    generationHanded g s s.handPublication := by
  have hc := composeRoutes_composed s
  refine ⟨s.composeRoutes, ?_, hc.sent_eq, ?_⟩
  · rw [composeRoutes_eq]
    exact composeWhere_handedOff hw _
  · have heq := rebuildStranded_eq s.composeRoutes (hc.route_eq ▸ h)
    rw [hc.muster_eq] at heq
    exact heq

/-- A computation that runs is started, and one complete at once is handed on at once (R57, R58). -/
theorem runComputation_runs {a : ActivePlan} (hw : Table.wf s.dir = true) (h : s.plan.active = some a) :
    computationRuns a s s.runComputation := by
  refine ⟨s.startComputation, startComputation_rest s, startComputation_started s h, ?_⟩
  by_cases hd : s.route.dests = []
  · obtain ⟨g, hg, -⟩ := startComputation_publishes s h hd
    rw [if_pos hd, State.runComputation, if_pos (emptyRun_eq_true.mpr ⟨by rw [h]; rfl, hd⟩)]
    exact ⟨g, hg, handPublication_handed _ (by rw [State.startComputation_dir]; exact hw) hg⟩
  · rw [if_neg hd, State.runComputation, if_neg fun he => hd (emptyRun_eq_true.mp he).2]

theorem trigger_planless (h : s.plan.active = none) : s.trigger = s := by rw [State.trigger, h]

theorem trigger_idle {a : ActivePlan} (h : s.plan.active = some a) (hi : s.route.activity = .idle) :
    s.trigger = s.runComputation := by
  rw [State.trigger, h, hi]

theorem trigger_computing {a : ActivePlan} {sn : Snapshot} (h : s.plan.active = some a) (hc : s.route.activity = .computing sn) :
    s.trigger = { s with route := { s.route with pending := true } } := by rw [State.trigger, h, hc]

theorem runComputation_planless (h : s.plan.active = none) :
    s.runComputation = { s with route := { s.route with activity := .idle, pending := false } } := by
  have he : ¬ s.emptyRun = true := fun he => by
    have := (emptyRun_eq_true.mp he).1
    rw [h] at this
    exact Bool.false_ne_true this
  rw [State.runComputation, if_neg he, State.startComputation, h]

end

/-! ## Cards and queues alone -/

theorem composedOnly.refl (s : State) : composedOnly s s := ⟨fun _ => cardsOnly.refl _, fun _ => queueOnly.refl _⟩

theorem composedOnly.trans {s t u : State} (h : composedOnly s t) (h' : composedOnly t u) : composedOnly s u :=
  ⟨fun k => (h.1 k).trans (h'.1 k), fun g => (h.2 g).trans (h'.2 g)⟩

theorem composedOnly.of_eq {s t : State} (hd : t.dir = s.dir) (hs : t.segs = s.segs) : composedOnly s t :=
  ⟨fun k => State.display_congr hd k ▸ cardsOnly.refl _, fun g => by rw [State.seg, State.seg, hs]; exact queueOnly.refl _⟩

/-- What changes records and segments by compositions alone leaves the rest of them. -/
theorem Keeps.recomposed {fs : List Facet} {s t : State} (h : Keeps fs s t) (hr : Facet.records ∉ fs) : Recomposed s t :=
  h.keeps .records hr

theorem Recomposed.only {s t : State} (h : Recomposed s t) : composedOnly s t := ⟨h.cards, h.queues⟩

theorem computationCompletion_computing {s : State} {sn : Snapshot} (h : s.route.activity = .computing sn) :
    computationCompletion s = (s.publish sn).handPublication.resumeComputation := by
  rw [computationCompletion, h]

/-- Settles O22, by the cases of a trigger and of the pending mark. -/
theorem completionPublishesTheGeneration : Obligations.CompletionPublishesTheGeneration := by
  refine ⟨fun s hw => ⟨trigger_planless s, fun a ha hi => ?_, fun a sn ha hc => trigger_computing s ha hc⟩, fun sn s hw hc => ?_⟩
  · rw [trigger_idle s ha hi]
    exact runComputation_runs s hw ha
  let g := s.begin.generationOf sn
  let w := (s.begin.publish sn).handPublication
  have hw' : Table.wf w.dir = true := ((handPublication_keeps _).recomposed (by decide)).wf hw
  have hroute : w.route = (s.begin.publish sn).route := (handPublication_same _).keeps .route (by decide)
  have hrun : computationCompletion s.begin = w.resumeComputation := computationCompletion_computing hc
  have hv : exec .computationCompletion s = .next w.resumeComputation := congrArg Host.Outcome.next hrun
  refine ⟨w.resumeComputation, w, g, hv, rfl, rfl, rfl, rfl, rfl, handPublication_handed _ hw rfl, fun hp => ?_, fun hp => ?_,
    ?_, ?_⟩
  · exact if_neg (by rw [hroute]; exact fun h => Bool.false_ne_true (hp.symm.trans h))
  · have hres : w.resumeComputation = w.runComputation := if_pos (by rw [hroute]; exact hp)
    rw [hres]
    have hplan : w.plan = s.plan := (handPublication_same _).keeps .plan (by decide)
    cases ha : s.plan.active with
    | some a => exact runComputation_runs w hw' (hplan ▸ ha)
    | none =>
      refine (runComputation_planless w (hplan ▸ ha)).trans ?_
      rw [hroute]
      rfl
  · have hrec : Recomposed s.begin (computationCompletion s.begin) := (computationCompletion_keeps _).recomposed (by decide)
    rw [← hrun]
    exact hrec.only
  · exact everyCommandKeepsTheRest .computationCompletion s _ hv

end Sys2Proof.Machine
end

section
/-! PROOFS. The routes of a pass are cheapest (R55, R56): no offer and no passable edge improves on the records it leaves. -/

namespace Sys2Proof.Machine

/-- The dist of node `n`; a node past the last is not reached. -/
def distAt (rs : List RouteResult) (n : Nat) : Nat := (rs.getD n .unreached).dist

/-- From `rs` to `rs'` dists fall alone, those of the settled nodes and the record of the destination's own node stay. -/
structure Lowered (settled : List Nat) (rs rs' : List RouteResult) : Prop where
  length_eq : rs'.length = rs.length
  le : ∀ n, distAt rs' n ≤ distAt rs n
  settled_eq : ∀ n ∈ settled, distAt rs' n = distAt rs n
  here : ∀ n : Nat, rs[n]? = some ⟨0, 0, .here⟩ → rs'[n]? = some ⟨0, 0, .here⟩

section
variable {settled : List Nat} {rs rs' rs'' : List RouteResult} {n m : Nat} {v : RouteResult}

theorem Lowered.refl (settled : List Nat) (rs : List RouteResult) :
    Lowered settled rs rs := ⟨rfl, fun _ => le_rfl, fun _ _ => rfl, fun _ => id⟩

theorem Lowered.trans (h : Lowered settled rs rs') (h' : Lowered settled rs' rs'') : Lowered settled rs rs'' :=
  ⟨h'.length_eq.trans h.length_eq, fun n => (h'.le n).trans (h.le n), fun n hn => (h'.settled_eq n hn).trans (h.settled_eq n hn),
    fun n hn => h'.here n (h.here n hn)⟩

theorem Lowered.fewer {fewer : List Nat} (h : Lowered settled rs rs') (hs : ∀ n ∈ fewer, n ∈ settled) : Lowered fewer rs rs' :=
  { h with settled_eq := fun n hn => h.settled_eq n (hs n hn) }

theorem distAt_of_get {r : RouteResult} (h : rs[n]? = some r) : distAt rs n = r.dist := by
  rw [distAt, List.getD_eq_getElem?_getD, h]
  rfl

theorem distAt_of_length_le (h : rs.length ≤ n) : distAt rs n = 65535 := by
  rw [distAt, List.getD_eq_getElem?_getD, List.getElem?_eq_none h]
  rfl

theorem distAt_set_ne (h : m ≠ n) : distAt (rs.set m v) n = distAt rs n := by
  rw [distAt, distAt, List.getD_eq_getElem?_getD, List.getElem?_set_ne h, List.getD_eq_getElem?_getD]

theorem distAt_set_self (h : m < rs.length) : distAt (rs.set m v) m = v.dist :=
  distAt_of_get (List.getElem?_set_self h)

/-- A record that is no further, of a node not settled, may be written where it is not the destination's own. -/
theorem lowered_set (hm : m ∉ settled) (hv : v.dist ≤ distAt rs m) (hhere : rs[m]? = some ⟨0, 0, .here⟩ → v = ⟨0, 0, .here⟩) :
    Lowered settled rs (rs.set m v) := by
  refine ⟨List.length_set, fun n => ?_, fun n hn => distAt_set_ne (ne_of_mem_of_not_mem hn hm).symm, fun n hn => ?_⟩
  · by_cases hmn : m = n
    · subst hmn
      by_cases hlt : m < rs.length
      · rwa [distAt_set_self hlt]
      · rw [List.set_eq_of_length_le (Nat.not_lt.mp hlt)]
    · rw [distAt_set_ne hmn]
  · by_cases hmn : m = n
    · subst hmn
      obtain ⟨hlt, -⟩ := List.getElem?_eq_some_iff.mp hn
      rw [List.getElem?_set_self hlt, hhere hn]
    · rwa [List.getElem?_set_ne hmn]

end

/-! ## The seeds (R55) -/

section
variable {sn : Snapshot} {d : Dest} {rs : List RouteResult}

theorem offerPortal_lowered (x : Nat × Portal) : Lowered [] rs (offerPortal sn d rs x) := by
  unfold offerPortal
  split
  · exact Lowered.refl ..
  split
  · exact Lowered.refl ..
  split
  · rename_i hlt
    refine lowered_set List.not_mem_nil hlt.le fun hhere => ?_
    rw [show (rs.getD x.2.node .unreached).dist = 0 from distAt_of_get hhere] at hlt
    exact absurd hlt (Nat.not_lt_zero _)
  · exact Lowered.refl ..

theorem offerPortals_lowered (ps : List (Nat × Portal)) : Lowered [] rs (ps.foldl (offerPortal sn d) rs) := by
  induction ps generalizing rs with
  | nil => exact Lowered.refl ..
  | cons p ps ih => exact (offerPortal_lowered p).trans ih

theorem offerPortal_le {i : Nat} {p : Portal} {x : Remainder} (hopen : ¬ (sn.profile = .safety ∧ p.cls = .lift))
    (hx : Table.get sn.remainders (remainderKey i d.kind d.index) = some x) (hn : p.node < rs.length) :
    distAt (offerPortal sn d rs (i, p)) p.node ≤ x.cost := by
  unfold offerPortal
  rw [if_neg hopen]
  dsimp only
  rw [hx]
  dsimp only
  split
  · rw [distAt_set_self hn]
  · exact Nat.not_lt.mp ‹_›

theorem offerPortals_le {ps : List (Nat × Portal)} {i : Nat} {p : Portal} {x : Remainder} (hp : (i, p) ∈ ps)
    (hopen : ¬ (sn.profile = .safety ∧ p.cls = .lift))
    (hx : Table.get sn.remainders (remainderKey i d.kind d.index) = some x) (hn : p.node < rs.length) :
    distAt (ps.foldl (offerPortal sn d) rs) p.node ≤ x.cost := by
  induction ps generalizing rs with
  | nil => exact absurd hp List.not_mem_nil
  | cons q ps ih =>
    rw [List.foldl_cons]
    rcases List.mem_cons.mp hp with rfl | hp
    · exact ((offerPortals_lowered ps).le _).trans (offerPortal_le hopen hx hn)
    · exact ih hp ((offerPortal_lowered q).length_eq.symm ▸ hn)

/-- The records before the portals' offers: unreached, and the local destination (R55). -/
def localSeeds (d : Dest) : List RouteResult :=
  match d.loc with
  | .node n => (List.replicate Config.nodeCount RouteResult.unreached).set n ⟨0, 0, .here⟩
  | .remote => List.replicate Config.nodeCount RouteResult.unreached

theorem seeds_eq : seeds sn d = sn.portals.foldl (offerPortal sn d) (localSeeds d) := rfl

theorem localSeeds_length : (localSeeds d).length = 96 := by
  unfold localSeeds
  split
  · rw [List.length_set, List.length_replicate]
    rfl
  · exact List.length_replicate

theorem seeds_length : (seeds sn d).length = 96 := (offerPortals_lowered _).length_eq.trans localSeeds_length

theorem seeds_here {n : Nat} (hd : d.loc = .node n) (hn : n < 96) : (seeds sn d)[n]? = some ⟨0, 0, .here⟩ := by
  have hlocal : localSeeds d = (List.replicate Config.nodeCount RouteResult.unreached).set n ⟨0, 0, .here⟩ := by
    rw [localSeeds, hd]
  refine (offerPortals_lowered (rs := localSeeds d) sn.portals).here n ?_
  rw [hlocal]
  exact List.getElem?_set_self (by rw [List.length_replicate]; exact hn)

end

/-! ## Relaxing (R56) -/

section
variable {sn : Snapshot} {settled : List Nat} {rs : List RouteResult} {u : Nat}

theorem relaxRecord_le (ru rm : RouteResult) (i cost length : Nat) :
    (relaxRecord ru rm i cost length).dist ≤ rm.dist ∧ (relaxRecord ru rm i cost length).dist ≤ cap (ru.dist + cost) ∧
      min rm.dist (cap (ru.dist + cost)) ≤ (relaxRecord ru rm i cost length).dist := by
  unfold relaxRecord
  dsimp only
  split
  · exact ⟨Nat.le_of_lt ‹_›, le_rfl, Nat.min_le_right ..⟩
  split
  · rename_i heq
    split
    · split
      · exact ⟨le_rfl, heq.ge, Nat.min_le_left ..⟩
      · exact ⟨le_rfl, heq.ge, Nat.min_le_left ..⟩
    · exact ⟨le_rfl, heq.ge, Nat.min_le_left ..⟩
  · exact ⟨le_rfl, Nat.not_lt.mp ‹_›, Nat.min_le_left ..⟩

theorem relaxRecord_here (ru : RouteResult) (i cost length : Nat) :
    relaxRecord ru ⟨0, 0, .here⟩ i cost length = ⟨0, 0, .here⟩ := by
  unfold relaxRecord
  simp

/-- An edge that joins `u` to a node not settled is relaxed; every other one changes nothing. -/
theorem relaxEdge_cases (x : Nat × Edge) : relaxEdge sn settled u rs x = rs ∨
    ∃ m c, otherEnd x.2 u = some m ∧ edgeCost sn x.1 x.2 = some c ∧ m ∉ settled ∧
      relaxEdge sn settled u rs x = rs.set m (relaxRecord (rs.getD u .unreached) (rs.getD m .unreached) x.1 c x.2.length) := by
  unfold relaxEdge
  cases hend : otherEnd x.2 u with
  | none => exact .inl rfl
  | some m =>
    cases hcost : edgeCost sn x.1 x.2 with
    | none => exact .inl rfl
    | some c =>
      by_cases hm : m ∈ settled
      · exact .inl (if_pos (List.contains_iff_mem.mpr hm))
      · exact .inr ⟨m, c, rfl, rfl, hm, if_neg (mt List.contains_iff_mem.mp hm)⟩

theorem relaxEdge_lowered (x : Nat × Edge) : Lowered settled rs (relaxEdge sn settled u rs x) := by
  rcases relaxEdge_cases x with h | ⟨m, c, -, -, hm, h⟩ <;> rw [h]
  · exact Lowered.refl ..
  · refine lowered_set hm (relaxRecord_le ..).1 fun hhere => ?_
    rw [List.getD_eq_getElem?_getD (i := m), hhere]
    exact relaxRecord_here ..

theorem relaxEdges_lowered (es : List (Nat × Edge)) : Lowered settled rs (es.foldl (relaxEdge sn settled u) rs) := by
  induction es generalizing rs with
  | nil => exact Lowered.refl ..
  | cons x es ih => exact (relaxEdge_lowered x).trans ih

/-- No record falls below that of the node settled. -/
theorem relaxEdge_ge (hu : distAt rs u < 65535) (x : Nat × Edge) {n : Nat} (h : distAt rs u ≤ distAt rs n) :
    distAt rs u ≤ distAt (relaxEdge sn settled u rs x) n := by
  rcases relaxEdge_cases x with hx | ⟨m, c, -, -, -, hx⟩ <;> rw [hx]
  · exact h
  · by_cases hmn : m = n
    · subst hmn
      by_cases hlt : m < rs.length
      · rw [distAt_set_self hlt]
        refine le_trans (le_min h ?_) (relaxRecord_le ..).2.2
        exact le_min (Nat.le_add_right ..) (Nat.le_of_lt_succ hu)
      · rwa [List.set_eq_of_length_le (Nat.not_lt.mp hlt)]
    · rwa [distAt_set_ne hmn]

theorem relaxEdges_ge (hu : distAt rs u < 65535) (hs : u ∈ settled) (es : List (Nat × Edge)) {n : Nat}
    (h : distAt rs u ≤ distAt rs n) : distAt rs u ≤ distAt (es.foldl (relaxEdge sn settled u) rs) n := by
  induction es generalizing rs with
  | nil => exact h
  | cons x es ih =>
    have hsame : distAt (relaxEdge sn settled u rs x) u = distAt rs u := (relaxEdge_lowered x).settled_eq u hs
    have hstep := ih (hsame.symm ▸ hu) (by rw [hsame]; exact relaxEdge_ge hu x h)
    rwa [hsame] at hstep

theorem relaxEdge_le {i c n : Nat} {e : Edge} (hend : otherEnd e u = some n) (hc : edgeCost sn i e = some c)
    (hs : n ∉ settled) (hn : n < rs.length) : distAt (relaxEdge sn settled u rs (i, e)) n ≤ cap (distAt rs u + c) := by
  unfold relaxEdge
  dsimp only
  rw [hend, hc]
  dsimp only
  rw [if_neg (mt List.contains_iff_mem.mp hs), distAt_set_self hn]
  exact (relaxRecord_le ..).2.1

theorem relaxEdges_le {es : List (Nat × Edge)} {i c n : Nat} {e : Edge} (hx : (i, e) ∈ es) (hend : otherEnd e u = some n)
    (hc : edgeCost sn i e = some c) (hu : u ∈ settled) (hs : n ∉ settled) (hn : n < rs.length) :
    distAt (es.foldl (relaxEdge sn settled u) rs) n ≤ cap (distAt rs u + c) := by
  induction es generalizing rs with
  | nil => exact absurd hx List.not_mem_nil
  | cons x es ih =>
    rw [List.foldl_cons]
    rcases List.mem_cons.mp hx with rfl | hx
    · exact ((relaxEdges_lowered es).le n).trans (relaxEdge_le hend hc hs hn)
    · have hlen : (relaxEdge sn settled u rs x).length = rs.length := (relaxEdge_lowered (settled := settled) x).length_eq
      have hstep := ih hx (hlen.symm ▸ hn)
      rwa [(relaxEdge_lowered x).settled_eq u hu] at hstep

end

/-! ## Which node is settled next (R56) -/

/-- `best` is the nearest node below `k` that is not settled, and none when none is reached. -/
def nearestBelow (rs : List RouteResult) (settled : List Nat) (k : Nat) : Option Nat → Prop
  | none => ∀ n < k, n ∉ settled → 65535 ≤ distAt rs n
  | some m => m < k ∧ m ∉ settled ∧ distAt rs m < 65535 ∧ ∀ n < k, n ∉ settled → distAt rs m ≤ distAt rs n

theorem nextNode_nearest (rs : List RouteResult) (settled : List Nat) :
    nearestBelow rs settled rs.length (nextNode rs settled) := by
  unfold nextNode
  generalize rs.length = k
  induction k with
  | zero => exact fun n hn => absurd hn (Nat.not_lt_zero n)
  | succ k ih =>
    rw [List.range_succ, List.foldl_append]
    generalize (List.range k).foldl _ none = best at ih ⊢
    have hlast : ∀ n < k + 1, n < k ∨ n = k := fun n hn => Nat.lt_succ_iff_lt_or_eq.mp hn
    simp only [List.foldl_cons, List.foldl_nil]
    split
    · rename_i hk
      have hk : k ∉ settled → 65535 ≤ distAt rs k := fun hs => by
        simpa [hs, Config.noRoute, distAt] using hk
      cases best with
      | none =>
        intro n hn hs
        rcases hlast n hn with hn | rfl
        · exact ih n hn hs
        · exact hk hs
      | some m =>
        obtain ⟨hm, hms, hmd, hmin⟩ := ih
        refine ⟨Nat.lt_succ_of_lt hm, hms, hmd, fun n hn hs => ?_⟩
        rcases hlast n hn with hn | rfl
        · exact hmin n hn hs
        · exact hmd.le.trans (hk hs)
    · rename_i hk
      obtain ⟨hks, hkd⟩ : k ∉ settled ∧ distAt rs k < 65535 := by
        simpa [Config.noRoute, distAt] using hk
      cases best with
      | none =>
        refine ⟨Nat.lt_succ_self k, hks, hkd, fun n hn hs => ?_⟩
        rcases hlast n hn with hn | rfl
        · exact hkd.le.trans (ih n hn hs)
        · exact le_rfl
      | some m =>
        obtain ⟨hm, hms, hmd, hmin⟩ := ih
        dsimp only
        split
        · rename_i hlt
          refine ⟨Nat.lt_succ_self k, hks, hkd, fun n hn hs => ?_⟩
          rcases hlast n hn with hn | rfl
          · exact (Nat.le_of_lt hlt).trans (hmin n hn hs)
          · exact le_rfl
        · rename_i hge
          refine ⟨Nat.lt_succ_of_lt hm, hms, hmd, fun n hn hs => ?_⟩
          rcases hlast n hn with hn | rfl
          · exact hmin n hn hs
          · exact Nat.not_lt.mp hge

/-! ## The pass (R56, R57) -/

/-- Of the settled nodes each is at least as near as those not settled, and its edges are relaxed. -/
structure Relaxed (sn : Snapshot) (settled : List Nat) (rs : List RouteResult) : Prop where
  nodup : settled.Nodup
  inside : ∀ m ∈ settled, m < rs.length
  reached : ∀ m ∈ settled, distAt rs m < 65535
  nearer : ∀ m ∈ settled, ∀ n, n ∉ settled → distAt rs m ≤ distAt rs n
  relaxed : ∀ m ∈ settled, ∀ (i c n : Nat) (e : Edge), (i, e) ∈ sn.edges → edgeCost sn i e = some c → otherEnd e m = some n →
    n < rs.length → distAt rs n ≤ cap (distAt rs m + c)

section
variable {sn : Snapshot} {settled : List Nat} {rs : List RouteResult} {u : Nat}

theorem relaxed_nil : Relaxed sn [] rs := ⟨List.nodup_nil, nofun, nofun, nofun, nofun⟩

theorem Relaxed.settle (h : Relaxed sn settled rs) (hu : nearestBelow rs settled rs.length (some u)) :
    Relaxed sn (u :: settled) (sn.edges.foldl (relaxEdge sn (u :: settled) u) rs) := by
  obtain ⟨hlt, hus, hud, hmin⟩ := hu
  have hlow : Lowered (u :: settled) rs (sn.edges.foldl (relaxEdge sn (u :: settled) u) rs) := relaxEdges_lowered _
  have hkept : ∀ m ∈ u :: settled, distAt (sn.edges.foldl (relaxEdge sn (u :: settled) u) rs) m = distAt rs m := hlow.settled_eq
  have hfar : ∀ n, n ∉ settled → distAt rs u ≤ distAt rs n := fun n hn => by
    by_cases hnl : n < rs.length
    · exact hmin n hnl hn
    · rw [distAt_of_length_le (Nat.not_lt.mp hnl)]
      exact hud.le
  have hnear : ∀ m ∈ u :: settled, distAt rs m ≤ distAt rs u := fun m hm => by
    rcases List.mem_cons.mp hm with rfl | hm
    · exact le_rfl
    · exact h.nearer m hm u hus
  refine ⟨List.nodup_cons.mpr ⟨hus, h.nodup⟩, fun m hm => ?_, fun m hm => ?_, fun m hm n hn => ?_,
    fun m hm i c n e hx hc hend hn => ?_⟩
  · rw [hlow.length_eq]
    rcases List.mem_cons.mp hm with rfl | hm
    · exact hlt
    · exact h.inside m hm
  · rw [hkept m hm]
    exact (hnear m hm).trans_lt hud
  · rw [hkept m hm]
    exact (hnear m hm).trans (relaxEdges_ge hud List.mem_cons_self _ (hfar n fun hs => hn (List.mem_cons_of_mem u hs)))
  · rw [hkept m hm]
    rw [hlow.length_eq] at hn
    rcases List.mem_cons.mp hm with rfl | hm
    · by_cases hns : n ∈ m :: settled
      · rw [hkept n hns]
        exact (hnear n hns).trans (le_min (Nat.le_add_right ..) (Nat.le_of_lt_succ hud))
      · exact relaxEdges_le hx hend hc List.mem_cons_self hns hn
    · exact (hlow.le n).trans (h.relaxed m hm i c n e hx hc hend hn)

/-- Nodes without repeats below `k`, as many as `k`, are all of them. -/
theorem mem_of_nodup_of_length {k : Nat} (hn : settled.Nodup) (hb : ∀ m ∈ settled, m < k) (hl : k ≤ settled.length) {n : Nat}
    (h : n < k) : n ∈ settled := by
  have hsub : settled.Subperm (List.range k) := List.subperm_of_subset hn fun m hm => List.mem_range.mpr (hb m hm)
  have hperm := hsub.perm_of_length_le (by rwa [List.length_range])
  exact hperm.mem_iff.mpr (List.mem_range.mpr h)

/-- A pass ends with every node reached settled. -/
theorem settleAll_relaxed (fuel : Nat) (h : Relaxed sn settled rs) (hf : rs.length ≤ settled.length + fuel) :
    ∃ settled', Relaxed sn settled' (settleAll sn fuel rs settled) ∧
      (∀ n < (settleAll sn fuel rs settled).length, n ∉ settled' → 65535 ≤ distAt (settleAll sn fuel rs settled) n) ∧
      Lowered [] rs (settleAll sn fuel rs settled) := by
  induction fuel generalizing rs settled with
  | zero =>
    exact ⟨settled, h, fun n hn hs => absurd (mem_of_nodup_of_length h.nodup h.inside hf hn) hs, Lowered.refl ..⟩
  | succ fuel ih =>
    have hnext := nextNode_nearest rs settled
    unfold settleAll
    cases hu : nextNode rs settled with
    | none =>
      rw [hu] at hnext
      exact ⟨settled, h, hnext, Lowered.refl ..⟩
    | some u =>
      rw [hu] at hnext
      have hlow : Lowered [] rs (sn.edges.foldl (relaxEdge sn (u :: settled) u) rs) := (relaxEdges_lowered _).fewer nofun
      obtain ⟨settled', hr, hend, hl⟩ := ih (h.settle hnext) (by
        rw [hlow.length_eq, List.length_cons]
        omega)
      exact ⟨settled', hr, hend, hlow.trans hl⟩

end

/-- Settles O24, from the invariant that settled nodes are relaxed. -/
theorem noWalkBeatsTheRoute : Obligations.NoWalkBeatsTheRoute := by
  intro sn d rs
  obtain ⟨settled, hrelaxed, hend, hlow⟩ : ∃ settled, Relaxed sn settled rs ∧
      (∀ n < rs.length, n ∉ settled → 65535 ≤ distAt rs n) ∧ Lowered [] (seeds sn d) rs := settleAll_relaxed Config.nodeCount
        (relaxed_nil (sn := sn) (rs := seeds sn d))
    (by rw [seeds_length]; exact Nat.le_add_left ..)
  have hlen : rs.length = 96 := hlow.length_eq.trans seeds_length
  have hlt : ∀ {n : Nat} {r}, rs[n]? = some r → n < 96 := fun hr => hlen ▸ (List.getElem?_eq_some_iff.mp hr).1
  refine ⟨hlen, fun n hn h96 => hlow.here n (seeds_here hn h96), fun i p x r hp hopen hx hr => ?_,
    fun i e c n m q r hx hc hends hq hr hqd => ?_⟩
  · rw [← distAt_of_get hr]
    refine (hlow.le _).trans ?_
    rw [seeds_eq]
    exact offerPortals_le hp hopen hx (localSeeds_length.symm ▸ hlt hr)
  · have hm : m ∈ settled := by
      by_contra hm
      have hfar := hend m (hlen.symm ▸ hlt hq) hm
      rw [distAt_of_get hq] at hfar
      exact absurd hqd (Nat.not_lt.mpr hfar)
    have h := hrelaxed.relaxed m hm i c n e hx hc hends (hlen.symm ▸ hlt hr)
    rwa [distAt_of_get hr, distAt_of_get hq] at h

end Sys2Proof.Machine
end

section
/-! PROOFS. The destination lists (R50 to R52). -/

namespace Sys2Proof.Machine

section
variable (p : Plan) (o : Origin)

theorem mem_signVenues (v : Nat) :
    v ∈ signVenues p ↔ v < 32 ∧ ∃ x ∈ p.placements, ∃ vs, x.2.role = .corridor vs ∧ v ∈ vs := by
  rw [signVenues, List.mem_filter, List.mem_range, List.any_eq_true]
  refine and_congr_right fun _ => exists_congr fun x => and_congr_right fun _ => ?_
  cases x.2.role with
  | corridor vs => simp
  | _ => simp

theorem signVenues_sorted : (signVenues p).Pairwise (· < ·) := List.Pairwise.filter _ List.pairwise_lt_range

theorem venueDest_eq_some (v : Nat) (d : Dest) :
    venueDest p o v = some d ↔ ∃ x, Table.get p.venues v = some x ∧ d = ⟨.venue, v, x.loc, o⟩ := by
  rw [venueDest, Option.map_eq_some_iff]
  exact exists_congr fun x => and_congr_right fun _ => eq_comm

/-- The venues of a list that the plan defines, in its order. -/
theorem venueDests_index (vs : List Nat) :
    (vs.filterMap (venueDest p o)).map (·.index) = vs.filter fun v => Table.has p.venues v := by
  induction vs with
  | nil => rfl
  | cons v vs ih =>
    cases hv : Table.get p.venues v with
    | none => rw [List.filterMap_cons_none (by rw [venueDest, hv]; rfl), List.filter_cons_of_neg (by simp [Table.has, hv]), ih]
    | some x =>
      rw [List.filterMap_cons_some (b := ⟨.venue, v, x.loc, o⟩) (by rw [venueDest, hv]; rfl),
        List.filter_cons_of_pos (by simp [Table.has, hv]), List.map_cons, ih]

theorem mem_venueDests {vs : List Nat} {d : Dest} (h : d ∈ vs.filterMap (venueDest p o)) :
    d.kind = .venue ∧ d.origin = o ∧ d.index ∈ vs ∧ ∃ x, Table.get p.venues d.index = some x ∧ d.loc = x.loc := by
  obtain ⟨v, hv, hd⟩ := List.mem_filterMap.mp h
  obtain ⟨x, hx, rfl⟩ := (venueDest_eq_some p o v d).mp hd
  exact ⟨rfl, rfl, hv, x, hx, rfl⟩

end

section
variable {s : State} {a : ActivePlan}

theorem destList_safety (ha : s.plan.active = some a) (hp : s.route.profile = .safety) : s.destList = stationDests a.plan := by
  rw [State.destList, ha, hp]

theorem destList_normal (ha : s.plan.active = some a) (hp : s.route.profile = .normal) :
    s.destList = venueDests a.plan s.prog.programme := by
  rw [State.destList, ha, hp]

theorem venueDests_indices (p : Plan) (programme : List Nat) : (venueDests p programme).map (·.index) =
    ((signVenues p).filter (fun v => Table.has p.venues v) ++
      programme.filter fun v => Table.has p.venues v && !(signVenues p).contains v).take 24 := by
  rw [venueDests, List.map_take, List.map_append, venueDests_index, venueDests_index, List.filter_filter]
  rfl

/-- Venues of the sign lists come once, and a programme venue is listed only when no sign names it. -/
theorem venueDests_nodup (p : Plan) {programme : List Nat} (hn : programme.Nodup) :
    ((venueDests p programme).map (·.index)).Nodup := by
  rw [venueDests_indices]
  refine (List.take_sublist _ _).nodup (List.nodup_append.mpr ⟨?_, hn.filter _, fun v hv w hw hvw => ?_⟩)
  · exact ((signVenues_sorted p).imp Nat.ne_of_lt).filter _
  · subst hvw
    have hsign := (List.mem_filter.mp hv).1
    have hnot := (List.mem_filter.mp hw).2
    simp [hsign] at hnot

theorem mem_venueDests_origin {p : Plan} {programme : List Nat} {d : Dest} (h : d ∈ venueDests p programme) :
    d.kind = .venue ∧ ∃ v, Table.get p.venues d.index = some v ∧ d.loc = v.loc ∧
      (d.origin = .sign ∨ d.origin = .programme) ∧ (d.origin = .sign ↔ d.index ∈ signVenues p) := by
  rcases List.mem_append.mp (List.mem_of_mem_take h) with h | h
  · obtain ⟨hk, ho, hi, x, hx, hl⟩ := mem_venueDests p .sign h
    exact ⟨hk, x, hx, hl, .inl ho, iff_of_true ho hi⟩
  · obtain ⟨hk, ho, hi, x, hx, hl⟩ := mem_venueDests p .programme h
    have hnot : d.index ∉ signVenues p := fun hs => by
      have hf := (List.mem_filter.mp hi).2
      simp [hs] at hf
    exact ⟨hk, x, hx, hl, .inr ho, iff_of_false (by rw [ho]; nofun) hnot⟩

end

/-- Settles O26, by the profile. -/
theorem destinationListsFollowTheProfile : Obligations.DestinationListsFollowTheProfile := by
  intro s a ha
  refine ⟨fun hp => destList_safety ha hp, signVenues_sorted a.plan, mem_signVenues a.plan, fun hp => ?_⟩
  rw [destList_normal ha hp]
  exact ⟨venueDests_indices .., venueDests_nodup a.plan, fun d hd => mem_venueDests_origin hd⟩

end Sys2Proof.Machine
end

section
/-! PROOFS. Sweeps: how they are asked for, started and ended (R148, R155, R156). -/

namespace Sys2Proof.Machine

/-! ## Writing a segment -/

theorem PerSeg.set_set {α : Type} (p : PerSeg α) (g : Seg) (v w : α) : (p.set g v).set g w = p.set g w := by
  match g with
  | 0 => rfl
  | 1 => rfl
  | 2 => rfl
  | 3 => rfl

theorem PerSeg.set_get {α : Type} (p : PerSeg α) (g : Seg) : p.set g (p.get g) = p := by
  match g with
  | 0 => rfl
  | 1 => rfl
  | 2 => rfl
  | 3 => rfl

theorem PerSeg.ext_get {α : Type} {p q : PerSeg α} (h : ∀ g, p.get g = q.get g) : p = q := by
  obtain ⟨a, b, c, d⟩ := p
  obtain ⟨a', b', c', d'⟩ := q
  obtain ⟨h0, h1, h2, h3⟩ : a = a' ∧ b = b' ∧ c = c' ∧ d = d' := ⟨h 0, h 1, h 2, h 3⟩
  subst h0 h1 h2 h3
  rfl

section
variable (s : State) (g : Seg)

@[simp] theorem State.setSeg_setSeg (x y : Segment) : (s.setSeg g x).setSeg g y = s.setSeg g y := by
  rw [State.setSeg, State.setSeg, State.setSeg]
  exact congrArg (fun p => { s with segs := p }) (PerSeg.set_set ..)

@[simp] theorem State.setSeg_seg : s.setSeg g (s.seg g) = s := by
  rw [State.setSeg, State.seg, PerSeg.set_get]

theorem State.seg_setSeg_ne {g h : Seg} (x : Segment) (hne : h ≠ g) :
    (s.setSeg g x).seg h = s.seg h := PerSeg.get_set_ne _ _ _ _ hne

theorem State.modSeg_eq (f : Segment → Segment) : s.modSeg g f = s.setSeg g (f (s.seg g)) := rfl

/-! ## Starting a sweep (R148) -/

theorem beginSweep_eq (c : SweepCause) : s.beginSweep g c = s.setSeg g (sweepBegun c (s.seg g)) := rfl

theorem requestSweep_eq (c : SweepCause) : s.requestSweep g c = s.setSeg g (sweepAsked c (s.seg g)) := by
  unfold State.requestSweep sweepAsked
  cases hact : (s.seg g).activity with
  | idle =>
    cases hx : (s.seg g).exchange with
    | none => rfl
    | some e => simp only [State.modSeg_eq, hx]
  | waiting w =>
    dsimp only
    split
    · rfl
    · exact (State.setSeg_seg s g).symm
  | sweeping c p => simp only [State.modSeg_eq, hact]

variable {s g}

theorem setPhase_eq {c : SweepCause} {p : SweepPhase} (h : (s.seg g).activity = .sweeping c p) (q : SweepPhase) :
    s.setPhase g q = s.setSeg g { s.seg g with activity := .sweeping c q } := by
  rw [State.setPhase, State.modSeg_eq, h]

theorem toPresence_eq {c : SweepCause} {p : SweepPhase} (h : (s.seg g).activity = .sweeping c p) :
    s.toPresence g = (s.setSeg g { s.seg g with activity := .sweeping c .presence }).send g .presence := by
  rw [State.toPresence, setPhase_eq h]

theorem sweepStart_opening {c : SweepCause} (h : (s.seg g).activity = .sweeping c .opening) : sweepStart g s =
    ((s.send g .sweepOpen).setSeg g { s.seg g with activity := .sweeping c .presence }).send g .presence := by
  have hwait : s.startWaiting g = s := by rw [State.startWaiting, h]
  rw [sweepStart, hwait]
  dsimp only
  rw [h]
  exact toPresence_eq h

theorem sweepStart_waiting {c : SweepCause} (h : (s.seg g).activity = .waiting c) (hx : (s.seg g).exchange = none) :
    sweepStart g s = ((s.send g .sweepOpen).setSeg g { sweepBegun c (s.seg g) with activity := .sweeping c .presence }).send g
      .presence := by
  have hwait : s.startWaiting g = s.setSeg g (sweepBegun c (s.seg g)) := by
    rw [State.startWaiting, h, hx]
    rfl
  have hact : ((s.setSeg g (sweepBegun c (s.seg g))).seg g).activity = .sweeping c .opening := by rw [State.seg_setSeg]; rfl
  rw [sweepStart, hwait]
  dsimp only
  rw [hact]
  have hpres := toPresence_eq (s := (s.setSeg g (sweepBegun c (s.seg g))).send g .sweepOpen) hact
  have hseg : ((s.setSeg g (sweepBegun c (s.seg g))).send g .sweepOpen).seg g = sweepBegun c (s.seg g) := State.seg_setSeg ..
  rw [hseg] at hpres
  refine hpres.trans (congrArg (State.send · g .presence) ?_)
  exact State.setSeg_setSeg (s.send g .sweepOpen) g _ _

theorem safetyQueued_iff : s.safetyQueued g = true ↔ ∃ a ∈ (s.seg g).queue, s.backClass g a = some .safety := by
  rw [State.safetyQueued, List.any_eq_true]
  exact exists_congr fun a => and_congr_right fun _ => beq_iff_eq

open Classical in
theorem automaticExpiry_running {n : Nat} (h : (s.seg g).autoTimer = some n) : automaticExpiry g s =
    if ∃ a ∈ (s.seg g).queue, s.backClass g a = some .safety then s.setSeg g { s.seg g with autoTimer := some 60 }
    else s.setSeg g (sweepAsked .automatic { s.seg g with autoTimer := none }) := by
  rw [automaticExpiry, h]
  refine if_congr safetyQueued_iff rfl ?_
  rw [requestSweep_eq, State.modSeg_eq, State.setSeg_setSeg, State.seg_setSeg]

theorem completingSweep_eq (a : SweepActivity) : completingSweep a = match a with
    | .sweeping _ _ => .next
    | _ => .present := rfl

theorem sweepRequest_eq (tag : Byte) : sweepRequest tag g s = if (s.seg g).requested ≠ .absent then .answer s (.refuse .busy)
    else .answer ((s.setSeg g (sweepAsked .request { s.seg g with requested := completingSweep (s.seg g).activity })).beginOp
      .safety
      ⟨.sweep, tag, some g⟩) .accepted := by
  unfold sweepRequest
  refine if_congr Iff.rfl rfl ?_
  dsimp only
  rw [requestSweep_eq, State.modSeg_eq, State.setSeg_setSeg, State.seg_setSeg]

end

/-- Settles O44, by the table of R148. -/
theorem sweepsStartAsAsked : Obligations.SweepsStartAsAsked := by
  intro g c tag body s x opened
  refine ⟨fun hr hbody => ?_, fun n hn => congrArg Host.Outcome.next (automaticExpiry_running (s := s.begin) hn),
    fun hact hx => ?_,
    fun hact => ?_⟩
  · refine congrArg Host.Outcome.next ((takeRequest_taken hr rfl).trans ?_)
    rw [hbody]
    change settle .safety tag 0x23#8 (sweepRequest tag g (requestTaken .safety s)) = _
    rw [sweepRequest_eq, apply_ite (settle .safety tag 0x23#8)]
    rfl
  · exact congrArg Host.Outcome.next (sweepStart_waiting (s := s.begin) hact hx)
  · exact congrArg Host.Outcome.next (sweepStart_opening (s := s.begin) hact)

end Sys2Proof.Machine
end

section
/-! PROOFS. The end and the rounds of a sweep (R149 to R151, R155). -/

namespace Sys2Proof.Machine

section
variable (s : State) (g : Seg)

theorem sweepAgain_eq : s.sweepAgain g = if (s.seg g).again = true then
    s.setSeg g (sweepBegun (if (s.seg g).requested = .next then .request else .automatic)
      { s.seg g with again := false, requested := if (s.seg g).requested = .next then .present else (s.seg g).requested })
    else s := by
  unfold State.sweepAgain
  refine if_congr Iff.rfl ?_ rfl
  dsimp only
  rw [beginSweep_eq, State.modSeg_eq, State.setSeg_setSeg, State.seg_setSeg]

theorem completeSweep_eq (code : StepCode) : s.completeSweep g code = if (s.seg g).requested = .present then
    (s.setSeg g { s.seg g with requested := .absent }).completeOp .sweep (some g)
      (.sweep g code (s.seg g).enrolled (s.seg g).muted)
    else s := rfl

/-- Phase CLOSE (R155): the frame, the segment, and the SWEEP request that it completes. -/
theorem closeSweep_eq {s : State} {g : Seg} {c : SweepCause} {p : SweepPhase} (h : (s.seg g).activity = .sweeping c p)
    (code : StepCode) : s.closeSweep g code =
      let t := (s.send g .sweepClose).setSeg g (sweepEnded c code (s.seg g))
      if (s.seg g).requested = .present then
        t.completeOp .sweep (some g) (.sweep g code (s.seg g).enrolled (s.seg g).muted)
      else t := by
  have hclose : s.closeSweep g code = (((s.send g .sweepClose).setSeg g { s.seg g with
      lastSweep := some ⟨c, code, (s.seg g).enrolled, (s.seg g).muted⟩, activity := .idle
      autoTimer := some 60 }).completeSweep g code).sweepAgain g := by
    rw [State.closeSweep, h]
    rfl
  rw [hclose, completeSweep_eq, State.seg_setSeg, State.setSeg_setSeg]
  unfold sweepEnded
  dsimp only
  by_cases hp : (s.seg g).requested = .present
  · have hn : ¬ (s.seg g).requested = .next := by rw [hp]; nofun
    simp only [if_pos hp, if_neg hn]
    rw [sweepAgain_eq]
    have hseg : ∀ x, (((s.send g .sweepClose).setSeg g x).completeOp .sweep (some g)
        (.sweep g code (s.seg g).enrolled (s.seg g).muted)).seg g = x := fun x => State.seg_setSeg (s.send g .sweepClose) g x
    have hset : ∀ x y, (((s.send g .sweepClose).setSeg g x).completeOp .sweep (some g)
        (.sweep g code (s.seg g).enrolled (s.seg g).muted)).setSeg g y = ((s.send g .sweepClose).setSeg g y).completeOp .sweep
          (some g)
        (.sweep g code (s.seg g).enrolled (s.seg g).muted) := fun x y =>
      congrArg (State.completeOp · .sweep (some g) (.sweep g code (s.seg g).enrolled (s.seg g).muted))
        (State.setSeg_setSeg (s.send g .sweepClose) g x y)
    rw [hseg, hset]
    cases ha : (s.seg g).again with
    | true => rfl
    | false => rfl
  · simp only [if_neg hp]
    rw [sweepAgain_eq, State.seg_setSeg, State.setSeg_setSeg]
    cases ha : (s.seg g).again with
    | true => rfl
    | false => rfl

variable {s g}

theorem mem_raise {l : LinkId} {x : Source} (y : Source) : y ∈ ((s.raise l x).port l).pendingSet ↔
    y ∈ sourceList l ∧ (y = x ∨ y ∈ (s.port l).pendingSet) := by
  rw [State.raise, State.port_modPort]
  simp [sourcesWhere]

/-- The completion of an operation: its entry, OPERATION_DONE, and nothing else of the ports (R189). -/
theorem completeOp_port (s : State) (k : OpKind) (g : Option Seg) (o : OpOutcome) :
    .operationDone ∈ ((s.completeOp k g o).port .safety).pendingSet ∧
    opEntered k g o (s.port .safety) ((s.completeOp k g o).port .safety) ∧
    (s.completeOp k g o).port .safety = { s.port .safety with
      pendingSet := ((s.completeOp k g o).port .safety).pendingSet, inFlight := ((s.completeOp k g o).port .safety).inFlight
      lastDone := ((s.completeOp k g o).port .safety).lastDone } ∧
    (s.completeOp k g o).port .hotel = s.port .hotel := by
  refine ⟨(mem_raise _).mpr ⟨by decide, .inl rfl⟩, (endOp_entered (s.port .safety) k g o).congr rfl rfl, ?_, rfl⟩
  have hrest := endOp_rest (s.port .safety) k g o
  rw [State.completeOp, State.raise, State.port_modPort, State.port_modPort]
  dsimp only
  rw [hrest]

/-- The end of a sweep: SWEEP CLOSE, the segment, and the record of operations (R155, R189). -/
theorem closeSweep_closed {c : SweepCause} {p : SweepPhase} (h : (s.seg g).activity = .sweeping c p) (code : StepCode) :
    onlySegment g s (s.closeSweep g code) ∧ sweepClosed g c code (s.seg g) s (s.closeSweep g code) ∧
      (s.closeSweep g code).sent = s.sent ++ [⟨g, .sweepClose⟩] := by
  rw [closeSweep_eq h]
  dsimp only
  by_cases hp : (s.seg g).requested = .present
  · rw [if_pos hp]
    refine ⟨⟨rfl, fun k hk => State.seg_setSeg_ne _ _ hk⟩, ⟨State.seg_setSeg .., List.getLast?_concat, fun _ => completeOp_port
      ((s.send g
      .sweepClose).setSeg g (sweepEnded c code (s.seg g))) .sweep (some g) (.sweep g code (s.seg g).enrolled (s.seg g).muted),
      fun hn => absurd hp hn⟩, rfl⟩
  · rw [if_neg hp]
    exact ⟨⟨rfl, fun k hk => State.seg_setSeg_ne _ _ hk⟩, ⟨State.seg_setSeg .., List.getLast?_concat, fun hp' => absurd hp' hp,
      fun _ => rfl⟩, rfl⟩

/-- The end of a sweep whose tallies have just been written to the segment. -/
theorem closeSweep_setSeg {c : SweepCause} {p : SweepPhase} {x : Segment} (h : x.activity = .sweeping c p) (code : StepCode) :
    onlySegment g s ((s.setSeg g x).closeSweep g code) ∧ sweepClosed g c code x s ((s.setSeg g x).closeSweep g code) ∧
      ((s.setSeg g x).closeSweep g code).sent = s.sent ++ [⟨g, .sweepClose⟩] := by
  have hseg : (s.setSeg g x).seg g = x := State.seg_setSeg ..
  obtain ⟨⟨hdir, hsegs⟩, hclosed, hsent⟩ := closeSweep_closed (s := s.setSeg g x) (g := g) (hseg.symm ▸ h) code
  rw [hseg] at hclosed
  exact ⟨⟨hdir, fun k hk => (hsegs k hk).trans (State.seg_setSeg_ne _ _ hk)⟩, hclosed, hsent⟩

theorem toPresence_setSeg {c : SweepCause} {p : SweepPhase} {x : Segment} (h : x.activity = .sweeping c p) :
    (s.setSeg g x).toPresence g = (s.setSeg g { x with activity := .sweeping c .presence }).send g .presence := by
  have hseg : (s.setSeg g x).seg g = x := State.seg_setSeg ..
  rw [toPresence_eq (s := s.setSeg g x) (g := g) (hseg.symm ▸ h), hseg, State.setSeg_setSeg]

/-! ## Rounds (R149 to R151) -/

theorem pushBit_eq {w : Nat} (x : BitVec w) (b : Bool) : pushBit x b = BitVec.ofNat w (2 * x.toNat + b.toNat) := by
  have hbit : 2 * x.toNat + b.toNat = Nat.bit b x.toNat := (Nat.bit_val b x.toNat).symm
  rw [hbit]
  refine BitVec.eq_of_getLsbD_eq fun i hi => ?_
  rw [BitVec.getLsbD_ofNat, pushBit]
  cases i with
  | zero => cases b <;> simp [hi]
  | succ i =>
    rw [Nat.testBit_bit_succ]
    have hone : Nat.testBit 1 (i + 1) = false := by simp [Nat.testBit_succ]
    cases b <;> simp [hi, BitVec.getLsbD, hone]

theorem presenceWindow_driven {c : SweepCause} (h : (s.seg g).activity = .sweeping c .presence) : presenceWindow g true s =
    (s.setSeg g { s.seg g with activity := .sweeping c (.isolation 0 0#48) }).send g (.bit 1) := by
  rw [presenceWindow, h]
  dsimp only
  rw [if_pos rfl, setPhase_eq h]

theorem presenceWindow_silent {c : SweepCause} (h : (s.seg g).activity = .sweeping c .presence) :
    presenceWindow g false s = s.closeSweep g (emptyCode (s.seg g)) := by
  rw [presenceWindow, h]
  rfl

theorem bitWindow_isolation {c : SweepCause} {n : Nat} {bits : BitVec 48} (b : Bool)
    (h : (s.seg g).activity = .sweeping c (.isolation n bits)) : bitWindow g b s = if n + 1 < 48 then
      (s.setSeg g { s.seg g with activity := .sweeping c (.isolation (n + 1) (pushBit bits b)) }).send g (.bit (n + 2))
    else (s.setSeg g { s.seg g with activity := .sweeping c (.check 0 (pushBit bits b) 0#8) }).send g (.bit 49) := by
  rw [bitWindow, h]
  dsimp only
  rw [setPhase_eq h, setPhase_eq h]

theorem bitWindow_check {c : SweepCause} {n : Nat} {i : Identity} {bits : BitVec 8} (b : Bool)
    (h : (s.seg g).activity = .sweeping c (.check n i bits)) : bitWindow g b s = if n + 1 < 8 then
      (s.setSeg g { s.seg g with activity := .sweeping c (.check (n + 1) i (pushBit bits b)) }).send g (.bit (n + 50))
    else s.checkOutcome g i (pushBit bits b) := by
  rw [bitWindow, h]
  dsimp only
  rw [setPhase_eq h]

/-- A wrong check or the identity 0 abandons the round, the third time with the sweep (R151). -/
theorem checkOutcome_wrong {i : Identity} {y : BitVec 8} (hw : y ≠ identityCheck i ∨ i = 0#48) : s.checkOutcome g i y =
    if (s.seg g).mismatch + 1 < 3 then (s.setSeg g { s.seg g with mismatch := (s.seg g).mismatch + 1 }).toPresence g
    else (s.setSeg g { s.seg g with mismatch := (s.seg g).mismatch + 1 }).closeSweep g .checkFailed := by
  unfold State.checkOutcome
  rw [if_neg fun h => hw.elim (fun hne => hne h.1) h.2]
  rfl

theorem checkOutcome_right {i : Identity} {y : BitVec 8} (hy : y = identityCheck i) (hi : i ≠ 0#48) :
    s.checkOutcome g i y = (s.setSeg g { s.seg g with mismatch := 0 }).assignAddress g i := by
  unfold State.checkOutcome
  rw [if_pos ⟨hy, hi⟩]
  rfl

end

/-- Settles O45, round by round. -/
theorem sweepRoundsFollowTheLine : Obligations.SweepRoundsFollowTheLine := by
  intro g c b s x sends
  refine ⟨fun h => ⟨?_, ?_⟩, fun n bits h => ?_, fun n i bits h => ⟨fun hn => ?_, fun hn hw => ⟨fun hm => ?_, fun hm => ?_⟩⟩⟩
  · exact congrArg Host.Outcome.next (presenceWindow_driven (s := s.begin) h)
  · obtain ⟨honly, hclosed, -⟩ := closeSweep_closed (s := s.begin) h (emptyCode x)
    exact ⟨_, congrArg Host.Outcome.next (presenceWindow_silent (s := s.begin) h), honly, hclosed⟩
  · refine congrArg Host.Outcome.next ((bitWindow_isolation (s := s.begin) b h).trans ?_)
    rw [pushBit_eq]
    rfl
  · refine congrArg Host.Outcome.next ((bitWindow_check (s := s.begin) b h).trans ((if_pos hn).trans ?_))
    rw [pushBit_eq]
    rfl
  · refine congrArg Host.Outcome.next ((bitWindow_check (s := s.begin) b h).trans ((if_neg (Nat.not_lt.mpr hn)).trans ?_))
    exact (checkOutcome_wrong (by rwa [pushBit_eq])).trans ((if_pos hm).trans (toPresence_setSeg (s := s.begin) h))
  · obtain ⟨honly, hclosed, -⟩ := closeSweep_setSeg (s := s.begin) (g := g) (x := { x with mismatch := x.mismatch + 1 }) h
      .checkFailed
    refine ⟨_, congrArg Host.Outcome.next ((bitWindow_check (s := s.begin) b h).trans ((if_neg (Nat.not_lt.mpr hn)).trans ?_)),
      honly, hclosed⟩
    exact (checkOutcome_wrong (by rwa [pushBit_eq])).trans (if_neg (Nat.not_lt.mpr hm))

end Sys2Proof.Machine
end

section
/-! PROOFS. The 48 isolation rounds, with both sides of the bus (R147, R150). -/

namespace Sys2Proof.Machine

/-- The displays that take part in the rounds. -/
def participants (ds : List DisplayUnit) : List DisplayUnit := ds.filter fun d => d.sweep == .participant

/-- The first `n` bits of an identity, most significant first, as a number. -/
def firstBits (n : Nat) (i : Identity) : Nat := i.toNat / 2 ^ (48 - n)

/-- After `n` rounds that received `bits`: who still takes part has these first bits, and of the participants at the start the
others have smaller ones. -/
structure Isolating (ds : List DisplayUnit) (n : Nat) (bits : BitVec 48) (es : List DisplayUnit) : Prop where
  some_left : participants es ≠ []
  kept : (participants es).Sublist (participants ds)
  agree : ∀ d ∈ participants es, firstBits n d.identity = bits.toNat
  smaller : ∀ d ∈ participants ds, firstBits n d.identity < bits.toNat ∨ d ∈ participants es

theorem firstBits_zero (i : Identity) : firstBits 0 i = 0 := Nat.div_eq_of_lt i.isLt

theorem firstBits_all (i : Identity) : firstBits 48 i = i.toNat := Nat.div_one _

/-- Round `n + 1` asks for the bit after the first `n`. -/
theorem firstBits_succ {n : Nat} (h : n < 48) (i : Identity) :
    firstBits (n + 1) i = 2 * firstBits n i + (displayBit i (n + 1)).toNat := by
  have hbit : displayBit i (n + 1) = i.toNat.testBit (48 - (n + 1)) := by
    rw [displayBit, if_pos (by omega), Nat.add_sub_cancel, BitVec.getMsbD, BitVec.getLsbD]
    simp [h, Nat.sub_sub]
  have hsplit : i.toNat / 2 ^ (48 - n) = i.toNat / 2 ^ (48 - (n + 1)) / 2 := by
    rw [Nat.div_div_eq_div_mul, ← Nat.pow_succ]
    congr 2
    omega
  rw [hbit, Nat.testBit_eq_decide_div_mod_eq, firstBits, firstBits, hsplit]
  generalize i.toNat / 2 ^ (48 - (n + 1)) = x
  rcases Nat.mod_two_eq_zero_or_one x with hm | hm
  · simp only [hm, show decide (0 = 1) = false from rfl, Bool.toNat_false]
    omega
  · simp only [hm, decide_true, Bool.toNat_true]
    omega

theorem firstBits_lt (n : Nat) (hn : n ≤ 48) (i : Identity) : firstBits n i < 2 ^ n := by
  rw [firstBits, Nat.div_lt_iff_lt_mul (Nat.two_pow_pos _), ← Nat.pow_add, Nat.add_sub_cancel' hn]
  exact i.isLt

/-- The line is driven when a participant has a 1 there. -/
theorem any_drives (es : List DisplayUnit) (k : Nat) :
    es.any (·.drives (.bit k)) = (participants es).any fun d => displayBit d.identity k := by
  rw [participants, List.any_filter]
  rfl

/-- Who has a 0 stands back when the line is driven; the others stay as they are. -/
theorem participants_hear (es : List DisplayUnit) (line : Bool) (k : Nat) :
    participants (es.map (·.hear line (.bit k))) = (participants es).filter fun d => displayBit d.identity k || !line := by
  induction es with
  | nil => rfl
  | cons d es ih =>
    have hcons : ∀ (e : DisplayUnit) (l : List DisplayUnit),
        participants (e :: l) = if e.sweep = .participant then e :: participants l else participants l := fun e l => by
      simp [participants, List.filter_cons]
    rw [List.map_cons, hcons, hcons, ih]
    by_cases hd : d.sweep = .participant
    · cases hb : displayBit d.identity k with
      | true => simp [DisplayUnit.hear, hd, hb]
      | false =>
        cases line with
        | true => simp [DisplayUnit.hear, hd, hb]
        | false => simp [DisplayUnit.hear, hd, hb]
    · simp [DisplayUnit.hear, hd]

section
variable {ds es : List DisplayUnit} {n : Nat} {bits : BitVec 48}

theorem isolating_start (h : participants ds ≠ []) : Isolating ds 0 0#48 ds :=
  ⟨h, List.Sublist.refl _, fun d _ => firstBits_zero d.identity, fun _ hd => .inr hd⟩

theorem Isolating.round (h : Isolating ds n bits es) (hn : n < 48) :
    let line := es.any (·.drives (.bit (n + 1)))
    Isolating ds (n + 1) (pushBit bits line) (es.map (·.hear line (.bit (n + 1)))) := by
  intro line
  have hline : line = (participants es).any fun d => displayBit d.identity (n + 1) := any_drives es (n + 1)
  have hpart := participants_hear es line (n + 1)
  have hbits : (pushBit bits line).toNat = 2 * bits.toNat + line.toNat := by
    obtain ⟨d, hd⟩ := List.exists_mem_of_ne_nil _ h.some_left
    have hlt := firstBits_lt n hn.le d.identity
    rw [h.agree d hd] at hlt
    have hpow : 2 ^ (n + 1) ≤ 2 ^ 48 := Nat.pow_le_pow_right (by decide) hn
    rw [pushBit_eq, BitVec.toNat_ofNat, Nat.mod_eq_of_lt]
    have := Bool.toNat_le line
    rw [Nat.pow_succ] at hpow
    omega
  have hsilent : line = false → ∀ d ∈ participants es, displayBit d.identity (n + 1) = false := fun hl d hd => by
    rw [hl] at hline
    simpa using List.any_eq_false.mp hline.symm d hd
  have hmem : ∀ d, d ∈ participants (es.map (·.hear line (.bit (n + 1)))) ↔
      d ∈ participants es ∧ displayBit d.identity (n + 1) = line := by
    intro d
    rw [hpart, List.mem_filter]
    refine and_congr_right fun hd => ?_
    cases hl : line with
    | true => simp
    | false => simp [hsilent hl d hd]
  have hsome : ∃ d ∈ participants es, displayBit d.identity (n + 1) = line := by
    cases hl : line with
    | true =>
      rw [hl] at hline
      exact List.any_eq_true.mp hline.symm
    | false =>
      obtain ⟨d, hd⟩ := List.exists_mem_of_ne_nil _ h.some_left
      exact ⟨d, hd, hsilent hl d hd⟩
  refine ⟨?_, ?_, fun d hd => ?_, fun d hd => ?_⟩
  · obtain ⟨d, hd⟩ := hsome
    exact List.ne_nil_of_mem ((hmem d).mpr hd)
  · rw [hpart]
    exact List.filter_sublist.trans h.kept
  · obtain ⟨hd, hb⟩ := (hmem d).mp hd
    rw [firstBits_succ hn, h.agree d hd, hb, hbits]
  · rw [firstBits_succ hn, hbits]
    rcases h.smaller d hd with hs | hs
    · have := Bool.toNat_le (displayBit d.identity (n + 1))
      exact .inl (by omega)
    · by_cases hb : displayBit d.identity (n + 1) = line
      · exact .inr ((hmem d).mpr ⟨hs, hb⟩)
      · rw [h.agree d hs]
        cases hl : line with
        | true => simp [Bool.eq_false_of_not_eq_true (hl ▸ hb)]
        | false => exact absurd ((hsilent hl d hs).trans hl.symm) hb

end

/-- The rounds from `n` on, with the bits received so far. -/
theorem isolationRounds_isolate {g : Seg} {c : SweepCause} {ds : List DisplayUnit} (rounds : Nat) :
    ∀ (n : Nat) (bits : BitVec 48) (es : List DisplayUnit) (s : State), n + (rounds + 1) = 48 →
      (s.seg g).activity = .sweeping c (.isolation n bits) → Isolating ds n bits es →
      ∃ t fs m, isolationRounds g (rounds + 1) (n + 1) es s = some (t, fs) ∧ (t.seg g).activity = .sweeping c (.check 0 m 0#8) ∧
        Isolating ds 48 m fs ∧ t.sent = [⟨g, .bit 49⟩] := by
  induction rounds with
  | zero =>
    intro n bits es s hn hact h
    obtain rfl : n = 47 := by omega
    have hwindow := bitWindow_isolation (s := s.begin) (es.any (·.drives (.bit 48))) hact
    rw [if_neg (by decide)] at hwindow
    refine ⟨bitWindow g (es.any (·.drives (.bit 48))) s.begin, es.map (·.hear (es.any (·.drives (.bit 48))) (.bit 48)),
      pushBit bits (es.any (·.drives (.bit 48))), rfl, ?_, h.round (by decide), ?_⟩
    · rw [hwindow]
      exact congrArg Segment.activity (State.seg_setSeg s.begin g _)
    · rw [hwindow]
      rfl
  | succ rounds ih =>
    intro n bits es s hn hact h
    have hwindow := bitWindow_isolation (s := s.begin) (es.any (·.drives (.bit (n + 1)))) hact
    rw [if_pos (by omega)] at hwindow
    refine ih (n + 1) (pushBit bits (es.any (·.drives (.bit (n + 1)))))
      (es.map (·.hear (es.any (·.drives (.bit (n + 1)))) (.bit (n + 1))))
      (bitWindow g (es.any (·.drives (.bit (n + 1)))) s.begin) (by omega) ?_ (h.round (by omega))
    rw [hwindow]
    exact congrArg Segment.activity (State.seg_setSeg s.begin g _)

/-- Settles O46, by the invariant of the rounds. -/
theorem highestIdentityIsIsolated : Obligations.HighestIdentityIsIsolated := by
  intro g c ds s hact hsome hdistinct
  obtain ⟨t, es, m, hrounds, hcheck, hiso, hsent⟩ := isolationRounds_isolate 47 0 0#48 ds s rfl hact (isolating_start hsome)
  obtain ⟨e, he⟩ := List.exists_mem_of_ne_nil _ hiso.some_left
  have hid : ∀ d ∈ participants es, d.identity = m := fun d hd =>
    BitVec.eq_of_toNat_eq ((firstBits_all _).symm.trans (hiso.agree d hd))
  have hone : participants es = [e] := by
    have hnodup : ((participants es).map (·.identity)).Nodup := (hiso.kept.map _).nodup hdistinct
    have hsame : (participants es).map (·.identity) = List.replicate (participants es).length m :=
      List.eq_replicate_iff.mpr ⟨List.length_map _, fun i hi => by
        obtain ⟨d, hd, rfl⟩ := List.mem_map.mp hi
        exact hid d hd⟩
    rw [hsame, List.nodup_replicate] at hnodup
    obtain ⟨d, hd⟩ := List.length_eq_one_iff.mp (le_antisymm hnodup (List.length_pos_iff.mpr hiso.some_left))
    rw [hd] at he ⊢
    rw [List.mem_singleton.mp he]
  obtain ⟨hmem, hpart⟩ := List.mem_filter.mp (hiso.kept.subset he)
  refine ⟨t, es, m, e, hrounds, hcheck, ⟨e, hmem, beq_iff_eq.mp hpart, hid e he⟩, fun d hd hp => ?_, hone, hid e he, hsent⟩
  have hd' : d ∈ participants ds := List.mem_filter.mpr ⟨hd, beq_iff_eq.mpr hp⟩
  rw [← firstBits_all d.identity]
  rcases hiso.smaller d hd' with hs | hs
  · exact hs.le
  · exact (hiso.agree d hs).le

end Sys2Proof.Machine
end

section
/-! PROOFS. The address choice and the taking in of displays (R152 to R154), segment reset and revival (R157, R159). -/

namespace Sys2Proof.Machine

/-! ## Who holds an identity (R152) -/

section
variable {s : State} {g : Seg} {i : Identity}

/-- Record `k` is in use and holds the identity. -/
def State.holds (s : State) (i : Identity) (k : Nat) : Prop := (s.display k).state ≠ .free ∧ (s.display k).identity = some i

theorem holdsHere_of_some (hw : Table.wf s.dir = true) {k : Nat} (h : s.holderOf i (heldHere g) = some k) :
    keySeg k = g ∧ s.holds i k := by
  obtain ⟨hi, hp⟩ := holderOf_some hw h
  obtain ⟨hg, hf⟩ := heldHere_spec hp
  exact ⟨hg, hf, hi⟩

theorem exists_heldHere {k : Nat} (hg : keySeg k = g) (h : s.holds i k) : ∃ j, s.holderOf i (heldHere g) = some j := by
  cases ho : s.holderOf i (heldHere g) with
  | some j => exact ⟨j, rfl⟩
  | none =>
    have hno := holderOf_none ho h.1 h.2
    simp [heldHere, hg, h.1] at hno

theorem liveElsewhere_isSome (hw : Table.wf s.dir = true) : (s.holderOf i (liveElsewhere g)).isSome = true ↔
    ∃ k, keySeg k ≠ g ∧ s.holds i k ∧ (s.display k).state.inService = true := by
  constructor
  · intro h
    obtain ⟨k, hk⟩ := Option.isSome_iff_exists.mp h
    obtain ⟨hi, hp⟩ := holderOf_some hw hk
    obtain ⟨hg, hs⟩ : keySeg k ≠ g ∧ (s.display k).state.inService = true := by simpa [liveElsewhere] using hp
    exact ⟨k, hg, ⟨RecState.ne_free_of_inService hs, hi⟩, hs⟩
  · rintro ⟨k, hg, h, hs⟩
    cases ho : s.holderOf i (liveElsewhere g) with
    | some j => rfl
    | none =>
      have hno := holderOf_none ho h.1 h.2
      simp [liveElsewhere, hg, hs] at hno

theorem heldElsewhere_of_some (hw : Table.wf s.dir = true) {k : Nat} (h : s.holderOf i (heldElsewhere g) = some k) :
    keySeg k ≠ g ∧ s.holds i k ∧ (s.display k).state.isHeld = true := by
  obtain ⟨hi, hp⟩ := holderOf_some hw h
  obtain ⟨hg, hs⟩ : keySeg k ≠ g ∧ (s.display k).state.isHeld = true := by simpa [heldElsewhere] using hp
  exact ⟨hg, ⟨RecState.ne_free_of_isHeld hs, hi⟩, hs⟩

theorem exists_heldElsewhere {k : Nat} (hg : keySeg k ≠ g) (h : s.holds i k) (hs : (s.display k).state.inService = false) :
    ∃ j, s.holderOf i (heldElsewhere g) = some j := by
  cases ho : s.holderOf i (heldElsewhere g) with
  | some j => exact ⟨j, rfl⟩
  | none =>
    have hno := holderOf_none ho h.1 h.2
    simp [heldElsewhere, hg, RecState.isHeld_of_idle h.1 hs] at hno

/-! ## Freeing a HELD record (R152 case 4) -/

theorem freeElsewhere_seg (h : Seg) : (s.freeElsewhere g i).seg h = s.seg h := by
  unfold State.freeElsewhere
  split <;> rfl

theorem freeElsewhere_sent : (s.freeElsewhere g i).sent = s.sent := by
  unfold State.freeElsewhere
  split <;> rfl

theorem freeElsewhere_display (hw : Table.wf s.dir = true) (k : Nat) : (s.freeElsewhere g i).display k =
    if s.holderOf i (heldElsewhere g) = some k then Display.freed (some i) else s.display k := by
  unfold State.freeElsewhere
  cases h : s.holderOf i (heldElsewhere g) with
  | none => simp
  | some j =>
    obtain ⟨-, ⟨-, hi⟩, -⟩ := heldElsewhere_of_some hw h
    dsimp only
    rw [State.freeRecord, State.display_setDisplay, hi]
    exact if_congr (by rw [Option.some.injEq, eq_comm]) rfl rfl

/-- Records of the segment itself are not freed by case 4. -/
theorem freeElsewhere_here (hw : Table.wf s.dir = true) {k : Nat} (hg : keySeg k = g) :
    (s.freeElsewhere g i).display k = s.display k := by
  rw [freeElsewhere_display hw, if_neg fun h => (heldElsewhere_of_some hw h).1 hg]

/-! ## The address chosen (R152 cases 5 and 6) -/

/-- Address `a` is FREE on the segment. -/
def State.freeAt (s : State) (g : Seg) (a : Nat) : Prop := isAddress a ∧ (s.display (recKey g a)).state = .free

theorem freeAddresses_sorted : (s.freeAddresses g).Pairwise (· < ·) := by
  refine List.Pairwise.filter _ (List.pairwise_map.mpr (List.pairwise_lt_range.imp fun h => Nat.succ_lt_succ h))

/-- The first free address with a property is the lowest. -/
theorem find_freeAddresses {p : Nat → Bool} {a : Nat} (h : (s.freeAddresses g).find? p = some a) :
    s.freeAt g a ∧ p a = true ∧ ∀ e, e < a → s.freeAt g e → p e = false := by
  refine ⟨mem_freeAddresses.mp (List.mem_of_find?_eq_some h), List.find?_some h, fun e he hf => ?_⟩
  obtain ⟨-, pre, post, hsplit, hpre⟩ := List.find?_eq_some_iff_append.mp h
  have hmem : e ∈ s.freeAddresses g := mem_freeAddresses.mpr hf
  have hsorted := freeAddresses_sorted (s := s) (g := g)
  rw [hsplit] at hmem hsorted
  rcases List.mem_append.mp hmem with hm | hm
  · simpa using hpre e hm
  · exfalso
    have htail := (List.pairwise_append.mp hsorted).2.1
    rcases List.mem_cons.mp hm with rfl | hm
    · exact absurd he (lt_irrefl _)
    · exact absurd ((List.pairwise_cons.mp htail).1 e hm) (Nat.lt_asymm he)

theorem find_freeAddresses_none {p : Nat → Bool} (h : (s.freeAddresses g).find? p = none) {e : Nat} (hf : s.freeAt g e) :
    p e = false := by
  simpa using List.find?_eq_none.mp h e (mem_freeAddresses.mpr hf)

theorem head_freeAddresses {a : Nat} (h : (s.freeAddresses g).head? = some a) : s.freeAt g a ∧ ∀ e, s.freeAt g e → a ≤ e := by
  refine ⟨mem_freeAddresses.mp (List.mem_of_head? h), fun e hf => ?_⟩
  obtain ⟨l, hl⟩ := List.head?_eq_some_iff.mp h
  have hmem : e ∈ s.freeAddresses g := mem_freeAddresses.mpr hf
  have hsorted := freeAddresses_sorted (s := s) (g := g)
  rw [hl] at hmem hsorted
  rcases List.mem_cons.mp hmem with rfl | hm
  · exact le_rfl
  · exact ((List.pairwise_cons.mp hsorted).1 e hm).le

/-- The identity a record remembers. -/
def State.remembers (s : State) (g : Seg) (a : Nat) : Option Identity := (s.display (recKey g a)).identity

/-- With an address free, the lowest that remembers the identity is chosen, else the lowest that remembers none, else the
lowest. -/
theorem chooseFree_cases (h : ∃ a, s.freeAt g a) : ∃ a, s.chooseFree g i = some a ∧ s.freeAt g a ∧
    (s.remembers g a = some i ∧ (∀ e, e < a → s.freeAt g e → s.remembers g e ≠ some i) ∨
     s.remembers g a = none ∧ (∀ e, s.freeAt g e → s.remembers g e ≠ some i) ∧
      (∀ e, e < a → s.freeAt g e → s.remembers g e ≠ none) ∨
     (∀ e, s.freeAt g e → s.remembers g e ≠ some i ∧ s.remembers g e ≠ none ∧ a ≤ e)) := by
  unfold State.chooseFree
  dsimp only
  cases h5 : (s.freeAddresses g).find? fun a => (s.display (recKey g a)).identity == some i with
  | some a =>
    obtain ⟨hf, hp, hlow⟩ := find_freeAddresses h5
    exact ⟨a, rfl, hf, .inl ⟨beq_iff_eq.mp hp, fun e he hfe => beq_eq_false_iff_ne.mp (hlow e he hfe)⟩⟩
  | none =>
    have hno : ∀ e, s.freeAt g e → s.remembers g e ≠ some i := fun e hfe => beq_eq_false_iff_ne.mp (find_freeAddresses_none h5 hfe)
    cases h6 : (s.freeAddresses g).find? fun a => (s.display (recKey g a)).identity == none with
    | some a =>
      obtain ⟨hf, hp, hlow⟩ := find_freeAddresses h6
      exact ⟨a, rfl, hf, .inr (.inl ⟨beq_iff_eq.mp hp, hno, fun e he hfe => beq_eq_false_iff_ne.mp (hlow e he hfe)⟩)⟩
    | none =>
      have hnone : ∀ e, s.freeAt g e → s.remembers g e ≠ none := fun e hfe => beq_eq_false_iff_ne.mp
        (find_freeAddresses_none h6 hfe)
      cases hh : (s.freeAddresses g).head? with
      | none =>
        obtain ⟨a, ha⟩ := h
        rw [List.head?_eq_none_iff] at hh
        exact absurd (mem_freeAddresses.mpr ha) (by rw [hh]; exact List.not_mem_nil)
      | some a =>
        obtain ⟨hf, hlow⟩ := head_freeAddresses hh
        exact ⟨a, rfl, hf, .inr (.inr fun e hfe => ⟨hno e hfe, hnone e hfe, hlow e hfe⟩)⟩

/-! ## The cases of R152 -/

theorem startAssign_eq {c : SweepCause} {p : SweepPhase} (h : (s.seg g).activity = .sweeping c p) (a : Nat) :
    s.startAssign g i a = (s.setSeg g { s.seg g with activity := .sweeping c (.assign i a 0) }).send g (.assign i a) := by
  rw [State.startAssign, setPhase_eq h]

/-- Case 2: MUTE, then the next presence query. -/
theorem duplicate_eq {c : SweepCause} {p : SweepPhase} (h : (s.seg g).activity = .sweeping c p) : s.duplicate g i =
    ((((s.send g (.mute i)).send g .presence).setSeg g
      { s.seg g with muted := (s.seg g).muted + 1, activity := .sweeping c .presence }).raise .safety .duplicateIdentity) :=
  toPresence_setSeg (s := (s.send g (.mute i)).raise .safety .duplicateIdentity) (g := g)
    (x := { s.seg g with muted := (s.seg g).muted + 1 }) h

theorem assignAddress_here (hw : Table.wf s.dir = true) (h : ∃ k, keySeg k = g ∧ s.holds i k) :
    ∃ k, keySeg k = g ∧ s.holds i k ∧ s.assignAddress g i = s.startAssign g i (keyAddr k) := by
  obtain ⟨k, hg, hk⟩ := h
  obtain ⟨j, hj⟩ := exists_heldHere hg hk
  obtain ⟨hjg, hjh⟩ := holdsHere_of_some hw hj
  exact ⟨j, hjg, hjh, by rw [State.assignAddress, hj]⟩

section
variable (hw : Table.wf s.dir = true) (hhere : ¬ ∃ k, keySeg k = g ∧ s.holds i k)
include hw hhere

theorem assignAddress_not_here : s.assignAddress g i =
    if (s.holderOf i (liveElsewhere g)).isSome then s.duplicate g i
    else if (s.freeAddresses g).isEmpty then (s.muteDisplay g i).closeSweep g .full
    else
      match (s.freeElsewhere g i).chooseFree g i with
      | some a => (s.freeElsewhere g i).startAssign g i a
      | none => s.freeElsewhere g i := by
  have hnone : s.holderOf i (heldHere g) = none := by
    cases ho : s.holderOf i (heldHere g) with
    | none => rfl
    | some k =>
      obtain ⟨hg, hk⟩ := holdsHere_of_some hw ho
      exact absurd ⟨k, hg, hk⟩ hhere
  rw [State.assignAddress, hnone] <;> rfl

theorem assignAddress_elsewhere (h : ∃ k, keySeg k ≠ g ∧ s.holds i k ∧ (s.display k).state.inService = true) :
    s.assignAddress g i = s.duplicate g i :=
  (assignAddress_not_here hw hhere).trans (if_pos ((liveElsewhere_isSome hw).mpr h))

variable (helse : ¬ ∃ k, keySeg k ≠ g ∧ s.holds i k ∧ (s.display k).state.inService = true)
include helse

theorem assignAddress_full (hfull : ∀ a, ¬ s.freeAt g a) :
    s.assignAddress g i = ((s.send g (.mute i)).setSeg g { s.seg g with muted := (s.seg g).muted + 1 }).closeSweep g .full := by
  have hempty : (s.freeAddresses g).isEmpty = true :=
    List.isEmpty_iff.mpr (List.eq_nil_iff_forall_not_mem.mpr fun a ha => hfull a (mem_freeAddresses.mp ha))
  rw [assignAddress_not_here hw hhere, if_neg (mt (liveElsewhere_isSome hw).mp helse), if_pos hempty]
  rfl

theorem assignAddress_free (hfree : ∃ a, s.freeAt g a) : ∃ a, s.assignAddress g i = (s.freeElsewhere g i).startAssign g i a ∧
    s.freeAt g a ∧
    (s.remembers g a = some i ∧ (∀ e, e < a → s.freeAt g e → s.remembers g e ≠ some i) ∨
     s.remembers g a = none ∧ (∀ e, s.freeAt g e → s.remembers g e ≠ some i) ∧
      (∀ e, e < a → s.freeAt g e → s.remembers g e ≠ none) ∨
     (∀ e, s.freeAt g e → s.remembers g e ≠ some i ∧ s.remembers g e ≠ none ∧ a ≤ e)) := by
  obtain ⟨b, hb⟩ := hfree
  have hsame : ∀ e, isAddress e → (s.freeElsewhere g i).display (recKey g e) = s.display (recKey g e) := fun e he =>
    freeElsewhere_here hw (keySeg_recKey he)
  have hfreeAt : ∀ e, (s.freeElsewhere g i).freeAt g e ↔ s.freeAt g e := fun e =>
    and_congr_right fun he => by rw [hsame e he]
  have hrem : ∀ e, isAddress e → (s.freeElsewhere g i).remembers g e = s.remembers g e := fun e he =>
    congrArg Display.identity (hsame e he)
  obtain ⟨a, ha, hf, hcases⟩ := chooseFree_cases (i := i) ⟨b, (hfreeAt b).mpr hb⟩
  have hne : ¬ (s.freeAddresses g).isEmpty = true := fun he =>
    absurd (mem_freeAddresses.mpr hb) (by rw [List.isEmpty_iff.mp he]; exact List.not_mem_nil)
  refine ⟨a, ?_, (hfreeAt a).mp hf, ?_⟩
  · rw [assignAddress_not_here hw hhere, if_neg (mt (liveElsewhere_isSome hw).mp helse), if_neg hne, ha]
  · simp only [hfreeAt] at hcases
    rw [hrem a hf.1] at hcases
    refine hcases.imp (fun h => ⟨h.1, fun e he hfe => hrem e hfe.1 ▸ h.2 e he hfe⟩) (Or.imp (fun h => ⟨h.1,
      fun e hfe => hrem e hfe.1 ▸ h.2.1 e hfe, fun e he hfe => hrem e hfe.1 ▸ h.2.2 e he hfe⟩) fun h e hfe => ?_)
    rw [← hrem e hfe.1]
    exact h e hfe

end

end

/-- Settles O47, case by case. -/
theorem addressesFollowTheCases : Obligations.AddressesFollowTheCases := by
  intro g c b i bits s hw hact hcheck hi x holds here elsewhere free remembered
  let u := s.begin.setSeg g x
  have huw : Table.wf u.dir = true := hw
  have hseg : u.seg g = x := State.seg_setSeg ..
  have huact : (u.seg g).activity = .sweeping c (.check 7 i bits) := by rw [hseg]; exact hact
  have hexec : exec (.bit g b) s = .next (u.assignAddress g i) := by
    refine congrArg Host.Outcome.next ((bitWindow_check (s := s.begin) b hact).trans ((if_neg (by decide)).trans ?_))
    exact checkOutcome_right ((pushBit_eq bits b).trans hcheck) hi
  have hset : ∀ y, u.setSeg g y = s.begin.setSeg g y := fun y => State.setSeg_setSeg ..
  have hstart : ∀ a, u.startAssign g i a = ({ s with sent := [⟨g, .assign i a⟩] }).setSeg g
      { x with activity := .sweeping c (.assign i a 0) } := fun a => by
    rw [startAssign_eq huact, hset, hseg]
    rfl
  refine ⟨fun h => ?_, fun hno h => ?_, fun hno helse hfull => ?_, fun hno helse hfree => ?_⟩
  · obtain ⟨k, hg, hk, heq⟩ := assignAddress_here (s := u) huw h
    exact ⟨k, hg, hk, by rw [hexec, heq, hstart]⟩
  · rw [hexec, assignAddress_elsewhere (s := u) huw hno h, duplicate_eq huact, hseg]
    exact congrArg (fun v => Host.Outcome.next (State.raise v .safety .duplicateIdentity)) (State.setSeg_setSeg
      ((s.begin.send g (.mute i)).send g .presence) g x _)
  · obtain ⟨honly, hclosed, hsent⟩ := closeSweep_setSeg (s := u.send g (.mute i)) (g := g)
      (x := { x with muted := x.muted + 1 }) hact .full
    have hend := assignAddress_full (s := u) huw hno helse hfull
    rw [hseg] at hend
    exact ⟨_, hexec.trans (congrArg _ hend), ⟨honly.1, fun h hh => (honly.2 h hh).trans (State.seg_setSeg_ne _ _ hh)⟩, hsent,
      hclosed⟩
  · obtain ⟨a, heq, hfa, hcases⟩ := assignAddress_free (s := u) huw hno helse hfree
    let v := u.freeElsewhere g i
    have hvseg : ∀ h, v.seg h = u.seg h := freeElsewhere_seg
    have hvsent : v.sent = [] := freeElsewhere_sent
    have hdisplay : ∀ k, v.display k = if s.holderOf i (heldElsewhere g) = some k then Display.freed (some i) else s.display k :=
      freeElsewhere_display (s := u) huw
    have heq' : u.assignAddress g i = (v.setSeg g { x with activity := .sweeping c (.assign i a 0) }).send g (.assign i a) := by
      have hvact : (v.seg g).activity = .sweeping c (.check 7 i bits) := by rw [hvseg]; exact huact
      rw [heq, startAssign_eq hvact, hvseg, hseg]
    refine ⟨_, a, hexec.trans (congrArg _ heq'), hfa, ?_, State.seg_setSeg .., fun h hh => ?_, hcases, fun k => ?_,
      fun k hg hk honly => ?_⟩
    · exact congrArg (· ++ [_]) hvsent
    · exact (State.seg_setSeg_ne v _ hh).trans ((hvseg h).trans (State.seg_setSeg_ne _ _ hh))
    · by_cases hk : s.holderOf i (heldElsewhere g) = some k
      · obtain ⟨hg, hh, -⟩ := heldElsewhere_of_some hw hk
        exact .inr ⟨hg, hh, (hdisplay k).trans (if_pos hk)⟩
      · exact .inl ((hdisplay k).trans (if_neg hk))
    · have hidle : (s.display k).state.inService = false :=
        Bool.eq_false_of_not_eq_true fun hs => helse ⟨k, hg, hk, hs⟩
      obtain ⟨j, hj⟩ := exists_heldElsewhere hg hk hidle
      obtain ⟨hjg, hjh, -⟩ := heldElsewhere_of_some hw hj
      obtain rfl := honly j hjg hjh
      exact (hdisplay j).trans (if_pos hj)

end Sys2Proof.Machine
end

section
/-! PROOFS. Displays taken in, and records reset or revived (R153, R154, R157, R159). -/

namespace Sys2Proof.Machine

/-! ## One composition and the other segments -/

section
variable {s : State} {k : Nat} {c : Cause}

theorem composeRecord_seg_other {h : Seg} (hh : h ≠ keySeg k) : (s.composeRecord k c).1.seg h = s.seg h := by
  rcases composeRecord_cases s k c with he | ⟨d, he⟩ | he <;> rw [he]
  · rfl
  · dsimp only
    split
    · exact State.seg_modSeg_ne _ _ _ _ hh
    · rfl

theorem composeRecord_sent : (s.composeRecord k c).1.sent = s.sent := (composeRecord_composed s k c).sent_eq

theorem composeRecord_isComposed (hf : (s.display k).state ≠ .free) : isComposed (s.composeRecord k c).1 k :=
  isComposed_of_composedRecord (composeRecord_composed s k c) hf (composeRecord_display_same s k c)

/-- An empty record gets a back card, unless a card is in transit to it. -/
theorem refills_of_empty (hf : (s.display k).state ≠ .free) (ht : s.inTransit k = false) (hs : (s.display k).shown = none) :
    s.refills k := ⟨hf, ht, by rw [hs]; nofun⟩

theorem isComposed_congr {t : State} (hc : ∀ d, t.compose d = s.compose d) (hx : t.inTransit k = s.inTransit k)
    (hd : t.display k = s.display k) : isComposed t k ↔ isComposed s k := by
  unfold isComposed
  rw [hx, hd, hc]

end

theorem toPresence_inTransit (s : State) (g : Seg) (k : Nat) : (s.toPresence g).inTransit k = s.inTransit k := by
  have hx : ((s.toPresence g).seg (keySeg k)).exchange = (s.seg (keySeg k)).exchange := by
    change ((s.setPhase g .presence).seg (keySeg k)).exchange = _
    unfold State.setPhase
    by_cases hg : keySeg k = g
    · rw [hg, State.seg_modSeg]
      split <;> rfl
    · rw [State.seg_modSeg_ne _ _ _ _ hg]
  rw [State.inTransit, State.inTransit, hx]

theorem toPresence_isComposed {s : State} (g : Seg) {k : Nat} (h : isComposed s k) : isComposed (s.toPresence g) k :=
  (isComposed_congr (s := s) (t := s.toPresence g) (fun _ => rfl) (toPresence_inTransit s g k) rfl).mpr h

theorem Buffers.frontCard_emptied (b : Buffers) : b.emptied.frontCard = none := by
  obtain ⟨x, y, f⟩ := b
  cases f <;> rfl

theorem enrolled_shown (p : Plan) (i : Identity) (c : Capability) (d : Display) : (enrolled p i c d).shown = none := by
  have hb : (enrolled p i c d).buffers = d.buffers.emptied := rfl
  rw [Display.shown, hb, Buffers.backCard_emptied, Buffers.frontCard_emptied]
  rfl

/-! ## Taking a display in (R153, R154) -/

/-- The state in which a record just taken in is composed. -/
def takenIn (s : State) (g : Seg) (i : Identity) (a : Nat) (c : Capability) : State :=
  let d := enrolled s.activePlan i c (s.display (recKey g a))
  (((s.leaveQueue (recKey g a)).setDisplay (recKey g a) d).raiseIf (d.state == .orphan) .safety .orphanSeen).modSeg g
    fun x => { x with enrolled := x.enrolled + 1 }

section
variable {s : State} {g : Seg} {i : Identity} {a : Nat} (cap : Capability)

theorem takeIn_eq : s.takeIn g i a cap = ((takenIn s g i a cap).composeRecord (recKey g a) .other).1.toPresence g := rfl

theorem takenIn_display (k : Nat) : (takenIn s g i a cap).display k =
    if k = recKey g a then enrolled s.activePlan i cap (s.display (recKey g a)) else s.display k := by
  have hdir : (takenIn s g i a cap).dir =
      ((s.leaveQueue (recKey g a)).setDisplay (recKey g a) (enrolled s.activePlan i cap (s.display (recKey g a)))).dir :=
    State.raiseIf_dir ..
  rw [State.display_congr hdir, State.display_setDisplay]
  rfl

theorem takenIn_seg (ha : isAddress a) (h : Seg) : (takenIn s g i a cap).seg h = if h = g then
    { s.seg g with enrolled := (s.seg g).enrolled + 1, queue := (s.seg g).queue.filter (· != a) } else s.seg h := by
  have hraise : ∀ (u : State) (b : Bool) (f : Segment → Segment), ((u.raiseIf b .safety .orphanSeen).modSeg g f).seg h =
      (u.modSeg g f).seg h := fun u b f => by
    cases b <;> rfl
  have hsegs : (takenIn s g i a cap).seg h =
      ((s.leaveQueue (recKey g a)).modSeg g fun x => { x with enrolled := x.enrolled + 1 }).seg h := hraise ..
  rw [hsegs, State.leaveQueue, keySeg_recKey ha, keyAddr_recKey ha]
  split
  · subst h
    rw [State.seg_modSeg, State.seg_modSeg]
  · rw [State.seg_modSeg_ne _ _ _ _ ‹_›, State.seg_modSeg_ne _ _ _ _ ‹_›]

theorem takenIn_sent : (takenIn s g i a cap).sent = s.sent := State.raiseIf_sent ..

theorem takenIn_orphan (h : (enrolled s.activePlan i cap (s.display (recKey g a))).state = .orphan) :
    .orphanSeen ∈ ((takenIn s g i a cap).port .safety).pendingSet := by
  unfold takenIn
  dsimp only
  rw [h]
  exact (mem_raise (l := .safety) .orphanSeen).mpr ⟨by decide, .inl rfl⟩

/-- A display is matched to the placement that expects its identity, or to none (R154). -/
theorem matchIdentity_cases (p : Plan) (i : Identity) :
    (∃ k pl, matchIdentity p i = some k ∧ (k, pl) ∈ p.placements ∧ pl.expected = some i) ∨
    (matchIdentity p i = none ∧ ∀ y ∈ p.placements, y.2.expected ≠ some i) := by
  cases h : matchIdentity p i with
  | some k =>
    obtain ⟨j, pl, hm, hf⟩ := Table.of_first_eq_some h
    split at hf
    · cases hf
      exact .inl ⟨k, pl, rfl, hm, ‹_›⟩
    · cases hf
  | none =>
    refine .inr ⟨rfl, fun y hy he => ?_⟩
    have hno := Table.not_of_first_eq_none h (k := y.1) (v := y.2) hy
    rw [if_pos he] at hno
    cases hno

theorem matchedState_ne_free (m : Option Nat) : matchedState m ≠ .free := RecState.ne_free_of_inService (matchedState_inService m)

section
variable (ha : isAddress a) {c : SweepCause} {p : SweepPhase} (hact : (s.seg g).activity = .sweeping c p)
include ha hact

/-- The composition changes the segment's queue alone, and the next presence query follows. -/
theorem takeIn_presence : s.takeIn g i a cap = (((takenIn s g i a cap).composeRecord (recKey g a) .other).1.setSeg g
    { s.seg g with
      enrolled := (s.seg g).enrolled + 1, activity := .sweeping c .presence
      queue := (((takenIn s g i a cap).composeRecord (recKey g a) .other).1.seg g).queue }).send g .presence := by
  have hq := (composeRecord_composed (takenIn s g i a cap) (recKey g a) .other).queues g
  rw [takenIn_seg cap ha, if_pos rfl] at hq
  have hact' : (((takenIn s g i a cap).composeRecord (recKey g a) .other).1.seg g).activity = .sweeping c p := by
    rw [hq]
    exact hact
  rw [takeIn_eq, toPresence_eq hact']
  congr 2
  rw [hq]

theorem takeIn_seg : (s.takeIn g i a cap).seg g = { s.seg g with
    enrolled := (s.seg g).enrolled + 1, activity := .sweeping c .presence
    queue := (((takenIn s g i a cap).composeRecord (recKey g a) .other).1.seg g).queue } := by
  rw [takeIn_presence cap ha hact]
  exact State.seg_setSeg ..

theorem takeIn_seg_other {h : Seg} (hh : h ≠ g) : (s.takeIn g i a cap).seg h = s.seg h := by
  rw [takeIn_presence cap ha hact]
  refine (State.seg_setSeg_ne _ _ hh).trans ?_
  rw [composeRecord_seg_other (by rwa [keySeg_recKey ha]), takenIn_seg cap ha, if_neg hh]

end

theorem takeIn_sent : (s.takeIn g i a cap).sent = s.sent ++ [⟨g, .presence⟩] := by
  have h : ((takenIn s g i a cap).composeRecord (recKey g a) .other).1.sent = s.sent :=
    composeRecord_sent.trans (takenIn_sent cap)
  exact congrArg (· ++ [_]) h

theorem takeIn_display (k : Nat) : (s.takeIn g i a cap).display k =
    if k = recKey g a then composedRecord (takenIn s g i a cap) (recKey g a) .other else s.display k := by
  change ((takenIn s g i a cap).composeRecord (recKey g a) .other).1.display k = _
  split
  · subst k
    exact composeRecord_display_same ..
  · rw [composeRecord_display_other _ _ _ ‹_›, takenIn_display, if_neg ‹_›]

theorem takeIn_composes : composedOnly (takenIn s g i a cap) ((takenIn s g i a cap).composeRecord (recKey g a) .other).1 :=
  (composeRecord_composed ..).only

/-- The record taken in: its set-up fields, and the card composed for it (R154). -/
theorem takeIn_record : (s.takeIn g i a cap).display (recKey g a) =
    { enrolled s.activePlan i cap (s.display (recKey g a)) with
      buffers := ((s.takeIn g i a cap).display (recKey g a)).buffers
      recompose := ((s.takeIn g i a cap).display (recKey g a)).recompose
      looked := ((s.takeIn g i a cap).display (recKey g a)).looked } := by
  have hd := ((composeRecord_composed (takenIn s g i a cap) (recKey g a) .other).cards (recKey g a)).1
  rw [takenIn_display, if_pos rfl] at hd
  exact hd

theorem takenIn_ne_free : ((takenIn s g i a cap).display (recKey g a)).state ≠ .free := by
  rw [takenIn_display, if_pos rfl]
  exact matchedState_ne_free _

theorem takeIn_isComposed : isComposed (s.takeIn g i a cap) (recKey g a) :=
  toPresence_isComposed g (composeRecord_isComposed (takenIn_ne_free cap))

theorem takeIn_frontCard : ((s.takeIn g i a cap).display (recKey g a)).buffers.frontCard = none := by
  rw [takeIn_display, if_pos rfl, composedRecord_frontCard, takenIn_display, if_pos rfl]
  exact Buffers.frontCard_emptied _

/-- With no card in transit to it the record has a back card and a place in the queue. -/
theorem takeIn_queued (ha : isAddress a) (ht : (takenIn s g i a cap).inTransit (recKey g a) = false) :
    ((s.takeIn g i a cap).display (recKey g a)).buffers.backCard.isSome = true ∧
    a ∈ (((takenIn s g i a cap).composeRecord (recKey g a) .other).1.seg g).queue := by
  have hr : (takenIn s g i a cap).refills (recKey g a) := refills_of_empty (takenIn_ne_free cap) ht (by
    rw [takenIn_display, if_pos rfl]
    exact enrolled_shown ..)
  refine ⟨?_, ?_⟩
  · rw [takeIn_display, if_pos rfl, composedRecord_of_refills hr, filledRecord_backCard]
    rfl
  · refine (mem_composeRecord ..).mpr (.inr ⟨⟨(keySeg_recKey ha).symm, (keyAddr_recKey ha).symm⟩,
      (composeRecord_refills ..).mpr hr, ?_⟩)
    rw [takenIn_display, if_pos rfl]
    exact matchedState_inService _

end

theorem takeIn_orphanSeen {s : State} {g : Seg} {i : Identity} {a : Nat} (cap : Capability)
    (h : (enrolled s.activePlan i cap (s.display (recKey g a))).state = .orphan) :
    .orphanSeen ∈ ((s.takeIn g i a cap).port .safety).pendingSet := by
  have hp : (s.takeIn g i a cap).ports = (takenIn s g i a cap).ports :=
    (composeRecord_composed (takenIn s g i a cap) (recKey g a) .other).ports_eq
  rw [State.port, hp]
  exact takenIn_orphan cap h

theorem freeElsewhere_plan (s : State) (g : Seg) (i : Identity) : (s.freeElsewhere g i).plan = s.plan := by
  unfold State.freeElsewhere
  split <;> rfl

/-- Credits at the set-up: six for an e-paper display newly set up or new as one, none for an LCD (R154). -/
theorem setupCredits_eq (d : Display) (panel capacity lines firmware : Byte) :
    setupCredits d (takenCapability panel capacity lines firmware) =
      if panel ≠ 0#8 then none else if d.state = .free ∨ ¬ d.isEpaper then some 6 else d.credits := by
  unfold setupCredits takenCapability
  by_cases hp : panel = 0#8
  · simp only [hp, if_true, ne_eq, not_true_eq_false, if_false, Bool.not_eq_true', Bool.not_eq_true]
    rfl
  · simp only [hp, if_false, ne_eq, not_false_eq_true, if_true]

/-! ## Capability replies (R153) -/

section
variable {s : State} {g : Seg} {i : Identity} {a failed : Nat} {c : SweepCause}
  (hact : (s.seg g).activity = .sweeping c (.assign i a failed))
include hact

theorem capabilityReply_own (cap : Capability) : capabilityReply g 0 i cap s = s.takeReply g i a cap := by
  rw [capabilityReply, hact]
  exact (if_neg (not_not.mpr rfl)).trans (if_pos rfl)

theorem capabilityReply_other {j : Identity} (hj : j ≠ i) (cap : Capability) :
    capabilityReply g 0 j cap s = s.assignFailed g i a failed := by
  rw [capabilityReply, hact]
  exact (if_neg (not_not.mpr rfl)).trans (if_neg hj)

theorem assignTimeout_eq : assignTimeout g s = s.assignFailed g i a failed := by rw [assignTimeout, hact]

theorem assignFailed_again (h : failed + 1 < 3) : s.assignFailed g i a failed =
    (s.setSeg g { s.seg g with activity := .sweeping c (.assign i a (failed + 1)) }).send g (.assign i a) := by
  rw [State.assignFailed, if_pos h, setPhase_eq hact]

end

theorem assignFailed_last {s : State} {g : Seg} {i : Identity} {a failed : Nat} (h : 3 ≤ failed + 1) :
    s.assignFailed g i a failed = (s.send g (.drop i)).closeSweep g .noAssignReply := by
  rw [State.assignFailed, if_neg (Nat.not_lt.mpr h)]

/-- Settles O48: a reply that is taken, a duplicate, and a failed attempt. -/
theorem capabilityRepliesEnrolDisplays : Obligations.CapabilityRepliesEnrolDisplays := by
  intro g c i j a failed panel capacity lines firmware s hw ha hact x d
  let cap := takenCapability panel capacity lines firmware
  have hown := capabilityReply_own (s := s.begin) hact cap
  refine ⟨fun hnolive => ?_, fun hlive => ?_, fun hj => ⟨fun h => ?_, fun h => ?_⟩⟩
  · let v := s.begin.freeElsewhere g i
    have hnone : ¬ (s.begin.holderOf i (liveElsewhere g)).isSome = true := fun h => by
      obtain ⟨k, hg, hk, hs⟩ := (liveElsewhere_isSome (s := s.begin) hw).mp h
      exact hnolive k hg hs hk.2
    have htake : s.begin.takeReply g i a cap = v.takeIn g i a cap := if_neg hnone
    have hvseg : ∀ h, v.seg h = s.seg h := fun h => freeElsewhere_seg h
    have hvact : (v.seg g).activity = .sweeping c (.assign i a failed) := by rw [hvseg]; exact hact
    have hvd : v.display (recKey g a) = d := freeElsewhere_here (s := s.begin) hw (keySeg_recKey ha)
    have hvplan : v.activePlan = s.activePlan := activePlan_congr (congrArg (·.active) (freeElsewhere_plan s.begin g i))
    have hrec := takeIn_record (s := v) (g := g) (i := i) (a := a) cap
    rw [hvplan, hvd] at hrec
    have hseg := takeIn_seg (s := v) (i := i) cap ha hvact
    rw [hvseg] at hseg
    have hqueue : ((v.takeIn g i a cap).seg g).queue = (((takenIn v g i a cap).composeRecord (recKey g a) .other).1.seg g).queue :=
      by rw [hseg]
    have hfields : ∀ {α : Type} (f : Display → α), f ((v.takeIn g i a cap).display (recKey g a)) = f
        { enrolled s.activePlan i cap d with
          buffers := ((v.takeIn g i a cap).display (recKey g a)).buffers
          recompose := ((v.takeIn g i a cap).display (recKey g a)).recompose
          looked := ((v.takeIn g i a cap).display (recKey g a)).looked } := fun f => congrArg f hrec
    refine ⟨v.takeIn g i a cap, congrArg Host.Outcome.next (hown.trans htake), ?_⟩
    intro e
    have hstate : e.state = matchedState (matchIdentity s.activePlan i) := hfields Display.state
    refine ⟨?_, hfields Display.identity, hfields Display.capability, hfields Display.toggle, hfields Display.busy,
      hfields Display.attempts, hfields Display.refreshLimit, takeIn_frontCard cap, ?_, takeIn_isComposed cap, fun ht => ?_,
        ?_, ?_, ?_, ?_⟩
    · rcases matchIdentity_cases s.activePlan i with ⟨k, pl, hm, hmem, hexp⟩ | ⟨hm, hall⟩
      · exact .inl ⟨k, pl, by rw [hstate, hm]; rfl, hmem, hexp⟩
      · refine .inr ⟨by rw [hstate, hm]; rfl, hall, takeIn_orphanSeen cap ?_⟩
        rw [hvplan]
        exact congrArg matchedState hm
    · exact (hfields Display.credits).trans (setupCredits_eq d panel capacity lines firmware)
    · have hq := takeIn_queued (s := v) (g := g) (i := i) cap ha (by
        rw [takeIn_eq, toPresence_inTransit, inTransit_congr (composeRecord_composed ..)] at ht
        exact ht)
      rw [hqueue]
      exact hq
    · rw [hqueue]
      exact hseg
    · exact (takeIn_sent cap).trans (congrArg (· ++ _) freeElsewhere_sent)
    · exact fun h hh => (takeIn_seg_other cap ha hvact hh).trans (hvseg h)
    · intro k hk
      have hkv : (v.takeIn g i a cap).display k = v.display k := (takeIn_display cap k).trans (if_neg hk)
      by_cases hh : s.begin.holderOf i (heldElsewhere g) = some k
      · obtain ⟨hg, hhold, hheld⟩ := heldElsewhere_of_some (s := s.begin) hw hh
        exact .inr ⟨hg, hheld, hhold.2, hkv.trans ((freeElsewhere_display (s := s.begin) hw k).trans (if_pos hh))⟩
      · exact .inl (hkv.trans ((freeElsewhere_display (s := s.begin) hw k).trans (if_neg hh)))
  · have hsome : (s.begin.holderOf i (liveElsewhere g)).isSome = true := (liveElsewhere_isSome (s := s.begin) hw).mpr (by
      obtain ⟨k, hg, hs, hi⟩ := hlive
      exact ⟨k, hg, ⟨RecState.ne_free_of_inService hs, hi⟩, hs⟩)
    refine congrArg Host.Outcome.next (hown.trans ?_)
    exact (if_pos hsome).trans (duplicate_eq (s := s.begin) hact)
  · have hfail := assignFailed_again (s := s.begin) hact h
    exact ⟨congrArg Host.Outcome.next ((capabilityReply_other (s := s.begin) hact hj cap).trans hfail),
      congrArg Host.Outcome.next ((assignTimeout_eq (s := s.begin) hact).trans hfail)⟩
  · have hfail : s.begin.assignFailed g i a failed = _ := assignFailed_last h
    obtain ⟨honly, hclosed, hsent⟩ := closeSweep_closed (s := s.begin.send g (.drop i)) (g := g) hact .noAssignReply
    exact ⟨_, congrArg Host.Outcome.next ((capabilityReply_other (s := s.begin) hact hj cap).trans hfail),
      congrArg Host.Outcome.next ((assignTimeout_eq (s := s.begin) hact).trans hfail), honly, hsent, hclosed⟩

end Sys2Proof.Machine
end

section
/-! PROOFS. SEGMENT RESET and REVIVE (R157, R159). -/

namespace Sys2Proof.Machine

section
variable {s : State} {g : Seg}

theorem bodyDisplay_isAddress {body : List Byte} {a : Nat} (h : bodyDisplay body = .ok (g, a)) : isAddress a := by
  obtain ⟨⟨x, y⟩, -, hd⟩ := bind_eq_ok.mp h
  obtain ⟨z, -, hz⟩ := bind_eq_ok.mp hd
  split at hz
  · cases hz
    assumption
  · cases hz

/-- The segment of a reset whose sweep has started (R157). -/
def resetBegun (x : Segment) : Segment :=
  sweepBegun .segmentReset { x with
    exchange := none, queue := [], again := false, requested := if x.requested = .absent then .absent else .present }

theorem sweepAsked_cleared (x : Segment) : sweepAsked .segmentReset x.cleared = resetBegun x := by
  have hreq : x.cleared.requested = if x.requested = .absent then .absent else .present := by
    unfold Segment.cleared
    cases x.requested <;> rfl
  unfold resetBegun
  rw [← hreq]
  rfl

theorem resetSegment_eq : s.resetSegment g =
    { ((s.setSeg g (resetBegun (s.seg g))).send g .busReset) with dir := freeSegment g s.dir } := by
  unfold State.resetSegment
  dsimp only
  rw [requestSweep_eq]
  have hseg : ∀ x, (({ (s.setSeg g x).send g .busReset with dir := freeSegment g s.dir } : State).seg g) = x := fun x =>
    State.seg_setSeg ..
  have hset : ∀ x y, ({ (s.setSeg g x).send g .busReset with dir := freeSegment g s.dir } : State).setSeg g y =
      { (s.setSeg g y).send g .busReset with dir := freeSegment g s.dir } := fun x y =>
    congrArg (fun u : State => { u.send g .busReset with dir := freeSegment g s.dir }) (State.setSeg_setSeg s g x y)
  refine (hset (s.seg g).cleared _).trans ?_
  rw [← sweepAsked_cleared]
  exact congrArg (fun x => ({ (s.setSeg g (sweepAsked .segmentReset x)).send g .busReset with dir := freeSegment g s.dir } :
    State))
    (hseg (s.seg g).cleared)

/-! ## Revival (R159) -/

theorem joinQueue_queueOnly (k : Nat) (h : Seg) : queueOnly (s.seg h) ((s.joinQueue k).seg h) := (joinQueue_composed s k).queues h

/-- The state in which a record just revived is composed. -/
def revivedIn (s : State) (k : Nat) (prior : Option Nat) : State :=
  s.setDisplay k { s.display k with state := matchedState prior, attempts := 0, busy := false }

section
variable {k : Nat} (prior : Option Nat)

theorem reviveRecord_eq : s.reviveRecord k prior =
    if (((revivedIn s k prior).composeRecord k .other).1.display k).buffers.backCard.isSome = true then
      ((revivedIn s k prior).composeRecord k .other).1.joinQueue k
    else ((revivedIn s k prior).composeRecord k .other).1 := rfl

/-- What follows the set-up of the record is a composition, and its place in the queue. -/
theorem reviveRecord_composed : Composed (revivedIn s k prior) (s.reviveRecord k prior) := by
  rw [reviveRecord_eq]
  split
  · exact (composeRecord_composed ..).trans (joinQueue_composed ..)
  · exact composeRecord_composed ..

theorem reviveRecord_display (j : Nat) :
    (s.reviveRecord k prior).display j = ((revivedIn s k prior).composeRecord k .other).1.display j := by
  rw [reviveRecord_eq]
  split <;> rfl

theorem revivedIn_display : (revivedIn s k prior).display k =
    { s.display k with state := matchedState prior, attempts := 0, busy := false } := State.display_setDisplay_same ..

theorem reviveRecord_isComposed : isComposed (s.reviveRecord k prior) k := by
  have hf : ((revivedIn s k prior).display k).state ≠ .free := by
    rw [revivedIn_display]
    exact matchedState_ne_free prior
  exact isComposed_of_composedRecord (reviveRecord_composed prior) hf
    ((reviveRecord_display prior k).trans (composeRecord_display_same ..))

theorem reviveRecord_frontCard :
    ((s.reviveRecord k prior).display k).buffers.frontCard = (s.display k).buffers.frontCard := by
  rw [reviveRecord_display, composeRecord_display_same, composedRecord_frontCard, revivedIn_display]

theorem reviveRecord_backCard (h : (s.display k).buffers.backCard.isSome = true) :
    ((s.reviveRecord k prior).display k).buffers.backCard.isSome = true := by
  rw [reviveRecord_display]
  exact composeRecord_backCard k (by rw [revivedIn_display]; exact h)

theorem reviveRecord_queued (h : ((s.reviveRecord k prior).display k).buffers.backCard.isSome = true) :
    keyAddr k ∈ ((s.reviveRecord k prior).seg (keySeg k)).queue := by
  rw [reviveRecord_display] at h
  rw [reviveRecord_eq, if_pos h, mem_joinQueue]
  exact .inr ⟨rfl, rfl⟩

theorem reviveRecord_only : onlyRecord (keySeg k) k s (s.reviveRecord k prior) := by
  refine ⟨fun j hj => ?_, fun h hh => ?_⟩
  · rw [reviveRecord_display, composeRecord_display_other _ _ _ hj]
    exact State.display_setDisplay_other _ _ _ _ hj
  · have hseg : ((revivedIn s k prior).composeRecord k .other).1.seg h = s.seg h := composeRecord_seg_other hh
    rw [reviveRecord_eq]
    split
    · exact (State.seg_modSeg_ne _ _ _ _ hh).trans hseg
    · exact hseg

end

end

/-- Settles O49, from the equation of a reset and the lemmas of a revival. -/
theorem segmentResetAndReviveActOnTheDirectory : Obligations.SegmentResetAndReviveActOnTheDirectory := by
  intro tag body s hr t
  refine ⟨fun g hbody => ?_, fun g a hbody => ?_⟩
  · refine ⟨t.resetSegment g, congrArg Host.Outcome.next ((takeRequest_taken hr rfl).trans ?_), ?_⟩
    · rw [hbody]
      rfl
    · rw [resetSegment_eq]
      refine ⟨State.seg_setSeg t g _, fun h hh => State.seg_setSeg_ne t _ hh, rfl, freeSegment_display rfl, ⟨fun p hp => ?_⟩⟩
      cases p <;> first | rfl | exact absurd (by simp) hp
  · intro k
    have ha := bodyDisplay_isAddress hbody
    have hexec : exec (.revive .safety tag body) s = .next (settle .safety tag 0x25#8 (revive g a t)) := by
      refine congrArg Host.Outcome.next ((takeRequest_taken hr rfl).trans ?_)
      rw [hbody]
      rfl
    refine ⟨fun hf => ?_, fun hs => ?_, fun prior cause hheld => ?_⟩
    · have hd : (t.display (recKey g a)).state = .free := hf
      rw [hexec, revive, hd]
      rfl
    · have hd : (t.display (recKey g a)).state = (s.display k).state := rfl
      rw [hexec, revive, hd]
      cases hstate : (s.display k).state with
      | placed p => rfl
      | orphan => rfl
      | free => rw [hstate] at hs; exact absurd hs Bool.false_ne_true
      | held p c => rw [hstate] at hs; exact absurd hs Bool.false_ne_true
    · have hd : (t.display (recKey g a)).state = .held prior cause := hheld
      have hrec := ((reviveRecord_composed (s := t) (k := k) prior).cards k).1
      rw [revivedIn_display] at hrec
      have hseg : keySeg k = g := keySeg_recKey ha
      have haddr : keyAddr k = a := keyAddr_recKey ha
      refine ⟨t.reviveRecord k prior, ?_, ?_⟩
      · rw [hexec, revive, hd]
        rfl
      · have hqueued := reviveRecord_queued (s := t) (k := k) prior
        have honly := reviveRecord_only (s := t) (k := k) prior
        rw [hseg, haddr] at hqueued
        rw [hseg] at honly
        have hfields : ∀ {α : Type} (f : Display → α), f ((t.reviveRecord k prior).display k) = f
            { t.display k with
              state := matchedState prior, attempts := 0, busy := false
              buffers := ((t.reviveRecord k prior).display k).buffers
              recompose := ((t.reviveRecord k prior).display k).recompose
              looked := ((t.reviveRecord k prior).display k).looked } := fun f => congrArg f hrec
        refine ⟨(hfields Display.state).trans ?_, hfields Display.attempts, hfields Display.busy, hfields Display.toggle,
          hfields Display.credits, reviveRecord_frontCard (s := t) (k := k) prior, reviveRecord_backCard (s := t) (k := k) prior,
          hqueued, reviveRecord_isComposed (s := t) (k := k) prior, honly,
            (reviveRecord_composed (s := t) (k := k) prior).queues g, ?_⟩
        · cases prior <;> rfl
        · have hsame := (reviveRecord_composed (s := t) (k := k) prior).sameBut
          exact SameBut.trans (t := revivedIn t k prior) ((setDisplay_same ..).mono (by decide)) hsame

end Sys2Proof.Machine
end

section
/-! PROOFS. SET CONDITION and the remainder requests (R29, R40 to R42). -/

namespace Sys2Proof.Machine

/-! ## Lists of 1 to 16 items -/

theorem listFits_iff {α : Type} (xs : List α) : listFits xs = true ↔ 1 ≤ xs.length ∧ xs.length ≤ 16 := by
  rw [listFits, Bool.and_eq_true, decide_eq_true_iff, decide_eq_true_iff]

theorem listFits_of_split {α : Type} {xs good rest : List α} {x : α} (h : xs = good ++ x :: rest) (hlen : xs.length ≤ 16) :
    listFits xs = true := by
  refine (listFits_iff xs).mpr ⟨?_, hlen⟩
  rw [h, List.length_append, List.length_cons]
  omega

/-! ## Conditions (R29) -/

/-- The pair may be stored in plan `p`. -/
def pairFits (p : Plan) (x : Nat × Nat) : Prop := x.1 < 160 ∧ x.2 < 4 ∧ Table.has p.edges x.1 = true

/-- The edge and the condition of a pair. -/
def pairStored (x : Nat × Nat) : Nat × Condition := (x.1, (conditionOf x.2).getD .openEdge)

theorem conditionOf_lt {n : Nat} (h : n < 4) : conditionOf n = some ((conditionOf n).getD .openEdge) := by
  interval_cases n <;> rfl

theorem conditionOf_ge {n : Nat} (h : 4 ≤ n) : conditionOf n = none := by
  unfold conditionOf
  split <;> first | rfl | omega

section
variable {p : Plan} {x : Nat × Nat}

theorem checkPair_ok (h : pairFits p x) (n : Nat) : checkPair p n x = .ok (pairStored x) := by
  obtain ⟨hedge, hcond, hdef⟩ := h
  rw [checkPair, if_neg (show ¬ Config.edgeCount ≤ x.1 from Nat.not_le.mpr hedge), conditionOf_lt hcond]
  exact if_pos hdef

theorem checkPair_range (h : 160 ≤ x.1 ∨ 4 ≤ x.2) (n : Nat) : checkPair p n x = .error (.badAt .range (.position n)) := by
  unfold checkPair
  by_cases hedge : 160 ≤ x.1
  · exact if_pos hedge
  · rw [if_neg (show ¬ Config.edgeCount ≤ x.1 from hedge), conditionOf_ge (h.resolve_left hedge)]

theorem checkPair_undefined (hedge : x.1 < 160) (hcond : x.2 < 4) (h : Table.has p.edges x.1 = false) (n : Nat) :
    checkPair p n x = .error (.refuseAt .notFound (.position n)) := by
  rw [checkPair, if_neg (show ¬ Config.edgeCount ≤ x.1 from Nat.not_le.mpr hedge), conditionOf_lt hcond]
  exact if_neg (by rw [h]; exact Bool.false_ne_true)

end

/-- What a table gives for an edge. -/
def conditionAt (t : Table Condition) (e : Nat) : Condition := (Table.get t e).getD .openEdge

theorem conditionAt_put (t : Table Condition) (i : Nat) (c : Condition) (e : Nat) :
    conditionAt (putCondition t i c) e = if i = e then c else conditionAt t e := by
  unfold conditionAt putCondition
  by_cases hie : i = e
  · subst hie
    rw [if_pos rfl]
    split
    · subst c
      rw [Table.get_del_same]
      rfl
    · rw [Table.get_put_same]
      rfl
  · rw [if_neg hie]
    split
    · rw [Table.get_del_other _ _ _ (Ne.symm hie)]
    · rw [Table.get_put_other _ _ _ _ (Ne.symm hie)]

/-- The last pair that names an edge decides its condition. -/
theorem conditionAt_applyPairs (t : Table Condition) (ps : List (Nat × Nat)) (e : Nat) :
    conditionAt (applyPairs t (ps.map pairStored)) e =
      ((ps.reverse.find? fun x => x.1 == e).map fun x => (pairStored x).2).getD (conditionAt t e) := by
  rw [← foldl_last, applyPairs]
  induction ps generalizing t with
  | nil => rfl
  | cons x ps ih =>
    rw [List.map_cons, List.foldl_cons, ih, conditionAt_put, List.foldl_cons]
    congr 1
    exact if_congr beq_iff_eq.symm rfl rfl

theorem conditionsChanged_iff (old new : Table Condition) (ps : List (Nat × Nat)) :
    conditionsChanged old new (ps.map pairStored) = ps.any fun x => conditionAt new x.1 != conditionAt old x.1 := by
  rw [conditionsChanged, List.any_map]
  congr 1
  funext x
  exact bne_comm

section
variable {ps : List (Nat × Nat)} {s : State}

theorem setCondition_stores (hlen : listFits ps = true) (hfits : ∀ x ∈ ps, pairFits s.activePlan x) : setCondition ps s =
    let u := { s with cond := { s.cond with edges := applyPairs s.cond.edges (ps.map pairStored) } }
    .answer (u.triggerIf (ps.any fun x => u.condition x.1 != s.condition x.1)) .ok := by
  rw [setCondition, if_pos hlen, checkItems_eq_ok fun x hx n => checkPair_ok (hfits x hx) n]
  dsimp only
  rw [conditionsChanged_iff]
  rfl

theorem setCondition_refuses {good rest : List (Nat × Nat)} {x : Nat × Nat} {r : Reply} (hsplit : ps = good ++ x :: rest)
    (hlen : ps.length ≤ 16) (hgood : ∀ y ∈ good, pairFits s.activePlan y)
    (hx : checkPair s.activePlan good.length x = .error r) : setCondition ps s = .answer s r := by
  have hfits : listFits ps = true := listFits_of_split hsplit hlen
  have hcheck : checkItems (checkPair s.activePlan) 0 ps = .error r := by
    rw [hsplit]
    exact checkItems_eq_error (fun y hy n => ⟨_, checkPair_ok (hgood y hy) n⟩) 0 (by rwa [Nat.zero_add])
  rw [setCondition, if_pos hfits, hcheck]

end

/-- Settles O15, from the checks of pairs in order. -/
theorem conditionsAreStoredTogether : Obligations.ConditionsAreStoredTogether := by
  intro tag body ps s hr hbody t fits
  have hexec : ∀ {u : State} {r : Reply}, setCondition ps t = .answer u r →
      exec (.setCondition .safety tag body) s = .next (u.answer .safety tag 0x15#8 r) := fun h =>
    congrArg Host.Outcome.next (taken_parsed hr rfl hbody h)
  refine ⟨fun h1 h16 hfits => ?_, fun hlen => hexec ?_, fun good x rest hsplit h16 hgood =>
    ⟨fun h => hexec ?_, fun hedge hcond h => hexec ?_⟩⟩
  · refine ⟨applyPairs s.cond.edges (ps.map pairStored), ?_⟩
    intro u
    refine ⟨hexec (setCondition_stores ((listFits_iff ps).mpr ⟨h1, h16⟩) hfits), fun e => ?_⟩
    have he := conditionAt_applyPairs s.cond.edges ps e
    change some (conditionAt (applyPairs s.cond.edges (ps.map pairStored)) e) = _
    rw [he]
    cases hfind : ps.reverse.find? fun x => x.1 == e with
    | none => rfl
    | some x => exact (conditionOf_lt (hfits x (List.mem_reverse.mp (List.mem_of_find?_eq_some hfind))).2.1).symm
  · exact if_neg fun h => by
      obtain ⟨h1, h16⟩ := (listFits_iff ps).mp h
      omega
  · exact setCondition_refuses hsplit h16 hgood (checkPair_range h _)
  · exact setCondition_refuses hsplit h16 hgood (checkPair_undefined hedge hcond h _)

/-! ## Remainders (R41) -/

/-- The destinations a link may write. -/
def ownKind : LinkId → DestKind
  | .safety => .station
  | .hotel => .venue

/-- The byte that names them. -/
def ownByte : LinkId → Nat
  | .safety => 0
  | .hotel => 1

/-- The fields of an item are in range. -/
def itemInRange (x : RemainderItem) : Prop := x.form < 2 ∧ x.portal < 8 ∧ x.kind < 2 ∧ x.index < if x.kind = 0 then 8 else 32

/-- The item's portal and destination are defined. -/
def itemDefined (p : Plan) (l : LinkId) (x : RemainderItem) : Prop :=
  Table.has p.portals x.portal = true ∧ destDefined p (ownKind l) x.index = true

def itemFits (p : Plan) (l : LinkId) (x : RemainderItem) : Prop := itemInRange x ∧ x.kind = ownByte l ∧ itemDefined p l x

/-- What an item stores. -/
def itemStored (l : LinkId) (x : RemainderItem) : RemainderChange := (remainderKey x.portal (ownKind l) x.index, remainderValue x)

section
variable {p : Plan} {l : LinkId} {x : RemainderItem}

theorem destKindOf_own (l : LinkId) : destKindOf (ownByte l) = .ok (ownKind l) := by cases l <;> rfl

theorem ownColumn_own (l : LinkId) : ownColumn l (ownKind l) = true := by cases l <;> rfl

/-- A kind in range names destinations; an index in range is below their count. -/
theorem destKindOf_inRange (h : itemInRange x) : ∃ k, destKindOf x.kind = .ok k ∧
    ¬ (1 < x.form ∨ Config.portalCount ≤ x.portal ∨ k.count ≤ x.index) ∧ (ownColumn l k = true ↔ x.kind = ownByte l) := by
  obtain ⟨hform, hportal, hkind, hindex⟩ := h
  obtain hk | hk : x.kind = 0 ∨ x.kind = 1 := by omega
  · rw [hk] at hindex ⊢
    refine ⟨.station, rfl, ?_, by cases l <;> decide⟩
    have hi : x.index < DestKind.count .station := hindex
    have hp : x.portal < Config.portalCount := hportal
    omega
  · rw [hk] at hindex ⊢
    refine ⟨.venue, rfl, ?_, by cases l <;> decide⟩
    have hi : x.index < DestKind.count .venue := hindex
    have hp : x.portal < Config.portalCount := hportal
    omega

theorem checkRemainder_range (h : ¬ itemInRange x) (n : Nat) :
    checkRemainder p l n x = .error (.badAt .range (.position n)) := by
  unfold checkRemainder
  cases hk : destKindOf x.kind with
  | error r => rfl
  | ok k =>
    refine if_pos ?_
    by_contra hno
    obtain ⟨hkind, hcount⟩ : x.kind < 2 ∧ k.count = if x.kind = 0 then 8 else 32 := by
      unfold destKindOf at hk
      split at hk
      · cases hk; exact ⟨by omega, by simp [*]; rfl⟩
      · cases hk; exact ⟨by omega, by simp [*]; rfl⟩
      · cases hk
    refine h ⟨?_, ?_, hkind, ?_⟩
    · omega
    · have hp : Config.portalCount = 8 := rfl
      omega
    · rw [← hcount]
      omega

theorem checkRemainder_denied (h : itemInRange x) (hk : x.kind ≠ ownByte l) (n : Nat) :
    checkRemainder p l n x = .error (.refuseAt .denied (.position n)) := by
  obtain ⟨k, hkind, hrange, hown⟩ := destKindOf_inRange (l := l) h
  rw [checkRemainder, hkind]
  dsimp only
  rw [if_neg hrange]
  exact if_pos (by simpa using mt hown.mp hk)

theorem checkRemainder_own (h : itemInRange x) (hk : x.kind = ownByte l) (n : Nat) : checkRemainder p l n x =
    if Table.has p.portals x.portal && destDefined p (ownKind l) x.index then .ok (itemStored l x)
    else .error (.refuseAt .notFound (.position n)) := by
  obtain ⟨k, hkind, hrange, -⟩ := destKindOf_inRange (l := l) h
  have hsame : k = ownKind l := by
    rw [hk, destKindOf_own] at hkind
    exact (Except.ok.inj hkind).symm
  subst hsame
  rw [checkRemainder, hkind]
  dsimp only
  rw [if_neg hrange, ownColumn_own]
  rfl

theorem checkRemainder_undefined (h : itemInRange x) (hk : x.kind = ownByte l) (hd : ¬ itemDefined p l x) (n : Nat) :
    checkRemainder p l n x = .error (.refuseAt .notFound (.position n)) := by
  rw [checkRemainder_own h hk]
  exact if_neg fun hc => hd (Bool.and_eq_true_iff.mp hc)

theorem checkRemainder_ok (h : itemFits p l x) (n : Nat) : checkRemainder p l n x = .ok (itemStored l x) := by
  obtain ⟨hr, hk, hd⟩ := h
  rw [checkRemainder_own hr hk]
  exact if_pos (Bool.and_eq_true_iff.mpr hd)

end

/-- The last item that names an entry decides it. -/
theorem get_applyItems (t : Table Remainder) (l : LinkId) (xs : List RemainderItem) (key : Nat) :
    Table.get (applyRemainders t (xs.map (itemStored l))) key =
      ((xs.reverse.find? fun x => remainderKey x.portal (ownKind l) x.index == key).map remainderValue).getD
        (Table.get t key) := by
  rw [← foldl_last, applyRemainders]
  induction xs generalizing t with
  | nil => rfl
  | cons x xs ih =>
    rw [List.map_cons, List.foldl_cons, ih, Table.get_set, List.foldl_cons]
    congr 1
    exact if_congr (eq_comm.trans beq_iff_eq.symm) rfl rfl

theorem remaindersChanged_iff (old new : Table Remainder) (l : LinkId) (xs : List RemainderItem) :
    remaindersChanged old new (xs.map (itemStored l)) = xs.any fun x =>
      Table.get new (remainderKey x.portal (ownKind l) x.index) != Table.get old (remainderKey x.portal (ownKind l) x.index) := by
  rw [remaindersChanged, List.any_map]
  congr 1
  funext x
  exact bne_comm

section
variable {l : LinkId} {xs : List RemainderItem} {s : State}

theorem remainderSet_stores (hlen : listFits xs = true) (hfits : ∀ x ∈ xs, itemFits s.activePlan l x) : remainderSet l xs s =
    let rs := applyRemainders s.cond.remainders (xs.map (itemStored l))
    let u := { s with cond := { s.cond with remainders := rs } }
    .answer (u.triggerIf (xs.any fun x => Table.get rs (remainderKey x.portal (ownKind l) x.index) !=
      Table.get s.cond.remainders (remainderKey x.portal (ownKind l) x.index))) .ok := by
  rw [remainderSet, if_pos hlen, checkItems_eq_ok fun x hx n => checkRemainder_ok (hfits x hx) n]
  dsimp only
  rw [remaindersChanged_iff]

theorem remainderSet_refuses {good rest : List RemainderItem} {x : RemainderItem} {r : Reply} (hsplit : xs = good ++ x :: rest)
    (hlen : xs.length ≤ 16) (hgood : ∀ y ∈ good, itemFits s.activePlan l y)
    (hx : checkRemainder s.activePlan l good.length x = .error r) : remainderSet l xs s = .answer s r := by
  have hcheck : checkItems (checkRemainder s.activePlan l) 0 xs = .error r := by
    rw [hsplit]
    exact checkItems_eq_error (fun y hy n => ⟨_, checkRemainder_ok (hgood y hy) n⟩) 0 (by rwa [Nat.zero_add])
  rw [remainderSet, if_pos (listFits_of_split hsplit hlen), hcheck]

end

/-! ## Clearing remainders (R42) -/

theorem Table.keep_eq_filter {α : Type} (p : Nat → α → Bool) (t : Table α) : Table.keep p t = t.filter fun x => p x.1 x.2 := by
  induction t with
  | nil => rfl
  | cons x t ih =>
    obtain ⟨k, v⟩ := x
    rw [Table.keep, List.filter_cons, ih]

theorem keep_ne_self_iff {α : Type} (p : Nat → Bool) (t : Table α) :
    Table.keep (fun k _ => !p k) t ≠ t ↔ ∃ x ∈ t, p x.1 = true := by
  rw [Table.keep_eq_filter, ne_eq, List.filter_eq_self]
  simp

section
variable {l : LinkId} {s : State}

theorem clearRemainders_eq (portal : Option Nat) : clearRemainders l portal s =
    let u := { s with cond := { s.cond with remainders := Table.keep (fun k _ => !clearsEntry l portal k) s.cond.remainders } }
    .answer (u.triggerIf (s.cond.remainders.any fun x => clearsEntry l portal x.1)) .ok := by
  have hchanged : decide (Table.keep (fun k _ => !clearsEntry l portal k) s.cond.remainders ≠ s.cond.remainders) =
      s.cond.remainders.any fun x => clearsEntry l portal x.1 := by
    rw [Bool.eq_iff_iff, decide_eq_true_iff, keep_ne_self_iff, List.any_eq_true]
  rw [clearRemainders, hchanged]

theorem get_clearRemainders {t : Table Remainder} (hw : Table.wf t = true) (clears : Nat → Bool) (key : Nat) :
    Table.get (Table.keep (fun k _ => !clears k) t) key = if clears key then none else Table.get t key := by
  rw [Table.get_keep hw]
  cases Table.get t key with
  | none => cases clears key <;> rfl
  | some v => cases clears key <;> rfl

/-- The portal that the byte of a REMAINDER CLEAR names: none for FFh. -/
def portalOf (n : Byte) : Option Nat := if n = 0xFF#8 then none else some n.toNat

theorem portalOf_ok {n : Byte} (h : ¬ n ≠ 0xFF#8 ∨ n.toNat < 8) : optionalBelow Config.portalCount n.toNat = .ok (portalOf n) := by
  unfold portalOf
  by_cases hn : n = 0xFF#8
  · subst hn
    rfl
  · have h8 := h.resolve_left (not_not.mpr hn)
    have h255 : n.toNat ≠ 255 := by omega
    rw [optionalBelow, if_neg h255, if_neg hn]
    exact if_pos h8

theorem portalOf_all (n : Byte) (p : Nat → Bool) : (portalOf n).all p = (n == 0xFF#8 || p n.toNat) := by
  unfold portalOf
  by_cases hn : n = 0xFF#8
  · subst hn
    rfl
  · rw [if_neg hn, beq_false_of_ne hn]
    rfl

theorem remainderClear_missing {n : Byte} (h : ¬ n ≠ 0xFF#8 ∨ n.toNat < 8)
    (hno : s.plan.active = none ∨ (n ≠ 0xFF#8 ∧ Table.has s.activePlan.portals n.toNat = false)) :
    remainderClear l n.toNat s = .answer s (.refuse .notFound) := by
  rw [remainderClear, portalOf_ok h]
  refine if_pos ?_
  rw [portalOf_all]
  rcases hno with ha | ⟨hn, hp⟩
  · rw [State.planless, ha]
    rfl
  · rw [hp, beq_false_of_ne hn]
    exact Bool.or_true _

theorem remainderClear_clears {n : Byte} {a : ActivePlan} (ha : s.plan.active = some a)
    (h : ¬ n ≠ 0xFF#8 ∨ (n.toNat < 8 ∧ Table.has s.activePlan.portals n.toNat = true)) :
    remainderClear l n.toNat s = clearRemainders l (portalOf n) s := by
  rw [remainderClear, portalOf_ok (h.imp_right And.left)]
  refine if_neg ?_
  rw [portalOf_all, State.planless, ha]
  rcases h with hn | ⟨-, hp⟩
  · rw [not_not.mp hn]
    exact Bool.false_ne_true
  · rw [hp, Bool.or_true]
    exact Bool.false_ne_true

theorem portal_range {n : Byte} (hn : n ≠ 0xFF#8) (h : 8 ≤ n.toNat) :
    optionalBelow Config.portalCount n.toNat = .error .range := by
  have h255 : n.toNat ≠ 255 := fun he => hn (BitVec.eq_of_toNat_eq he)
  rw [optionalBelow, if_neg h255]
  exact if_neg (Nat.not_lt.mpr h)

end

/-- Settles O20, from the checks of items in order and the entries a clear keeps. -/
theorem remaindersAreStoredByColumn : Obligations.RemaindersAreStoredByColumn := by
  intro l tag s hr t dest own inRange defined fits
  have hplan : t.activePlan = s.activePlan := by cases l <;> rfl
  have hrems : t.cond.remainders = s.cond.remainders := by cases l <;> rfl
  have hdest : dest = ownKind l := by cases l <;> rfl
  have hown : own = ownByte l := by cases l <;> rfl
  have hdef : ∀ x, defined x ↔ itemDefined t.activePlan l x := fun x => by
    rw [hplan]
    cases l <;> exact Iff.rfl
  have hfits : ∀ x, fits x ↔ itemFits t.activePlan l x := fun x => by
    rw [itemFits, ← hown]
    exact and_congr_right fun _ => and_congr_right fun _ => hdef x
  refine ⟨fun body xs hbody => ?_, fun n rest => ?_⟩
  · have hexec : ∀ {u : State} {r : Reply}, remainderSet l xs t = .answer u r →
        exec (.remainderSet l tag body) s = .next (u.answer l tag 0x40#8 r) := fun h =>
      congrArg Host.Outcome.next (taken_parsed hr rfl hbody h)
    refine ⟨fun h1 h16 hall => ?_, fun hlen => hexec ?_, fun good x rest hsplit h16 hgood => ?_⟩
    · refine ⟨applyRemainders s.cond.remainders (xs.map (itemStored l)), ?_⟩
      intro u
      have hstore := remainderSet_stores (s := t) ((listFits_iff xs).mpr ⟨h1, h16⟩) fun x hx => (hfits x).mp (hall x hx)
      rw [hrems, ← hdest] at hstore
      refine ⟨hexec hstore, fun key => ?_⟩
      rw [get_applyItems, ← hdest]
      cases xs.reverse.find? fun x => remainderKey x.portal dest x.index == key <;> rfl
    · exact if_neg fun h => by
        obtain ⟨h1, h16⟩ := (listFits_iff xs).mp h
        omega
    · intro refused
      have hgood' : ∀ y ∈ good, itemFits t.activePlan l y := fun y hy => (hfits y).mp (hgood y hy)
      refine ⟨fun h => hexec ?_, fun hin hk => hexec ?_, fun hin hk hd => hexec ?_⟩
      · exact remainderSet_refuses hsplit h16 hgood' (checkRemainder_range h _)
      · exact remainderSet_refuses hsplit h16 hgood' (checkRemainder_denied hin (hown ▸ hk) _)
      · exact remainderSet_refuses hsplit h16 hgood' (checkRemainder_undefined hin (hown ▸ hk) (mt (hdef x).mpr hd) _)
  · intro named
    have hexec : ∀ {u : State} {r : Reply}, remainderClear l n.toNat t = .answer u r →
        exec (.remainderClear l tag (n :: rest)) s = .next (u.answer l tag 0x41#8 r) := fun h =>
      congrArg Host.Outcome.next (taken_parsed hr rfl (bodyOne_cons n rest) h)
    have hactive : t.plan.active = s.plan.active := by cases l <;> rfl
    refine ⟨fun hn h8 => hexec ?_, fun h8 hno => hexec ?_, fun a ha hw hportal => ?_⟩
    · rw [remainderClear, portal_range hn h8]
    · exact remainderClear_missing h8 (by rwa [hplan, hactive])
    · have hplanOf : s.activePlan = a.plan := by rw [State.activePlan, ha]
      have hrun := remainderClear_clears (l := l) (s := t) (n := n) (hactive.trans ha) (by rwa [hplan, hplanOf])
      rw [clearRemainders_eq, hrems] at hrun
      intro clears
      have hclears : ∀ key, clearsEntry l (portalOf n) key = clears key := fun key => by
        have hp := portalOf_all n fun p => key / 40 == p
        cases l with
        | safety => exact congrArg (decide (key % 40 < 8) && ·) hp
        | hotel => exact congrArg (decide (8 ≤ key % 40) && ·) hp
      simp only [hclears] at hrun
      exact ⟨_, hexec hrun, fun key => get_clearRemainders hw clears key⟩

end Sys2Proof.Machine
end

section
/-! PROOFS. The content resolver's requests and the text pool (R82, R83, R126, R131, R134, R135). -/

namespace Sys2Proof.Machine

/-! ## Notices (R134, R135) -/

section
variable {l : LinkId} {s : State}

theorem postNotice_expired {b : PostNoticeBody} {n e : Nat} (hn : s.now = some n) (he : b.expiry = some e) (h : e ≤ n) :
    postNotice l b s = .answer s (.bad .expiry) := by
  rw [postNotice, hn, he]
  exact if_pos (decide_eq_true h)

/-- The notice that a request posts. -/
def noticeOf (l : LinkId) (b : PostNoticeBody) (now : Option Nat) : Notice :=
  { origin := l, target := b.target, text := b.text, urgent := b.urgent, expiry := b.expiry, posted := now }

theorem postNotice_valid {b : PostNoticeBody}
    (h : s.now = none ∨ b.expiry = none ∨ ∃ n e, s.now = some n ∧ b.expiry = some e ∧ n < e) : postNotice l b s =
    match lowestSlot s.resolver.notices with
    | none => .answer s (.refuse .full)
    | some i => .answer (({ s with
        resolver := { s.resolver with notices := Table.put s.resolver.notices i (noticeOf l b s.now) }
          }).composeTargets [b.target])
        (.results (.slot i)) := by
  have hexp : expired s.now b.expiry = false := by
    rcases h with h | h | ⟨n, e, hn, he, hlt⟩
    · rw [h]
      rfl
    · rw [h]
      cases s.now <;> rfl
    · rw [hn, he]
      exact decide_eq_false (Nat.not_le.mpr hlt)
  unfold postNotice
  exact if_neg (by rw [hexp]; exact Bool.false_ne_true)

theorem lowestSlot_full {t : Table Notice} (h : ∀ i, i < 32 → Table.has t i = true) : lowestSlot t = none := by
  refine List.find?_eq_none.mpr fun i hi => ?_
  rw [h i (List.mem_range.mp hi)]
  exact Bool.false_ne_true

theorem lowestSlot_empty {t : Table Notice} {i : Nat} (hi : i < 32) (hempty : Table.has t i = false)
    (hlow : ∀ j, j < i → Table.has t j = true) : lowestSlot t = some i := by
  refine List.find?_range_eq_some.mpr ⟨by rw [hempty]; rfl, List.mem_range.mpr hi, fun j hj => ?_⟩
  rw [hlow j hj]
  rfl

end

/-- Settles O41, from the checks of a post and of a withdrawal. -/
theorem noticesTakeTheLowestSlot : Obligations.NoticesTakeTheLowestSlot := by
  intro l tag body s hr t
  have hres : t.resolver = s.resolver := by cases l <;> rfl
  have hnow : t.now = s.now := by cases l <;> rfl
  refine ⟨fun b hbody => ?_, fun i hbody => ?_⟩
  · have hexec : ∀ {u : State} {r : Reply}, postNotice l b t = .answer u r →
        exec (.postNotice l tag body) s = .next (u.answer l tag 0x42#8 r) := fun h =>
      congrArg Host.Outcome.next (taken_parsed hr rfl hbody h)
    refine ⟨fun n e hn he hle => hexec (postNotice_expired (hnow.trans hn) he hle), fun hvalid => ?_⟩
    have hpost := postNotice_valid (l := l) (s := t) (by rwa [hnow])
    rw [hres, hnow] at hpost
    refine ⟨fun hfull => hexec ?_, fun i hi hempty hlow => hexec ?_⟩
    · rw [hpost, lowestSlot_full hfull]
    · rw [hpost, lowestSlot_empty hi hempty hlow]
      rfl
  · refine congrArg Host.Outcome.next ((takeRequest_taken hr rfl).trans ?_)
    rw [hbody]
    change settle l tag 0x43#8 (withdrawNotice l i t) = _
    rw [withdrawNotice, hres, apply_ite (settle l tag 0x43#8)]
    refine if_congr Iff.rfl rfl ?_
    cases Table.get s.resolver.notices i with
    | none => rfl
    | some n =>
      dsimp only
      rw [apply_ite (settle l tag 0x43#8)]
      rfl

/-! ## Texts (R82, R83) -/

theorem below_eq_ok {bound n m : Nat} : below bound n = .ok m ↔ n < bound ∧ n = m := by
  unfold below
  split
  · simp [*]
  · simp [*]

theorem textKeyOf_ok {g : Given Nat} {l id lang : Nat} (h : textKeyOf g l = .ok (id, lang)) : 1 ≤ id ∧ lang < 4 := by
  obtain ⟨i, -, h⟩ := bind_eq_ok.mp h
  obtain ⟨m, hm, h⟩ := bind_eq_ok.mp h
  obtain ⟨hlt, rfl⟩ := below_eq_ok.mp hm
  split at h
  · cases h
  · cases h
    exact ⟨Nat.pos_of_ne_zero ‹_›, hlt⟩

theorem labelOf_ok {limit : Nat} {x y : Text} (h : labelOf limit x = .ok y) (hl : 1 ≤ limit) :
    1 ≤ y.length ∧ y.length ≤ limit := by
  unfold labelOf at h
  split at h
  · cases h
  · rename_i hne
    cases h
    have hpos : 0 < x.length := List.length_pos_iff.mpr fun he => hne (List.isEmpty_iff.mpr he)
    rw [List.length_take]
    omega

theorem bodyTextPut_ok {body : List Byte} {id lang : Nat} {x : Text} (h : bodyTextPut body = .ok (id, lang, x)) :
    1 ≤ id ∧ lang < 4 ∧ 1 ≤ x.length ∧ x.length ≤ 64 := by
  obtain ⟨⟨g, r⟩, -, h⟩ := bind_eq_ok.mp h
  obtain ⟨⟨l, r'⟩, -, h⟩ := bind_eq_ok.mp h
  have hrest : ∃ y, textKeyOf g l = .ok (id, lang) ∧ labelOf 64 y = .ok x := by
    cases g with
    | bad =>
      obtain ⟨_, -, h⟩ := bind_eq_ok.mp h
      cases h
    | _ =>
      obtain ⟨⟨y, _⟩, -, h⟩ := bind_eq_ok.mp h
      obtain ⟨_, -, h⟩ := bind_eq_ok.mp h
      obtain ⟨⟨i, k⟩, hkey, h⟩ := bind_eq_ok.mp h
      obtain ⟨z, hz, h⟩ := bind_eq_ok.mp h
      cases h
      exact ⟨y, hkey, hz⟩
  obtain ⟨y, hkey, hlabel⟩ := hrest
  obtain ⟨hid, hlang⟩ := textKeyOf_ok hkey
  exact ⟨hid, hlang, labelOf_ok hlabel (by decide)⟩

theorem bodyTextKey_ok {body : List Byte} {id lang : Nat} (h : bodyTextKey body = .ok (id, lang)) : 1 ≤ id ∧ lang < 4 := by
  obtain ⟨⟨g, r⟩, -, h⟩ := bind_eq_ok.mp h
  obtain ⟨⟨l, r'⟩, -, h⟩ := bind_eq_ok.mp h
  exact textKeyOf_ok h

theorem textKey_injective {i j k l : Nat} (hk : k < 4) (hl : l < 4) (h : textKey i k = textKey j l) : i = j ∧ k = l := by
  unfold textKey at h
  omega

section
variable {s : State} {id lang : Nat}

theorem textPut_new {x : Text} (h : Table.get s.prog.texts (textKey id lang) = none) : textPut id lang x s =
    if 1024 ≤ s.prog.texts.length then .answer s (.refuse .full)
    else .answer ({ s with prog := { s.prog with texts := Table.put s.prog.texts (textKey id lang) x } }.composeText id) .ok := by
  unfold textPut State.storeText
  rw [Table.has, h]
  exact if_congr decide_eq_true_iff rfl rfl

theorem textPut_old {x y : Text} (h : Table.get s.prog.texts (textKey id lang) = some y) : textPut id lang x s =
    .answer (if y = x then s
      else { s with prog := { s.prog with texts := Table.put s.prog.texts (textKey id lang) x } }.composeText id) .ok := by
  unfold textPut State.storeText
  rw [Table.has, h]
  exact congrArg (Handled.answer · Reply.ok) (if_congr Option.some_inj rfl rfl)

theorem textDelete_missing (h : Table.get s.prog.texts (textKey id lang) = none) :
    textDelete id lang s = .answer s (.refuse .notFound) := by
  rw [textDelete, Table.has, h]
  rfl

theorem textDelete_found {y : Text} (h : Table.get s.prog.texts (textKey id lang) = some y) : textDelete id lang s =
    .answer ({ s with prog := { s.prog with texts := Table.del s.prog.texts (textKey id lang) } }.composeText id) .ok := by
  unfold textDelete State.storeText
  rw [Table.has, h]
  rfl

end

/-! ## Muster instructions and parked texts (R126, R131) -/

theorem instructionOf_ok {n : Nat} (h : n < 6 ∨ n = 255) :
    instructionOf n = .ok ([InstructionCode.useStairs, .avoidLifts, .keepRight, .keepLeft, .waitForCrew,
      .bringLifejacket][n]?) := by
  rcases h with h | rfl
  · interval_cases n <;> rfl
  · rfl

theorem instructionOf_error {n : Nat} (h : 6 ≤ n) (h' : n ≠ 255) : instructionOf n = .error .range := by
  unfold instructionOf
  split <;> first | rfl | omega

/-- A changed instruction composes the records of the station. -/
theorem setInstruction_eq (st : Nat) (c : Option InstructionCode) (s : State) : setInstruction st c s =
    .answer (if Table.get s.resolver.instructions st = c then s
      else { s with resolver := { s.resolver with instructions := Table.set s.resolver.instructions st c } }.composePlacements
        fun _ pl => s.placementStation pl == some st) .ok := by
  rw [setInstruction, apply_ite (Handled.answer · Reply.ok)]
  rfl

/-- A changed parked text composes the records of the placement. -/
theorem setParkedText_eq (p : Nat) (x : Option Nat) (s : State) : setParkedText p x s =
    if Table.has s.activePlan.placements p then
      .answer (if Table.get s.resolver.parked p = x then s
        else { s with resolver := { s.resolver with parked := Table.set s.resolver.parked p x } }.composePlacements
          fun i _ => i == p) .ok
    else .answer s (.refuse .notFound) := by
  unfold setParkedText
  rw [apply_ite (Handled.answer · Reply.ok)]
  cases Table.has s.activePlan.placements p <;> rfl

theorem bodyParkedText_ok {body : List Byte} {p : Nat} {x : Option Nat} (h : bodyParkedText body = .ok (p, x)) :
    p < 192 ∧ x ≠ some 0 := by
  obtain ⟨⟨q, r⟩, -, h⟩ := bind_eq_ok.mp h
  obtain ⟨⟨g, r'⟩, -, h⟩ := bind_eq_ok.mp h
  obtain ⟨t, ht, h⟩ := bind_eq_ok.mp h
  obtain ⟨m, hm, h⟩ := bind_eq_ok.mp h
  obtain ⟨hlt, rfl⟩ := below_eq_ok.mp hm
  cases h
  refine ⟨hlt, ?_⟩
  obtain ⟨u, -, hu⟩ := bind_eq_ok.mp ht
  split at hu
  · cases hu
  · rename_i hne
    cases hu
    exact fun he => hne he

/-- Settles O40: the text pool, the instructions and the parked texts. -/
theorem textsAndInstructionsAreStored : Obligations.TextsAndInstructionsAreStored := by
  refine ⟨fun tag body s hr => ?_, fun tag body s => ⟨fun hr st x hbody => ?_, fun hr p x hbody => ?_⟩⟩
  · intro t
    refine ⟨fun id lang x hbody => ?_, fun id lang hbody => ?_, fun i j k l => textKey_injective⟩
    · obtain ⟨hid, hlang, hlo, hhi⟩ := bodyTextPut_ok hbody
      refine ⟨hid, hlang, hlo, hhi, congrArg Host.Outcome.next ((takeRequest_taken hr rfl).trans ?_)⟩
      rw [hbody]
      change settle .hotel tag 0x38#8 (textPut id lang x t) = _
      cases h : Table.get s.prog.texts (textKey id lang) with
      | none =>
        rw [textPut_new (s := t) h, apply_ite (settle .hotel tag 0x38#8)]
        rfl
      | some y =>
        rw [textPut_old (s := t) h]
        rfl
    · obtain ⟨hid, hlang⟩ := bodyTextKey_ok hbody
      refine ⟨hid, hlang, congrArg Host.Outcome.next ((takeRequest_taken hr rfl).trans ?_)⟩
      rw [hbody]
      change settle .hotel tag 0x39#8 (textDelete id lang t) = _
      cases h : Table.get s.prog.texts (textKey id lang) with
      | none =>
        rw [textDelete_missing (s := t) h]
        rfl
      | some y =>
        rw [textDelete_found (s := t) h]
        rfl
  · intro t set
    refine congrArg Host.Outcome.next ((takeRequest_taken hr rfl).trans ?_)
    rw [hbody]
    change settle .safety tag 0x22#8 (parsed (below Config.stationCount st) t fun st =>
      parsed (instructionOf x) t fun c => setInstruction st c t) = _
    by_cases hbad : 8 ≤ st ∨ (6 ≤ x ∧ x ≠ 255)
    · rw [if_pos hbad]
      by_cases hst : 8 ≤ st
      · rw [show below Config.stationCount st = .error .range from if_neg (Nat.not_lt.mpr hst)]
        rfl
      · obtain ⟨h6, h255⟩ := hbad.resolve_left hst
        rw [show below Config.stationCount st = .ok st from if_pos (Nat.not_le.mp hst), instructionOf_error h6 h255]
        rfl
    · rw [if_neg hbad, show below Config.stationCount st = .ok st from if_pos (Nat.not_le.mp fun h => hbad (.inl h)),
        instructionOf_ok (by omega)]
      change settle .safety tag 0x22#8 (setInstruction st _ t) = _
      rw [setInstruction_eq]
      rfl
  · intro t
    obtain ⟨hp, hx⟩ := bodyParkedText_ok hbody
    refine ⟨hp, hx, congrArg Host.Outcome.next ((takeRequest_taken hr rfl).trans ?_)⟩
    rw [hbody]
    change settle .hotel tag 0x3B#8 (setParkedText p x t) = _
    rw [setParkedText_eq, show t.activePlan = s.activePlan from rfl, Table.has]
    cases Table.get s.activePlan.placements p with
    | none => rfl
    | some pl => rfl

end Sys2Proof.Machine
end

section
/-! PROOFS. The choices of the programme timeline are the earliest ones (R87, R88, R90). -/

namespace Sys2Proof.Machine

/-! ## The earliest event -/

theorem Table.pairwise_of_wf {α : Type} {t : Table α} (h : Table.wf t = true) : t.Pairwise fun x y => x.1 < y.1 :=
  List.pairwise_map.mp (Table.sorted_keys h)

/-- What the search of R87 and R88 holds after the events `es`: none so far, or the earliest one with its start. -/
def searchHolds (q : Event → Bool) (es : Table Event) : Option (Nat × Nat) → Prop
  | none => ∀ x ∈ es, q x.2 = false
  | some b => ∃ e, (b.1, e) ∈ es ∧ q e = true ∧ e.start = b.2 ∧
      ∀ x ∈ es, q x.2 = true → e.start < x.2.start ∨ (e.start = x.2.start ∧ b.1 ≤ x.1)

/-- One event of the search. -/
def searchStep (q : Event → Bool) (best : Option (Nat × Nat)) (x : Nat × Event) : Option (Nat × Nat) :=
  if q x.2 then
    match best with
    | none => some (x.1, x.2.start)
    | some b => if x.2.start < b.2 then some (x.1, x.2.start) else some b
  else best

theorem search_holds (q : Event → Bool) {es : Table Event} (hs : es.Pairwise fun x y => x.1 < y.1) :
    searchHolds q es (es.foldl (searchStep q) none) := by
  induction es using List.reverseRecOn with
  | nil => exact fun _ hx => absurd hx List.not_mem_nil
  | append_singleton es x ih =>
    obtain ⟨hes, -, hlast⟩ := List.pairwise_append.mp hs
    have hbefore : ∀ y ∈ es, y.1 < x.1 := fun y hy => hlast y hy x (List.mem_singleton_self x)
    have hmem : ∀ y ∈ es ++ [x], y ∈ es ∨ y = x := fun y hy => by simpa using hy
    have h := ih hes
    rw [List.foldl_append, List.foldl_cons, List.foldl_nil]
    cases hq : q x.2 with
    | false =>
      have hstep : ∀ best, searchStep q best x = best := fun best => if_neg (by rw [hq]; exact Bool.false_ne_true)
      rw [hstep]
      cases hb : es.foldl (searchStep q) none with
      | none =>
        rw [hb] at h
        intro y hy
        rcases hmem y hy with hy | rfl
        · exact h y hy
        · exact hq
      | some b =>
        rw [hb] at h
        obtain ⟨e, he, hqe, hstart, hmin⟩ := h
        refine ⟨e, List.mem_append_left _ he, hqe, hstart, fun y hy hqy => ?_⟩
        rcases hmem y hy with hy | rfl
        · exact hmin y hy hqy
        · rw [hq] at hqy
          exact absurd hqy Bool.false_ne_true
    | true =>
      cases hb : es.foldl (searchStep q) none with
      | none =>
        rw [hb] at h
        rw [show searchStep q none x = some (x.1, x.2.start) from if_pos hq]
        refine ⟨x.2, List.mem_append_right _ (List.mem_singleton_self x), hq, rfl, fun y hy hqy => ?_⟩
        rcases hmem y hy with hy | rfl
        · rw [h y hy] at hqy
          exact absurd hqy Bool.false_ne_true
        · exact .inr ⟨rfl, le_rfl⟩
      | some b =>
        rw [hb] at h
        obtain ⟨e, he, hqe, hstart, hmin⟩ := h
        rw [show searchStep q (some b) x = if x.2.start < b.2 then some (x.1, x.2.start) else some b from if_pos hq]
        by_cases hlt : x.2.start < b.2
        · rw [if_pos hlt]
          refine ⟨x.2, List.mem_append_right _ (List.mem_singleton_self x), hq, rfl, fun y hy hqy => ?_⟩
          rcases hmem y hy with hy | rfl
          · have := hmin y hy hqy
            dsimp only
            omega
          · exact .inr ⟨rfl, le_rfl⟩
        · rw [if_neg hlt]
          refine ⟨e, List.mem_append_left _ he, hqe, hstart, fun y hy hqy => ?_⟩
          rcases hmem y hy with hy | rfl
          · exact hmin y hy hqy
          · have := hbefore _ he
            dsimp only at this
            omega

/-- The search names the earliest event that satisfies `P`. -/
theorem earliest_isEarliest {q : Event → Bool} {P : Event → Prop} (hq : ∀ e, q e = true ↔ P e) {es : Table Event}
    (hw : Table.wf es = true) : isEarliest P es (earliest (fun _ e => q e) es) := by
  have h := search_holds q (Table.pairwise_of_wf hw)
  have he : earliest (fun _ e => q e) es = (es.foldl (searchStep q) none).map (·.1) := rfl
  rw [he]
  cases hb : es.foldl (searchStep q) none with
  | none =>
    rw [hb] at h
    intro x hx hp
    exact absurd ((hq x.2).mpr hp) (by rw [h x hx]; exact Bool.false_ne_true)
  | some b =>
    rw [hb] at h
    obtain ⟨e, he, hqe, -, hmin⟩ := h
    exact ⟨e, Table.get_of_mem hw he, (hq e).mp hqe, fun x hx hp => hmin x hx ((hq x.2).mpr hp)⟩

/-! ## Now and next of a venue (R87, R88) -/

/-- A table built for the keys of a list reads back. -/
theorem Table.get_filterMap {α : Type} (f : Nat → Option α) (l : List Nat) (k : Nat) :
    Table.get (l.filterMap fun v => (f v).map fun x => (v, x)) k = if k ∈ l then f k else none := by
  induction l with
  | nil => rfl
  | cons v l ih =>
    cases hf : f v with
    | none =>
      rw [List.filterMap_cons_none (by rw [hf]; rfl), ih]
      by_cases hk : k = v
      · subst hk
        simp [hf]
      · simp [hk]
    | some x =>
      rw [List.filterMap_cons_some (b := (v, x)) (by rw [hf]; rfl)]
      by_cases hk : k = v
      · subst hk
        simp [Table.get, hf]
      · simp [Table.get, hk, ih]

theorem venueChoices_get (es : Table Event) (now look v : Nat) (hv : v < 32) :
    (Table.get (venueChoices es now look) v).getD ⟨none, none⟩ = ⟨nowEvent es v, nextEvent es now look v⟩ := by
  have heq : venueChoices es now look = (List.range Config.venueCount).filterMap fun v =>
      (if (nowEvent es v).isNone && (nextEvent es now look v).isNone then none
        else some (⟨nowEvent es v, nextEvent es now look v⟩ : VenueChoice)).map fun x => (v, x) := by
    unfold venueChoices
    congr 1
    funext v
    dsimp only
    split <;> rfl
  rw [heq, Table.get_filterMap, if_pos (show v ∈ List.range Config.venueCount from List.mem_range.mpr hv)]
  cases nowEvent es v with
  | none => cases nextEvent es now look v <;> rfl
  | some a => rfl

theorem upcoming_iff (t : State) (now : Nat) (e : Event) : upcoming now t.prog.lookahead e = true ↔ comesUp t now e := by
  simp [upcoming, comesUp, and_assoc]

/-! ## Programme venues (R90) -/

/-- The venue's event makes it a programme venue. -/
def venueQualifies (now look v : Nat) (e : Event) : Bool := e.venue == v && qualifies now look e

theorem venueQualifies_iff (t : State) (now v : Nat) (e : Event) :
    venueQualifies now t.prog.lookahead v e = true ↔ e.venue = v ∧ makesVenue t now e := by
  rw [venueQualifies, Bool.and_eq_true, beq_iff_eq]
  refine and_congr_right fun _ => ?_
  unfold qualifies makesVenue
  cases e.state <;> simp

/-- `b` is the earliest start of the events that `q` accepts. -/
def leastStart (q : Event → Bool) (es : Table Event) : Option Nat → Prop
  | none => ∀ x ∈ es, q x.2 = false
  | some b => (∃ x ∈ es, q x.2 = true ∧ x.2.start = b) ∧ ∀ x ∈ es, q x.2 = true → b ≤ x.2.start

theorem earliestStart_least (es : Table Event) (now look v : Nat) :
    leastStart (venueQualifies now look v) es (earliestStart es now look v) := by
  unfold earliestStart
  induction es using List.reverseRecOn with
  | nil => exact fun _ hx => absurd hx List.not_mem_nil
  | append_singleton es x ih =>
    have hmem : ∀ y ∈ es ++ [x], y ∈ es ∨ y = x := fun y hy => by simpa using hy
    rw [List.foldl_append, List.foldl_cons, List.foldl_nil]
    generalize es.foldl _ none = best at ih ⊢
    by_cases hq : venueQualifies now look v x.2 = true
    · rw [if_pos (show (x.2.venue == v && qualifies now look x.2) = true from hq)]
      cases best with
      | none =>
        refine ⟨⟨x, by simp, hq, rfl⟩, fun y hy hqy => ?_⟩
        rcases hmem y hy with hy | rfl
        · rw [ih y hy] at hqy
          exact absurd hqy Bool.false_ne_true
        · exact le_rfl
      | some b =>
        obtain ⟨⟨z, hz, hqz, hzb⟩, hmin⟩ := ih
        refine ⟨?_, fun y hy hqy => ?_⟩
        · rcases Nat.le_total b x.2.start with hle | hle
          · exact ⟨z, List.mem_append_left _ hz, hqz, by rw [hzb, Nat.min_eq_left hle]⟩
          · exact ⟨x, by simp, hq, (Nat.min_eq_right hle).symm⟩
        · rcases hmem y hy with hy | rfl
          · exact (Nat.min_le_left ..).trans (hmin y hy hqy)
          · exact Nat.min_le_right ..
    · rw [if_neg (show ¬ (x.2.venue == v && qualifies now look x.2) = true from hq)]
      have hno : ∀ y ∈ es ++ [x], venueQualifies now look v y.2 = true → y ∈ es := fun y hy hqy => by
        rcases hmem y hy with hy | rfl
        · exact hy
        · exact absurd hqy hq
      cases best with
      | none =>
        intro y hy
        rcases hmem y hy with hy | rfl
        · exact ih y hy
        · exact Bool.eq_false_of_not_eq_true hq
      | some b =>
        obtain ⟨⟨z, hz, hqz, hzb⟩, hmin⟩ := ih
        exact ⟨⟨z, List.mem_append_left _ hz, hqz, hzb⟩, fun y hy hqy => hmin y (hno y hy hqy) hqy⟩

/-- By start, and at equal starts by the venue's id. -/
def startsBefore (x y : Nat × Nat) : Prop := x.2 < y.2 ∨ (x.2 = y.2 ∧ x.1 < y.1)

theorem mem_insertByStart (x y : Nat × Nat) (l : List (Nat × Nat)) : y ∈ insertByStart x l ↔ y = x ∨ y ∈ l := by
  induction l with
  | nil => simp [insertByStart]
  | cons z l ih =>
    rw [insertByStart]
    split
    · simp
    · simp only [List.mem_cons, ih]
      tauto

theorem insertByStart_sorted {x : Nat × Nat} {l : List (Nat × Nat)} (hl : l.Pairwise startsBefore) (hx : ∀ y ∈ l, y.1 < x.1) :
    (insertByStart x l).Pairwise startsBefore := by
  induction l with
  | nil => exact List.pairwise_singleton _ _
  | cons z l ih =>
    obtain ⟨hz, hl'⟩ := List.pairwise_cons.mp hl
    rw [insertByStart]
    split
    · rename_i hlt
      refine List.pairwise_cons.mpr ⟨fun y hy => ?_, hl⟩
      rcases List.mem_cons.mp hy with rfl | hy
      · exact .inl hlt
      · rcases hz y hy with h | ⟨h, -⟩
        · exact .inl (hlt.trans h)
        · exact .inl (h ▸ hlt)
    · rename_i hge
      refine List.pairwise_cons.mpr ⟨fun y hy => ?_, ih hl' fun y hy => hx y (List.mem_cons_of_mem z hy)⟩
      rcases (mem_insertByStart x y l).mp hy with rfl | hy
      · have hzx := hx z List.mem_cons_self
        unfold startsBefore
        omega
      · exact hz y hy

/-- The programme venues with their starts, in their order. -/
def venueStarts (es : Table Event) (now look : Nat) (k : Nat) : List (Nat × Nat) :=
  (List.range k).foldl
    (fun acc v => match earliestStart es now look v with
      | some t => insertByStart (v, t) acc
      | none => acc)
    []

theorem programmeVenues_eq (es : Table Event) (now look : Nat) :
    programmeVenues es now look = (venueStarts es now look 32).map (·.1) := rfl

theorem venueStarts_succ (es : Table Event) (now look k : Nat) : venueStarts es now look (k + 1) =
    match earliestStart es now look k with
    | some t => insertByStart (k, t) (venueStarts es now look k)
    | none => venueStarts es now look k := by
  unfold venueStarts
  rw [List.range_succ, List.foldl_append]
  rfl

theorem mem_venueStarts (es : Table Event) (now look k : Nat) (x : Nat × Nat) :
    x ∈ venueStarts es now look k ↔ x.1 < k ∧ earliestStart es now look x.1 = some x.2 := by
  induction k with
  | zero => simp [venueStarts]
  | succ k ih =>
    rw [venueStarts_succ]
    cases hk : earliestStart es now look k with
    | none =>
      dsimp only
      rw [ih]
      constructor
      · rintro ⟨hlt, he⟩
        exact ⟨Nat.lt_succ_of_lt hlt, he⟩
      · rintro ⟨hlt, he⟩
        rcases Nat.lt_succ_iff_lt_or_eq.mp hlt with h | h
        · exact ⟨h, he⟩
        · rw [h, hk] at he
          cases he
    | some t =>
      dsimp only
      rw [mem_insertByStart, ih]
      constructor
      · rintro (rfl | ⟨hlt, he⟩)
        · exact ⟨Nat.lt_succ_self k, hk⟩
        · exact ⟨Nat.lt_succ_of_lt hlt, he⟩
      · rintro ⟨hlt, he⟩
        rcases Nat.lt_succ_iff_lt_or_eq.mp hlt with h | h
        · exact .inr ⟨h, he⟩
        · rw [h, hk] at he
          exact .inl (Prod.ext h (Option.some.inj he).symm)

theorem venueStarts_sorted (es : Table Event) (now look k : Nat) : (venueStarts es now look k).Pairwise startsBefore := by
  induction k with
  | zero => exact List.Pairwise.nil
  | succ k ih =>
    rw [venueStarts_succ]
    cases earliestStart es now look k with
    | none => exact ih
    | some t => exact insertByStart_sorted ih fun y hy => ((mem_venueStarts es now look k y).mp hy).1

section
variable (t : State) (now : Nat)

theorem mem_programmeVenues (v : Nat) : v ∈ programmeVenues t.prog.events now t.prog.lookahead ↔
    v < 32 ∧ ∃ x ∈ t.prog.events, x.2.venue = v ∧ makesVenue t now x.2 := by
  have hleast := earliestStart_least t.prog.events now t.prog.lookahead v
  rw [programmeVenues_eq, List.mem_map]
  constructor
  · rintro ⟨x, hx, rfl⟩
    obtain ⟨hlt, he⟩ := (mem_venueStarts ..).mp hx
    rw [he] at hleast
    obtain ⟨⟨y, hy, hq, -⟩, -⟩ := hleast
    exact ⟨hlt, y, hy, (venueQualifies_iff t now x.1 y.2).mp hq⟩
  · rintro ⟨hlt, x, hx, hv⟩
    cases he : earliestStart t.prog.events now t.prog.lookahead v with
    | none =>
      rw [he] at hleast
      exact absurd ((venueQualifies_iff t now v x.2).mpr hv) (by rw [hleast x hx]; exact Bool.false_ne_true)
    | some b => exact ⟨(v, b), (mem_venueStarts ..).mpr ⟨hlt, he⟩, rfl⟩

theorem programmeVenues_nodup : (programmeVenues t.prog.events now t.prog.lookahead).Nodup := by
  rw [programmeVenues_eq]
  refine List.pairwise_map.mpr ((venueStarts_sorted ..).imp_of_mem fun {x y} hx hy hb he => ?_)
  obtain ⟨-, hsx⟩ := (mem_venueStarts ..).mp hx
  obtain ⟨-, hsy⟩ := (mem_venueStarts ..).mp hy
  rw [he, hsy] at hsx
  have hstart := Option.some.inj hsx
  unfold startsBefore at hb
  omega

theorem programmeVenues_sorted : (programmeVenues t.prog.events now t.prog.lookahead).Pairwise fun v w =>
    ∃ x ∈ t.prog.events, x.2.venue = v ∧ makesVenue t now x.2 ∧
      ∀ y ∈ t.prog.events, y.2.venue = w → makesVenue t now y.2 → x.2.start < y.2.start ∨ (x.2.start = y.2.start ∧ v < w) := by
  rw [programmeVenues_eq]
  refine List.pairwise_map.mpr ((venueStarts_sorted ..).imp_of_mem fun {a b} ha hb hab => ?_)
  have hla := earliestStart_least t.prog.events now t.prog.lookahead a.1
  have hlb := earliestStart_least t.prog.events now t.prog.lookahead b.1
  rw [((mem_venueStarts ..).mp ha).2] at hla
  rw [((mem_venueStarts ..).mp hb).2] at hlb
  obtain ⟨⟨x, hx, hq, hstart⟩, -⟩ := hla
  obtain ⟨hxv, hxm⟩ := (venueQualifies_iff t now a.1 x.2).mp hq
  refine ⟨x, hx, hxv, hxm, fun y hy hyv hym => ?_⟩
  have hle := hlb.2 y hy ((venueQualifies_iff t now b.1 y.2).mpr ⟨hyv, hym⟩)
  unfold startsBefore at hab
  omega

end

/-! ## The fresh choice -/

/-- The three choices that a state holds are those of its present now. -/
structure Chosen (t : State) : Prop where
  venues : t.prog.venues = t.chosenVenues
  onBoard : t.prog.onBoard = t.chosenOnBoard
  programme : t.prog.programme = t.chosenProgramme

theorem Chosen.fresh {t : State} (h : Chosen t) (hw : Table.wf t.prog.events = true) : selectionFresh t := by
  unfold selectionFresh
  cases hn : t.now with
  | none =>
    have hv := h.venues
    have ho := h.onBoard
    have hp := h.programme
    rw [State.chosenVenues, hn] at hv
    rw [State.chosenOnBoard, hn] at ho
    rw [State.chosenProgramme, hn] at hp
    exact ⟨fun v => by rw [State.choice, hv]; rfl, ho, hp⟩
  | some n =>
    have hv := h.venues
    have ho := h.onBoard
    have hp := h.programme
    rw [State.chosenVenues, hn] at hv
    rw [State.chosenOnBoard, hn] at ho
    rw [State.chosenProgramme, hn] at hp
    dsimp only at hv ho hp
    refine ⟨fun v hlt => ?_, ?_, ?_⟩
    · rw [State.choice, hv, venueChoices_get _ _ _ _ hlt]
      refine ⟨earliest_isEarliest (q := fun e => e.venue == v && e.state == .running) (fun e => by simp) hw,
        earliest_isEarliest (q := fun e => e.venue == v && upcoming n t.prog.lookahead e) (fun e => ?_) hw⟩
      rw [Bool.and_eq_true, beq_iff_eq, upcoming_iff]
    · rw [ho]
      refine earliest_isEarliest
        (q := fun e => Table.has t.activePlan.venues e.venue && upcoming n t.prog.lookahead e) (fun e => ?_) hw
      rw [Bool.and_eq_true, upcoming_iff]
    · rw [hp]
      exact ⟨programmeVenues_nodup t n, mem_programmeVenues t n, programmeVenues_sorted t n⟩

end Sys2Proof.Machine
end

section
/-! PROOFS. A computation that runs, and what the fresh choice of the programme hands on (R53, R57 to R59, R89, R90). -/

namespace Sys2Proof.Machine

/-! ## Composed records stay composed -/

theorem mem_keysWhere_of {s : State} {p : Nat → Display → Bool} {k : Nat} (hf : (s.display k).state ≠ .free)
    (hp : p k (s.display k) = true) : k ∈ s.keysWhere p := by
  cases hd : Table.get s.dir k with
  | none => exact absurd (by rw [State.display_of_get hd]; rfl) hf
  | some d =>
    have hdisplay : s.display k = d := by rw [State.display, hd]; rfl
    rw [hdisplay] at hf hp
    rw [State.keysWhere, Table.keep_eq_filter]
    refine List.mem_map.mpr ⟨(k, d), List.mem_filter.mpr ⟨Table.mem_of_get hd, ?_⟩, rfl⟩
    dsimp only
    rw [Bool.and_eq_true, bne_iff_ne]
    exact ⟨hf, hp⟩

section
variable {s : State} {k : Nat}

theorem isComposed.composeRecord (h : isComposed s k) (j : Nat) (c : Cause) : isComposed (s.composeRecord j c).1 k := by
  by_cases hj : k = j
  · subst hj
    by_cases hf : (s.display k).state = .free
    · rw [composeRecord_free s k c hf]
      exact h
    · exact composeRecord_isComposed hf
  · have hd : (s.composeRecord j c).1.display k = s.display k := composeRecord_display_other s j c hj
    exact h.congr (composeRecord_composed s j c) (by rw [hd]) (by rw [hd]) fun hr => by rw [hd]; exact hr

theorem isComposed.composeKeys (h : isComposed s k) (c : Nat → Cause) (ks : List Nat) : isComposed (s.composeKeys c ks).1 k := by
  induction ks generalizing s with
  | nil => exact h
  | cons j ks ih => exact ih (h.composeRecord j (c j))

theorem isComposed.composeWhere (h : isComposed s k) (p : Nat → Display → Bool) : isComposed (s.composeWhere p) k :=
  h.composeKeys _ _

theorem composeKeys_isComposed (c : Nat → Cause) {ks : List Nat} (hk : k ∈ ks) (hf : (s.display k).state ≠ .free) :
    isComposed (s.composeKeys c ks).1 k := by
  induction ks generalizing s with
  | nil => cases hk
  | cons j ks ih =>
    rcases List.mem_cons.mp hk with rfl | hk
    · exact (composeRecord_isComposed hf).composeKeys c ks
    · exact ih hk (by rw [(composeRecord_composed s j (c j)).state_eq]; exact hf)

/-- A hand-off composes the records it names, whatever the order of the directory. -/
theorem composeWhere_isComposed {p : Nat → Display → Bool} (hf : (s.display k).state ≠ .free) (hp : p k (s.display k) = true) :
    isComposed (s.composeWhere p) k := composeKeys_isComposed _ (mem_keysWhere_of hf hp) hf

theorem standing_ne_free {d : Display} {x : Nat × Placement} (h : s.standing d = some x) : d.state ≠ .free := by
  intro hf
  rw [State.standing, hf] at h
  cases h

theorem composePlacements_isComposed {q : Nat → Placement → Bool} {p : Nat} {pl : Placement}
    (hs : s.standing (s.display k) = some (p, pl)) (hq : q p pl = true) : isComposed (s.composePlacements q) k :=
  composeWhere_isComposed (standing_ne_free hs) (by rw [hs]; exact hq)

end

theorem draft_composed {s t : State} (h : Composed s t) (k : Nat) : t.draft (t.display k) = s.draft (s.display k) := by
  have hd : t.draft (t.display k) = t.draft (s.display k) := by
    rw [(h.cards k).1]
    rfl
  rw [hd, h.rest]
  rfl

theorem standing_composed {s t : State} (h : Composed s t) (k : Nat) : t.standing (t.display k) = s.standing (s.display k) := by
  rw [standing_congr h, (h.cards k).1]
  rfl

theorem showsRoutes_composed {s t : State} (h : Composed s t) (k : Nat) :
    showsRoutes t (t.display k) = showsRoutes s (s.display k) := by
  unfold showsRoutes
  rw [draft_composed h, standing_composed h]

theorem showsRoutes_ne_free {s : State} {d : Display} (h : showsRoutes s d = true) : d.state ≠ .free := by
  obtain ⟨x, hx⟩ := Option.isSome_iff_exists.mp (Bool.and_eq_true_iff.mp h).1
  exact standing_ne_free hx

/-! ## The stranded list does not reach the cards -/

section
variable (s : State)

theorem rebuildStranded_rest : ∃ m p, s.rebuildStranded = { s
    with muster := { s.muster with stranded := m, strandedGen := p }, ports := s.rebuildStranded.ports } := by
  cases hg : s.route.published with
  | none =>
    refine ⟨s.muster.stranded, s.muster.strandedGen, ?_⟩
    rw [State.rebuildStranded, hg]
  | some g =>
    rw [rebuildStranded_eq s hg]
    split
    · refine ⟨s.strandedList g, g.number, ?_⟩
      split <;> rfl
    · exact ⟨s.muster.stranded, s.muster.strandedGen, rfl⟩

theorem rebuildStranded_draft (d : Display) : s.rebuildStranded.draft d = s.draft d := by
  obtain ⟨m, p, h⟩ := rebuildStranded_rest s
  rw [h]
  rfl

theorem rebuildStranded_isComposed {k : Nat} : isComposed s.rebuildStranded k ↔ isComposed s k := by
  obtain ⟨m, p, h⟩ := rebuildStranded_rest s
  rw [h]
  exact isComposed_congr (fun _ => rfl) rfl rfl

theorem rebuildStranded_showsRoutes (k : Nat) :
    showsRoutes s.rebuildStranded (s.rebuildStranded.display k) = showsRoutes s (s.display k) := by
  obtain ⟨m, p, h⟩ := rebuildStranded_rest s
  rw [h]
  rfl

/-- The stranded list built from a generation without destinations is empty (R57, R118). -/
theorem rebuildStranded_emptied {g : Generation} (h : s.route.published = some g) (hd : g.dests = []) : s.rebuildStranded =
    if g.profile = .safety then { s with muster := { s.muster with stranded := [], strandedGen := g.number } } else s := by
  rw [rebuildStranded_eq s h, strandedList_nil s g hd]
  exact if_congr Iff.rfl (if_neg (Nat.not_lt_zero _)) rfl

end

/-! ## A computation that runs -/

theorem computationStarted.congr {a : ActivePlan} {r : RouteEngine} {s t : State} (h : computationStarted a r s)
    (hr : t.route = s.route) (hc : t.cond = s.cond) : computationStarted a r t := by
  have hsn : t.snapshot a = s.snapshot a := by rw [State.snapshot, State.snapshot, hr, hc]
  rw [computationStarted, hr, hsn]
  exact h

theorem startComputation_dests (s : State) : s.startComputation.route.dests = s.route.dests := by
  unfold State.startComputation
  split
  · rfl
  · dsimp only
    split <;> rfl

theorem startComputation_profile (s : State) : s.startComputation.route.profile = s.route.profile := by
  unfold State.startComputation
  split
  · rfl
  · dsimp only
    split <;> rfl

/-- The stranded list after a computation that started and was handed to the stranded list alone (R57, R118). -/
theorem startComputation_strands {s u : State} {a : ActivePlan} (h : s.plan.active = some a) (hm : u.muster = s.muster)
    (hu : u.route = s.startComputation.route) :
    strandedFollows True s (if s.emptyRun then u.rebuildStranded else u) := by
  have hprofile : u.route.profile = s.route.profile := hu ▸ startComputation_profile s
  have hdests : u.route.dests = s.route.dests := hu ▸ startComputation_dests s
  by_cases hd : s.route.dests = []
  · obtain ⟨g, hg, hnumber, hp, -, hgd⟩ := startComputation_publishes s h hd
    rw [if_pos (emptyRun_eq_true.mpr ⟨by rw [h]; rfl, hd⟩), rebuildStranded_emptied u (hu ▸ hg) hgd]
    by_cases hs : g.profile = .safety
    · rw [if_pos hs]
      refine ⟨fun _ _ _ => ⟨rfl, by rw [hnumber, ← hu]⟩, fun hn => absurd ⟨trivial, hdests.trans hd, ?_⟩ hn⟩
      exact hprofile.trans (hp ▸ hs)
    · rw [if_neg hs]
      refine ⟨fun _ _ hps => absurd (hp.trans (hprofile.symm.trans hps)) hs, fun _ => by rw [hm]; exact ⟨rfl, rfl⟩⟩
  · rw [if_neg fun he => hd (emptyRun_eq_true.mp he).2]
    exact ⟨fun _ hdn => absurd (hdests.symm.trans hdn) hd, fun _ => by rw [hm]; exact ⟨rfl, rfl⟩⟩

theorem runComputation_eq (s : State) : s.runComputation =
    if s.emptyRun then (if s.emptyRun then s.startComputation.composeRoutes else s.startComputation).rebuildStranded
    else if s.emptyRun then s.startComputation.composeRoutes else s.startComputation := by
  unfold State.runComputation State.handPublication
  split <;> rfl

section
variable {s : State} {a : ActivePlan} (h : s.plan.active = some a)
include h

theorem runComputation_started : computationStarted a s.route s.runComputation := by
  have hstarted := startComputation_started s h
  unfold State.runComputation
  split
  · have hsame := handPublication_same s.startComputation
    exact hstarted.congr (hsame.keeps .route (by decide)) (hsame.keeps .cond (by decide))
  · exact hstarted

theorem runComputation_strands : strandedFollows True s s.runComputation := by
  rw [runComputation_eq]
  have hc := composeRoutes_composed s.startComputation
  refine startComputation_strands h ?_ ?_
  · split
    · exact hc.muster_eq.trans ((startComputation_same s).keeps .muster (by decide))
    · exact (startComputation_same s).keeps .muster (by decide)
  · split
    · exact hc.route_eq
    · rfl

/-- A computation complete at once reaches every card that shows routes (R58, R138). -/
theorem runComputation_reaches (hd : s.route.dests = []) {k : Nat}
    (hk : showsRoutes s.runComputation (s.runComputation.display k) = true) : isComposed s.runComputation k := by
  have hrun : s.runComputation = s.startComputation.composeRoutes.rebuildStranded :=
    if_pos (emptyRun_eq_true.mpr ⟨by rw [h]; rfl, hd⟩)
  rw [hrun] at hk ⊢
  rw [rebuildStranded_isComposed]
  rw [rebuildStranded_showsRoutes, showsRoutes_composed (composeRoutes_composed s.startComputation)] at hk
  rw [composeRoutes_eq]
  exact composeWhere_isComposed (showsRoutes_ne_free hk) hk

end

end Sys2Proof.Machine
end

section
/-! PROOFS. What the fresh choice of the programme hands on (R53, R59, R89, R90). -/

namespace Sys2Proof.Machine

/-! ## The destination list rebuilt (R53) -/

theorem strandedFollows.of_not {c : Prop} {s t : State} (hc : ¬ c) (hm : t.muster = s.muster) : strandedFollows c s t :=
  ⟨fun h => absurd h hc, fun _ => by rw [hm]; exact ⟨rfl, rfl⟩⟩

theorem strandedFollows.of_true {c : Prop} {s t : State} (hc : c) (h : strandedFollows True s t) : strandedFollows c s t := by
  rw [eq_true hc]
  exact h

theorem strandedFollows.congr {c : Prop} {s t u : State} (h : strandedFollows c s t) (hr : u.route = t.route)
    (hm : u.muster = t.muster) : strandedFollows c s u := by
  unfold strandedFollows
  rw [hr, hm]
  exact h

theorem runComputation_dests (s : State) : s.runComputation.route.dests = s.route.dests := by
  unfold State.runComputation
  split
  · rw [(handPublication_same _).keeps .route (by decide)]
    exact startComputation_dests s
  · exact startComputation_dests s

/-- What leaves all of the muster controller but the stranded list. -/
theorem Keeps.muster_stranded {fs : List Facet} {s t : State} (h : Keeps fs s t)
    (hfs : ∀ f ∈ [Facet.muster, .cabins, .zones, .watch], f ∉ fs) :
    t.muster = { s.muster with stranded := t.muster.stranded, strandedGen := t.muster.strandedGen } := by
  have hmuster : t.muster = _ := h.keeps .muster (hfs _ (by decide))
  obtain ⟨hcabins, htally, hserial⟩ : _ ∧ _ ∧ _ := h.keeps .cabins (hfs _ (by decide))
  have hzones : t.muster.zoneOverrides = _ := h.keeps .zones (hfs _ (by decide))
  have hwatch : t.muster.watch = _ := h.keeps .watch (hfs _ (by decide))
  rw [hcabins, htally, hserial, hzones, hwatch] at hmuster
  exact hmuster

theorem rebuildDests_handed (s : State) : destsHanded s s.rebuildDests := by
  by_cases hsame : sameDests s.destList s.route.dests = true
  · rw [State.rebuildDests, if_pos hsame]
    have hno : ¬ sameDests s.destList s.route.dests = false := by rw [hsame]; nofun
    exact ⟨fun _ => rfl, fun h => absurd h hno, .of_not (fun h => hno h.1) rfl, fun h => absurd h.1 hno⟩
  have hnew := Bool.eq_false_of_not_eq_true hsame
  rw [State.rebuildDests, if_neg hsame]
  let r : State := { s with route := { s.route with dests := s.destList } }
  change destsHanded s r.trigger
  have hplan : r.trigger.plan = s.plan := (trigger_same r).keeps .plan (by decide)
  have hprog : r.trigger.prog = s.prog := (trigger_same r).keeps .prog (by decide)
  have hprofile : r.trigger.route.profile = s.route.profile := (trigger_keeps r).keeps .profile (by decide)
  have hlist : r.trigger.destList = s.destList := by
    rw [State.destList, State.destList, hplan, hprog, hprofile]
  unfold destsHanded
  rw [hlist]
  refine ⟨fun h => absurd h hsame, fun _ => ?_, ?_⟩
  · cases ha : s.plan.active with
    | none => rw [trigger_planless r ha]
    | some a =>
      cases hi : s.route.activity with
      | idle =>
        rw [trigger_idle r ha hi]
        exact runComputation_started (s := r) ha
      | computing sn =>
        rw [trigger_computing r ha hi]
        exact congrArg (fun x => ({ s.route with dests := s.destList, activity := x, pending := true } : RouteEngine)) hi
  · cases ha : s.plan.active with
    | none =>
      have hno : ¬ (sameDests s.destList s.route.dests = false ∧ (none : Option ActivePlan).isSome = true ∧
        s.route.activity = .idle) :=
        fun h => Bool.false_ne_true h.2.1
      rw [trigger_planless r ha]
      exact ⟨.of_not hno rfl, fun h => absurd h hno⟩
    | some a =>
      cases hi : s.route.activity with
      | idle =>
        rw [trigger_idle r ha hi]
        exact ⟨.of_true ⟨hnew, rfl, rfl⟩ (runComputation_strands (s := r) ha), fun _ hd k hk =>
          runComputation_reaches (s := r) ha (by
            exact (runComputation_dests r).symm.trans hd) hk⟩
      | computing sn =>
        rw [trigger_computing r ha hi]
        exact ⟨.of_not (fun h => nomatch h.2.2) rfl, fun h => nomatch h.2.2⟩

/-- Later compositions of other hand-offs leave what the destination list's rebuilding gave. -/
theorem destsHanded.composed {s u : State} (h : destsHanded s u) (p : Nat → Placement → Bool) :
    destsHanded s (u.composePlacements p) := by
  have hc := composePlacements_composed u p
  have hlist : (u.composePlacements p).destList = u.destList := by
    rw [State.destList, State.destList, hc.plan_eq, hc.prog_eq, hc.route_eq]
  obtain ⟨hsame, hnew, hstranded, hshown⟩ := h
  unfold destsHanded
  rw [hlist, hc.route_eq]
  refine ⟨hsame, fun hd => ?_, hstranded.congr hc.route_eq hc.muster_eq, fun hs hd k hk => ?_⟩
  · have hm := hnew hd
    split at hm
    · exact hm
    · exact hm.congr hc.route_eq hc.cond_eq
    · exact hm
  · rw [showsRoutes_composed hc] at hk
    exact (hshown hs hd k hk).composeWhere _

/-! ## The fresh choice (R89, R90) -/

section
variable (s : State)

/-- The state with the choices of its present now. -/
def State.withChoice (s : State) : State :=
  { s with prog := { s.prog with venues := s.chosenVenues, onBoard := s.chosenOnBoard, programme := s.chosenProgramme } }

/-- The state when the route engine has the new programme venue list. -/
def State.routedChoice (s : State) : State :=
  if s.chosenProgramme = s.prog.programme then s.withChoice else s.withChoice.rebuildDests

/-- The records that the fresh choice composes. -/
def choiceNames (s : State) (old : Table Event) (pl : Placement) : Bool :=
  match pl.role with
  | .venue v => ((List.range Config.venueCount).filter fun v =>
      venueHanded old s.prog.events (s.choice v) (s.withChoice.choice v)).contains v
  | .corridor _ => itemHanded old s.prog.events s.prog.onBoard s.chosenOnBoard
  | .door _ => false

theorem chooseAfresh_eq (old : Table Event) :
    s.chooseAfresh old = s.routedChoice.composePlacements fun _ pl => choiceNames s old pl := by
  have hrouted : s.routedChoice = ({ s with prog := { s.prog
    with venues := s.chosenVenues, onBoard := s.chosenOnBoard } }).handProgramme
      s.chosenProgramme := by
    unfold State.routedChoice State.handProgramme
    by_cases h : s.chosenProgramme = s.prog.programme
    · rw [if_pos h]
      unfold State.withChoice
      rw [h, if_pos rfl]
    · rw [if_neg h]
      exact (if_neg h).symm
  rw [hrouted]
  rfl

theorem routedChoice_same : SameBut [.route, .muster, .dir, .segs] s.withChoice s.routedChoice :=
  SameBut.ite (SameBut.refl _ _) (rebuildDests_same _)

theorem chooseAfresh_prog (old : Table Event) : (s.chooseAfresh old).prog = s.withChoice.prog := by
  rw [chooseAfresh_eq, (composePlacements_composed ..).prog_eq]
  exact (routedChoice_same s).keeps .prog (by decide)

theorem chooseAfresh_plan (old : Table Event) : (s.chooseAfresh old).plan = s.plan := by
  rw [chooseAfresh_eq, (composePlacements_composed ..).plan_eq]
  exact (routedChoice_same s).keeps .plan (by decide)

theorem chooseAfresh_chosen (old : Table Event) : Chosen (s.chooseAfresh old) := by
  have hprog := chooseAfresh_prog s old
  have hplan := chooseAfresh_plan s old
  have hnow : (s.chooseAfresh old).now = s.now := by
    rw [State.now, hprog]
    rfl
  refine ⟨?_, ?_, ?_⟩
  · rw [State.chosenVenues, hnow, hprog]
    rfl
  · rw [State.chosenOnBoard, hnow, State.activePlan, hplan, hprog]
    rfl
  · rw [State.chosenProgramme, hnow, hprog]
    rfl

theorem standing_routedChoice (k : Nat) : s.routedChoice.standing (s.routedChoice.display k) = s.standing (s.display k) := by
  have hplan : s.routedChoice.plan = s.plan := (routedChoice_same s).keeps .plan (by decide)
  have hcards : cardsOnly (s.display k) (s.routedChoice.display k) := by
    have hkeeps : Keeps [.routes, .stranded, .dir, .segs] s.withChoice s.routedChoice :=
      Keeps.ite (Keeps.refl _ _) (rebuildDests_keeps _)
    exact (hkeeps.recomposed (by decide)).cards k
  rw [hcards.1, State.standing, State.activePlan, hplan]
  rfl

/-- The records a fresh choice names are composed. -/
theorem chooseAfresh_isComposed (old : Table Event) {k p : Nat} {pl : Placement} (hs : s.standing (s.display k) = some (p, pl))
    (hn : choiceNames s old pl = true) : isComposed (s.chooseAfresh old) k := by
  rw [chooseAfresh_eq]
  exact composePlacements_isComposed ((standing_routedChoice s k).trans hs) hn

theorem choice_withChoice (v : Nat) (old : Table Event) : (s.chooseAfresh old).choice v = s.withChoice.choice v := by
  rw [State.choice, State.choice, chooseAfresh_prog]

theorem choiceNames_venue {old : Table Event} {pl : Placement} {v : Nat} (hr : pl.role = .venue v) (hv : v < 32)
    (h : venueHanded old s.prog.events (s.choice v) (s.withChoice.choice v) = true) : choiceNames s old pl = true := by
  unfold choiceNames
  rw [hr]
  dsimp only
  rw [List.contains_iff_mem, List.mem_filter]
  exact ⟨List.mem_range.mpr hv, h⟩

theorem itemHanded_of_ne {old new : Table Event} {a b : Option Nat} (h : a ≠ b) : itemHanded old new a b = true := by
  rw [itemHanded, bne_iff_ne.mpr h, Bool.true_or]

theorem venueHanded_of_ne {old new : Table Event} {a b : VenueChoice} (h : a ≠ b) : venueHanded old new a b = true := by
  unfold venueHanded
  by_cases hn : a.now = b.now
  · have hx : a.next ≠ b.next := fun hx => h (by cases a; cases b; simp_all)
    rw [itemHanded_of_ne hx, Bool.or_true]
  · rw [itemHanded_of_ne hn, Bool.true_or]

theorem chooseAfresh_handed (hw : Table.wf s.prog.events = true) (old : Table Event) : choiceHanded s (s.chooseAfresh old) := by
  have hkeeps := chooseAfresh_keeps s old
  have hprogramme : (s.chooseAfresh old).prog.programme = s.chosenProgramme := by rw [chooseAfresh_prog]; rfl
  refine ⟨(chooseAfresh_chosen s old).fresh (by rw [chooseAfresh_prog]; exact hw), (hkeeps.recomposed (by decide)).only,
    fun hp => ?_, fun hp => ?_, ?_, fun k p pl hs => ⟨fun v hr hv hne => ?_, fun vs hr hne => ?_⟩⟩
  · rw [hprogramme] at hp
    have hc := composePlacements_composed s.routedChoice fun _ pl => choiceNames s old pl
    have hrouted : s.routedChoice = s.withChoice := if_pos hp
    rw [chooseAfresh_eq, hc.route_eq, hc.muster_eq, hrouted]
    exact ⟨rfl, rfl⟩
  · rw [hprogramme] at hp
    rw [chooseAfresh_eq]
    refine destsHanded.composed ?_ _
    rw [show s.routedChoice = s.withChoice.rebuildDests from if_neg hp]
    exact rebuildDests_handed s.withChoice
  · exact hkeeps.muster_stranded (by decide)
  · rw [choice_withChoice] at hne
    exact chooseAfresh_isComposed s old hs (choiceNames_venue s hr hv (venueHanded_of_ne hne))
  · rw [chooseAfresh_prog] at hne
    refine chooseAfresh_isComposed s old hs ?_
    unfold choiceNames
    rw [hr]
    exact itemHanded_of_ne hne

end

end Sys2Proof.Machine
end

section
/-! PROOFS. Events, look-ahead, offset and languages (R72, R75, R77 to R80, R85, R86). -/

namespace Sys2Proof.Machine

/-! ## Events stored (R77 to R80, R89) -/

/-- The event table is replaced by `es` and the choice made afresh. -/
def State.withEvents (s : State) (es : Table Event) : State := { s with prog := { s.prog with events := es } }

theorem namedChanged_of {old new : Table Event} {id : Nat} {x y : Event} (hx : Table.get old id = some x)
    (hy : Table.get new id = some y) (h : x.titles ≠ y.titles ∨ x.start ≠ y.start ∨ x.stop ≠ y.stop ∨ x.moved ≠ y.moved) :
    namedChanged old new (some id) = true := by
  unfold namedChanged
  dsimp only
  rw [hx, hy]
  simp only [Bool.or_eq_true, bne_iff_ne, ne_eq, or_assoc]
  exact h

theorem itemHanded_of_changed {old new : Table Event} {a : Option Nat} {id : Nat} (h : namedChanged old new (some id) = true) :
    itemHanded old new a (some id) = true := by
  rw [itemHanded, h, Bool.or_true]

theorem withEvents_stored {s : State} {es : Table Event} {id : Nat} {e : Option Event} (hw : Table.wf es = true)
    (hget : ∀ i, Table.get es i = if i = id then e else Table.get s.prog.events i) :
    eventStored id e s ((s.withEvents es).chooseAfresh s.prog.events) := by
  have hprog := chooseAfresh_prog (s.withEvents es) s.prog.events
  refine ⟨fun i => by rw [hprog]; exact hget i, by rw [hprog]; rfl, chooseAfresh_handed (s.withEvents es) hw _,
    (withProg_same ..).mono (by decide) |>.trans ((chooseAfresh_same (s.withEvents es) _).mono (by decide)), ?_⟩
  intro x y hx hy hchanged k p pl hs
  have hnamed : namedChanged s.prog.events (s.withEvents es).prog.events (some id) = true :=
    namedChanged_of hx ((hget id).trans ((if_pos rfl).trans hy)) hchanged
  refine ⟨fun v hr hv hid => ?_, fun vs hr hid => ?_⟩
  · refine chooseAfresh_isComposed (s.withEvents es) _ hs (choiceNames_venue _ hr hv ?_)
    rw [choice_withChoice] at hid
    unfold venueHanded
    rcases hid with hid | hid
    · rw [hid, itemHanded_of_changed hnamed, Bool.true_or]
    · rw [hid, itemHanded_of_changed hnamed, Bool.or_true]
  · rw [hprog] at hid
    refine chooseAfresh_isComposed (s.withEvents es) _ hs ?_
    unfold choiceNames
    rw [hr]
    dsimp only
    rw [show (s.withEvents es).chosenOnBoard = some id from hid]
    exact itemHanded_of_changed hnamed

section
variable {s : State} (hw : Table.wf s.prog.events = true)
include hw

theorem storeEvent_stored (id : Nat) (e : Event) : eventStored id (some e) s (s.storeEvent id e) :=
  withEvents_stored (Table.wf_put id e hw) fun i => Table.get_put s.prog.events id i e

theorem dropEvent_stored (id : Nat) : eventStored id none s (s.dropEvent id) :=
  withEvents_stored (Table.wf_del id hw) fun i => Table.get_del s.prog.events id i

end

theorem stepEvent_eq (n : Nat) (e : Event) : stepEvent n e = { e with state := evolvedState n e } := by
  obtain ⟨venue, start, stop, category, titles, state, moved⟩ := e
  unfold stepEvent evolvedState
  cases state <;> dsimp only
  · split
    · rfl
    · split <;> rfl
  · split <;> rfl

theorem judge_eq (s : State) (e : Event) : s.judge e = judged s.now e := by
  unfold State.judge judged
  cases s.now with
  | none => rfl
  | some n => exact stepEvent_eq n e

theorem timesFit_iff (a b : Nat) : timesFit a b = true ↔ a < b ∧ b ≤ a + 1440 := by
  rw [timesFit, Bool.and_eq_true, decide_eq_true_iff, decide_eq_true_iff]
  omega

theorem timesFit_false {a b : Nat} (h : ¬ (a < b ∧ b ≤ a + 1440)) : timesFit a b = false :=
  Bool.eq_false_of_not_eq_true fun hf => h ((timesFit_iff a b).mp hf)

/-! ## Handlers -/

section
variable {s : State}

theorem eventAdd_fits {b : EventAddBody} (h : b.start < b.stop ∧ b.stop ≤ b.start + 1440) : eventAdd b s =
    if Table.has s.prog.events b.id then .answer s (.refuse .exists)
    else if 128 ≤ s.prog.events.length then .answer s (.refuse .full)
    else .answer (s.storeEvent b.id (judged s.now
      { venue := b.venue, start := b.start, stop := b.stop, category := b.category, titles := b.titles, state := .scheduled,
        moved := false })) .ok := by
  rw [eventAdd, (timesFit_iff ..).mpr h, ← judge_eq]
  rfl

theorem eventAdd_unfit {b : EventAddBody} (h : ¬ (b.start < b.stop ∧ b.stop ≤ b.start + 1440)) :
    eventAdd b s = .answer s (.bad .times) := by
  rw [eventAdd, timesFit_false h]
  rfl

variable {b : EventModifyBody} {e : Event}

theorem eventModify_finished (hg : Table.get s.prog.events b.id = some e)
    (h : e.state = .ended ∨ e.state = .cancelled ∨ (e.state = .running ∧ (b.venue.isSome ∨ b.start.isSome))) :
    eventModify b s = .answer s (.refuse .state) := by
  rw [eventModify, hg]
  dsimp only
  rcases h with h | h | ⟨h, hb⟩
  · rw [h]
  · rw [h]
  · rw [h]
    exact if_pos (by rw [Bool.or_eq_true]; exact hb)

/-- The event that a modify stores, before it is judged (R78, R79). -/
def modifiedEvent (b : EventModifyBody) (e : Event) : Event :=
  { modified b e with moved := e.moved || (e.state == .scheduled &&
      (e.venue != (modified b e).venue || e.start != (modified b e).start || e.stop != (modified b e).stop)) }

theorem modifiedEvent_running (h : e.state = .running) : modifiedEvent b e = modified b e := by
  unfold modifiedEvent
  rw [h]
  simp [modified]

theorem modifiedEvent_scheduled (h : e.state = .scheduled) :
    modifiedEvent b e = { modified b e with moved := movedAfter e (modified b e) } := by
  unfold modifiedEvent movedAfter
  rw [h]
  simp only [beq_self_eq_true, Bool.true_and, Bool.or_assoc]

theorem eventModify_open (hg : Table.get s.prog.events b.id = some e)
    (h : e.state = .scheduled ∨ (e.state = .running ∧ b.venue = none ∧ b.start = none)) :
    eventModify b s = if !timesFit (modified b e).start (modified b e).stop then .answer s (.bad .times)
      else .answer (s.storeEvent b.id (judged s.now (modifiedEvent b e))) .ok := by
  rw [eventModify, hg, ← judge_eq]
  dsimp only
  rcases h with h | ⟨h, hv, hst⟩
  · rw [modifiedEvent_scheduled h, h]
  · rw [modifiedEvent_running h, h]
    dsimp only
    rw [hv, hst]
    rfl

theorem eventCancel_finished {id : Nat} (hg : Table.get s.prog.events id = some e) (h : e.state = .ended ∨ e.state = .cancelled) :
    eventCancel id s = .answer s (.refuse .state) := by
  rw [eventCancel, hg]
  dsimp only
  rcases h with h | h <;> rw [h]

theorem eventCancel_open {id : Nat} (hg : Table.get s.prog.events id = some e) (h : e.state = .scheduled ∨ e.state = .running) :
    eventCancel id s = .answer (s.storeEvent id { e with state := .cancelled }) .ok := by
  rw [eventCancel, hg]
  dsimp only
  rcases h with h | h <;> rw [h]

end

/-- Settles O38: every request by its checks in order, and the event stored or removed with the choice made afresh. -/
theorem eventRequestsFollowTheirChecks : Obligations.EventRequestsFollowTheirChecks := by
  intro tag body s hr hw t fits ends
  have hwt : Table.wf t.prog.events = true := hw
  refine ⟨fun b hbody => ?_, fun b hbody => ?_, fun id hbody => ?_⟩
  · have hexec : ∀ {u r}, eventAdd b t = .answer u r →
        exec (.eventAdd .hotel tag body) s = .next (u.answer .hotel tag 0x34#8 r) :=
      fun h => congrArg Host.Outcome.next (taken_parsed hr rfl hbody h)
    refine ⟨fun hf => ⟨t, hexec (eventAdd_unfit hf), rfl⟩, fun hf =>
      ⟨fun hh => ⟨t, hexec ?_, rfl⟩, fun hh hl => ⟨t, hexec ?_, rfl⟩,
      fun hh hl => ⟨_, hexec ?_, storeEvent_stored hwt b.id _⟩⟩⟩
    · exact (eventAdd_fits hf).trans (if_pos hh)
    · exact (eventAdd_fits hf).trans ((if_neg hh).trans (if_pos hl))
    · exact (eventAdd_fits hf).trans ((if_neg hh).trans (if_neg (Nat.not_le.mpr hl)))
  · have hexec : ∀ {u r}, eventModify b t = .answer u r →
        exec (.eventModify .hotel tag body) s = .next (u.answer .hotel tag 0x35#8 r) :=
      fun h => congrArg Host.Outcome.next (taken_parsed hr rfl hbody h)
    refine ⟨fun hg => ⟨t, hexec ?_, rfl⟩, fun e hg => ?_⟩
    · rw [eventModify, show Table.get t.prog.events b.id = none from hg]
    intro m
    have hgt : Table.get t.prog.events b.id = some e := hg
    refine ⟨fun h => ⟨t, hexec (eventModify_finished hgt h), rfl⟩, fun h => ⟨fun hf => ⟨t, hexec ?_, rfl⟩,
      fun hf => ⟨_, hexec ?_, storeEvent_stored hwt b.id _⟩⟩⟩
    · exact (eventModify_open hgt h).trans
        (if_pos (by rw [timesFit_false (a := (modified b e).start) (b := (modified b e).stop) hf]; rfl))
    · exact (eventModify_open hgt h).trans
        (if_neg (by rw [(timesFit_iff (modified b e).start (modified b e).stop).mpr hf]; exact Bool.false_ne_true))
  · have hcancel : ∀ {u r}, eventCancel id t = .answer u r →
        exec (.eventCancel .hotel tag body) s = .next (u.answer .hotel tag 0x36#8 r) :=
      fun h => congrArg Host.Outcome.next (taken_parsed hr rfl hbody h)
    have hdelete : ∀ {u r}, eventDelete id t = .answer u r →
        exec (.eventDelete .hotel tag body) s = .next (u.answer .hotel tag 0x37#8 r) :=
      fun h => congrArg Host.Outcome.next (taken_parsed hr rfl hbody h)
    refine ⟨fun hg => ⟨⟨t, hcancel ?_, rfl⟩, ⟨t, hdelete ?_, rfl⟩⟩, fun e hg => ?_⟩
    · rw [eventCancel, show Table.get t.prog.events id = none from hg]
    · rw [eventDelete, Table.has, show Table.get t.prog.events id = none from hg]
      rfl
    have hgt : Table.get t.prog.events id = some e := hg
    refine ⟨⟨_, hdelete ?_, dropEvent_stored hwt id⟩, fun h => ⟨t, hcancel (eventCancel_finished hgt h), rfl⟩,
      fun h => ⟨_, hcancel (eventCancel_open hgt h), storeEvent_stored hwt id _⟩⟩
    rw [eventDelete, Table.has, hgt]
    rfl

/-! ## Offset, languages and look-ahead (R72, R85, R86) -/

theorem composeNotDoors_eq (s : State) : s.composeNotDoors = s.composeWhere fun _ d => match s.standing d with
    | some (_, pl) => match pl.role with
      | .door _ => false
      | _ => true
    | none => true := by
  unfold State.composeNotDoors
  congr 1
  funext _ d
  rw [State.roleOf]
  cases s.standing d with
  | none => rfl
  | some x =>
    obtain ⟨p, pl⟩ := x
    dsimp only [Option.map]
    cases pl.role <;> rfl

theorem setLanguages_eq (p q : Nat) (s : State) : setLanguages p q s =
    if 4 ≤ p ∨ 4 ≤ q then .answer s (.bad .range)
    else .answer (if p = s.prog.primary ∧ q = s.prog.secondary then s
      else { s with prog := { s.prog with primary := p, secondary := q } }.composeNotDoors) .ok := by
  unfold setLanguages
  split
  · rfl
  · split <;> rfl

theorem setOffset_eq (v : Int) (s : State) : setOffset v s =
    .answer (if max (-720) (min 840 v) = s.prog.offset then s
      else { s with prog := { s.prog with offset := max (-720) (min 840 v) } }.composePlacements fun _ pl => match pl.role with
        | .door _ => false
        | _ => true) .ok := by
  unfold setOffset
  dsimp only [clampOffset]
  split <;> rfl

theorem setLookahead_eq (n : Nat) (s : State) : setLookahead n s =
    .answer (if max 30 (min 240 n) = s.prog.lookahead then s
      else { s with prog := { s.prog with lookahead := max 30 (min 240 n) } }.chooseAfresh s.prog.events) .ok := by
  unfold setLookahead
  dsimp only [clamp]
  split <;> rfl

/-- Settles O37: the value clamped or checked, and handed on when it changed. -/
theorem programmeSettingsAreStored : Obligations.ProgrammeSettingsAreStored := by
  intro tag body s hr t
  refine ⟨fun v hbody => ?_, fun p q hbody => ?_, fun n hbody hw => ?_⟩
  · exact congrArg Host.Outcome.next (taken_parsed hr rfl hbody (setOffset_eq v t))
  · refine congrArg Host.Outcome.next ((takeRequest_taken hr rfl).trans ?_)
    rw [hbody]
    change settle .hotel tag 0x32#8 (setLanguages p q t) = _
    rw [setLanguages_eq, apply_ite (settle .hotel tag 0x32#8), composeNotDoors_eq]
    rfl
  · refine ⟨_, congrArg Host.Outcome.next (taken_parsed hr rfl hbody (setLookahead_eq n t)), fun h => if_pos h, fun h => ?_⟩
    rw [if_neg (show ¬ max 30 (min 240 n) = t.prog.lookahead from h)]
    let u : State := { t with prog := { t.prog with lookahead := max 30 (min 240 n) } }
    exact ⟨chooseAfresh_handed u hw _, (withProg_same ..).mono (by decide) |>.trans ((chooseAfresh_same u _).mono (by decide)),
      by rw [chooseAfresh_prog]; rfl⟩

end Sys2Proof.Machine
end

section
/-! PROOFS. The minute event: events evaluated, the choice made afresh, notices expired (R70, R71, R73, R76, R136). -/

namespace Sys2Proof.Machine

/-! ## Notices that expire (R136) -/

/-- The notice of R136: its expiry is at or before now. -/
def expires (now : Nat) (n : Notice) : Bool := n.expiry.any fun e => decide (e ≤ now)

/-- The state without the notices that expire. -/
def State.unexpired (s : State) (now : Nat) : State :=
  { s with resolver := { s.resolver with notices := Table.keep (fun _ n => !expires now n) s.resolver.notices } }

/-- The targets of the notices that expire. -/
def State.expiredTargets (s : State) (now : Nat) : List Target :=
  s.resolver.notices.filterMap fun x => if expires now x.2 then some x.2.target else none

theorem expireNotices_eq (s : State) (now : Nat) :
    s.expireNotices now = (s.unexpired now).composeTargets (s.expiredTargets now) := rfl

section
variable {s : State} {now : Nat}

theorem mem_expiredTargets {i : Nat} {n : Notice} (hm : (i, n) ∈ s.resolver.notices) (he : expires now n = true) :
    n.target ∈ s.expiredTargets now :=
  List.mem_filterMap.mpr ⟨(i, n), hm, if_pos he⟩

/-- A notice that does not target the record has no part in what it shows (R137). -/
theorem foldl_filter_idle {α β : Type} {f : β → α → β} {p : α → Bool} {l : List α} (h : ∀ x ∈ l, p x = false → ∀ b, f b x = b)
    (b : β) : (l.filter p).foldl f b = l.foldl f b := by
  induction l generalizing b with
  | nil => rfl
  | cons x l ih =>
    have ih' := ih fun y hy => h y (List.mem_cons_of_mem x hy)
    cases hp : p x with
    | true => rw [List.filter_cons_of_pos hp, List.foldl_cons, List.foldl_cons, ih']
    | false => rw [List.filter_cons_of_neg (by rw [hp]; exact Bool.false_ne_true), List.foldl_cons, h x List.mem_cons_self hp, ih']

theorem unexpired_shownNotice {d : Display} (h : ∀ x ∈ s.expiredTargets now, s.targets x d = false) :
    (s.unexpired now).shownNotice d = s.shownNotice d := by
  unfold State.shownNotice
  rw [show (s.unexpired now).resolver.notices = _ from Table.keep_eq_filter ..]
  refine foldl_filter_idle (fun x hx hp b => ?_) none
  have he : expires now x.2 = true := by simpa using hp
  have hno : (s.unexpired now).targets x.2.target d = false := h _ (mem_expiredTargets hx he)
  exact if_neg (by rw [hno]; exact Bool.false_ne_true)

theorem unexpired_draft {d : Display} (h : ∀ x ∈ s.expiredTargets now, s.targets x d = false) :
    (s.unexpired now).draft d = s.draft d := by
  unfold State.draft
  rw [unexpired_shownNotice h]
  rfl

theorem expireNotices_targeted {k : Nat} {x : Target} (hx : x ∈ s.expiredTargets now) (ht : s.targets x (s.display k) = true)
    (hf : (s.display k).state ≠ .free) : isComposed (s.expireNotices now) k := by
  rw [expireNotices_eq]
  exact composeWhere_isComposed (s := s.unexpired now) hf (List.any_eq_true.mpr ⟨x, hx, ht⟩)

/-- A record composed before is composed when the notices have expired. -/
theorem isComposed.expireNotices {k : Nat} (hk : isComposed s k) (hf : (s.display k).state ≠ .free) :
    isComposed (s.expireNotices now) k := by
  by_cases hx : ∃ x ∈ s.expiredTargets now, s.targets x (s.display k) = true
  · obtain ⟨x, hx, ht⟩ := hx
    exact expireNotices_targeted hx ht hf
  · have hno : ∀ x ∈ s.expiredTargets now, s.targets x (s.display k) = false := fun x hx' =>
      Bool.eq_false_of_not_eq_true fun ht => hx ⟨x, hx', ht⟩
    rw [expireNotices_eq]
    refine isComposed.composeWhere ?_ _
    have hcompose : (s.unexpired now).compose (s.display k) = s.compose (s.display k) := by
      unfold State.compose
      rw [unexpired_draft hno]
    unfold isComposed at hk ⊢
    rw [show (s.unexpired now).display k = s.display k from rfl, hcompose]
    exact hk

theorem expireNotices_showsRoutes {k : Nat} (hk : showsRoutes (s.expireNotices now) ((s.expireNotices now).display k) = true) :
    showsRoutes s (s.display k) = true ∨ isComposed (s.expireNotices now) k := by
  rw [expireNotices_eq, State.composeTargets, showsRoutes_composed (composeWhere_composed ..)] at hk
  have hf := showsRoutes_ne_free hk
  by_cases hx : ∃ x ∈ s.expiredTargets now, s.targets x (s.display k) = true
  · obtain ⟨x, hx, ht⟩ := hx
    exact .inr (expireNotices_targeted hx ht hf)
  · refine .inl ?_
    have hdraft : (s.unexpired now).draft ((s.unexpired now).display k) = s.draft (s.display k) :=
      unexpired_draft fun x hx' => Bool.eq_false_of_not_eq_true fun ht => hx ⟨x, hx', ht⟩
    unfold showsRoutes at hk ⊢
    rw [hdraft] at hk
    exact hk

end

/-! ## The rest of the state -/

section
variable (s : State) (now : Nat)

theorem expireNotices_composed : Composed (s.unexpired now) (s.expireNotices now) := composeWhere_composed ..

theorem expireNotices_plan : (s.expireNotices now).plan = s.plan := (expireNotices_composed s now).plan_eq
theorem expireNotices_prog : (s.expireNotices now).prog = s.prog := (expireNotices_composed s now).prog_eq
theorem expireNotices_route : (s.expireNotices now).route = s.route := (expireNotices_composed s now).route_eq
theorem expireNotices_muster : (s.expireNotices now).muster = s.muster := (expireNotices_composed s now).muster_eq
theorem expireNotices_cond : (s.expireNotices now).cond = s.cond := (expireNotices_composed s now).cond_eq

theorem expireNotices_only : composedOnly s (s.expireNotices now) :=
  ⟨(expireNotices_composed s now).cards, (expireNotices_composed s now).queues⟩

variable {s now}

theorem selectionFresh.congr {t : State} (h : selectionFresh s) (hp : t.prog = s.prog) (ha : t.plan = s.plan) :
    selectionFresh t := by
  have hchoice : ∀ v, t.choice v = s.choice v := fun v => by rw [State.choice, State.choice, hp]
  have hcomes : comesUp t = comesUp s := by
    funext n e
    rw [comesUp, comesUp, hp]
  have hmakes : makesVenue t = makesVenue s := by
    funext n e
    rw [makesVenue, makesVenue, hp]
  unfold selectionFresh at h ⊢
  simp only [State.now, State.activePlan, hp, ha, hchoice, hcomes, hmakes] at h ⊢
  exact h

theorem destsHanded.expireNotices {u : State} (h : destsHanded s u) : destsHanded s (u.expireNotices now) := by
  have hlist : (u.expireNotices now).destList = u.destList := by
    rw [State.destList, State.destList, expireNotices_plan, expireNotices_prog, expireNotices_route]
  obtain ⟨hsame, hnew, hstranded, hshown⟩ := h
  unfold destsHanded
  rw [hlist, expireNotices_route]
  refine ⟨hsame, fun hd => ?_, hstranded.congr (expireNotices_route u now) (expireNotices_muster u now), fun hs hd k hk => ?_⟩
  · have hm := hnew hd
    split at hm
    · exact hm
    · exact hm.congr (expireNotices_route u now) (expireNotices_cond u now)
    · exact hm
  · rcases expireNotices_showsRoutes hk with hr | hc
    · exact (hshown hs hd k hr).expireNotices (showsRoutes_ne_free hr)
    · exact hc

theorem choiceHanded.expireNotices {u : State} (h : choiceHanded s u) : choiceHanded s (u.expireNotices now) := by
  obtain ⟨hfresh, honly, hsame, hnew, hmuster, hscreens⟩ := h
  have hchoice : ∀ v, (u.expireNotices now).choice v = u.choice v := fun v => by
    rw [State.choice, State.choice, expireNotices_prog]
  unfold choiceHanded
  simp only [hchoice, expireNotices_prog, expireNotices_route, expireNotices_muster]
  refine ⟨hfresh.congr (expireNotices_prog u now) (expireNotices_plan u now), honly.trans (expireNotices_only u now), hsame,
    fun hp => (hnew hp).expireNotices, hmuster, fun k p pl hs => ?_⟩
  have hf : (u.display k).state ≠ .free := by
    rw [(honly.1 k).1]
    exact standing_ne_free hs
  obtain ⟨hvenue, hcorridor⟩ := hscreens k p pl hs
  exact ⟨fun v hr hv hne => (hvenue v hr hv hne).expireNotices hf, fun vs hr hne => (hcorridor vs hr hne).expireNotices hf⟩

end

/-! ## One value of now evaluated (R73) -/

theorem removable_stepEvent (now : Nat) (e : Event) : removable now (stepEvent now e) =
    decide ((evolvedState now e = .ended ∨ evolvedState now e = .cancelled) ∧ e.stop + 30 ≤ now) := by
  rw [stepEvent_eq]
  unfold removable
  dsimp only
  cases evolvedState now e <;> simp

theorem evaluateEvents_get {es : Table Event} (hw : Table.wf es = true) (now i : Nat) :
    Table.get (evaluateEvents now es) i = match Table.get es i with
      | none => none
      | some e =>
        if (evolvedState now e = .ended ∨ evolvedState now e = .cancelled) ∧ e.stop + 30 ≤ now then none
        else some { e with state := evolvedState now e } := by
  rw [evaluateEvents, Table.get_keep (Table.wf_mapVals _ hw), Table.get_mapVals]
  cases Table.get es i with
  | none => rfl
  | some e =>
    dsimp only [Option.map]
    rw [Option.filter_some, removable_stepEvent]
    by_cases h : (evolvedState now e = .ended ∨ evolvedState now e = .cancelled) ∧ e.stop + 30 ≤ now
    · rw [if_pos h, decide_eq_true h]
      rfl
    · rw [if_neg h, decide_eq_false h, ← stepEvent_eq]
      rfl

theorem State.targets_congr {s u : State} (h : u.activePlan = s.activePlan) (x : Target) (d : Display) :
    u.targets x d = s.targets x d := by
  unfold State.targets State.standing
  rw [h]

section
variable (s : State) (clock : Option Clock) (now : Nat)

/-- The state at the new time of the clock. -/
def State.atClock (s : State) (clock : Option Clock) : State := { s with prog := { s.prog with clock := clock } }

theorem evaluateMinute_prog : ((s.atClock clock).evaluateMinute now).prog =
    ((s.atClock clock).withEvents (evaluateEvents now s.prog.events)).withChoice.prog := by
  rw [State.evaluateMinute, expireNotices_prog]
  exact chooseAfresh_prog ((s.atClock clock).withEvents (evaluateEvents now s.prog.events)) _

theorem evaluateMinute_clock : ((s.atClock clock).evaluateMinute now).prog.clock = clock := by
  rw [evaluateMinute_prog]
  rfl

variable {s}

theorem evaluateMinute_evaluated (he : Table.wf s.prog.events = true) (hn : Table.wf s.resolver.notices = true) :
    minuteEvaluated now s ((s.atClock clock).evaluateMinute now) := by
  let w : State := (s.atClock clock).withEvents (evaluateEvents now s.prog.events)
  let u : State := w.chooseAfresh s.prog.events
  change minuteEvaluated now s (u.expireNotices now)
  have hprog : (u.expireNotices now).prog = w.withChoice.prog := evaluateMinute_prog s clock now
  have hchosen : choiceHanded s u := chooseAfresh_handed w (Table.wf_keep _ (Table.wf_mapVals _ he)) _
  have hresolver : u.resolver = s.resolver := (chooseAfresh_same w _).keeps .resolver (by decide)
  have hexpired : (u.expireNotices now).resolver =
      { s.resolver with notices := Table.keep (fun _ n => !expires now n) s.resolver.notices } := by
    rw [← hresolver]
    exact (expireNotices_composed u now).resolver_eq
  have hget : ∀ i, Table.get (u.expireNotices now).resolver.notices i =
      match Table.get s.resolver.notices i with
      | none => none
      | some n => if expires now n then none else some n := fun i => by
    rw [hexpired]
    dsimp only
    rw [Table.get_keep hn]
    cases Table.get s.resolver.notices i with
    | none => rfl
    | some n =>
      dsimp only
      rw [Option.filter_some]
      cases expires now n <;> rfl
  refine ⟨fun i => ?_, by rw [hprog]; rfl, hchosen.expireNotices, hget, by rw [hexpired], ?_, fun k i n hi hgone ht hf => ?_⟩
  · rw [hprog]
    exact evaluateEvents_get he now i
  · have hw : SameBut [.prog, .route, .muster, .resolver, .dir, .segs] s w := (withProg_same ..).mono (by decide)
    exact hw.trans (((chooseAfresh_same w _).mono (by decide)).trans
      ((expireNotices_same u now).mono (by decide)))
  · have hexp : expires now n = true := by
      by_contra hexp
      have hi' := hget i
      rw [hi, hgone] at hi'
      dsimp only at hi'
      rw [if_neg hexp] at hi'
      cases hi'
    refine expireNotices_targeted (s := u) (x := n.target) ?_ ?_ ?_
    · exact mem_expiredTargets (s := u) (i := i) (by rw [hresolver]; exact Table.mem_of_get hi) hexp
    · have hplan : u.activePlan = s.activePlan := activePlan_congr (by rw [chooseAfresh_plan]; rfl)
      rw [(hchosen.2.1.1 k).1, State.targets_congr hplan]
      exact ht
    · rw [(hchosen.2.1.1 k).1]
      exact hf

end

theorem minuteEvaluated.of_begin {s t : State} {now : Nat} (h : minuteEvaluated now s.begin t) : minuteEvaluated now s t := by
  obtain ⟨hevents, hprog, hchosen, hnotices, hresolver, hsame, hgone⟩ := h
  exact ⟨hevents, hprog, hchosen, hnotices, hresolver, ((begin_same s).mono (by decide)).trans hsame, hgone⟩

/-- Settles O36: the minute event, SET CLOCK, and the clock's stop. -/
theorem clockEventsEvaluateTheProgramme : Obligations.ClockEventsEvaluateTheProgramme := by
  intro tag body m sec c s he hn
  refine ⟨fun hr hbody => ?_, fun hc hrun hlt => ?_, fun hc hm => ?_⟩
  · have hset : setClock m sec (requestTaken .hotel s) = .answer
        (((requestTaken .hotel s).atClock (some ⟨m, min sec 59, clockRun m (min sec 59)⟩)).evaluateMinute m) .ok := rfl
    refine ⟨_, congrArg Host.Outcome.next (taken_parsed hr rfl hbody hset), ?_, evaluateMinute_evaluated _ m he hn⟩
    rw [evaluateMinute_clock]
    have hrun : clockRun m (min sec 59) = if m = 65535 ∧ 59 ≤ sec then .held else .running :=
      if_congr (by omega) rfl rfl
    rw [hrun]
  · have hmin : minuteEvent s.begin = (s.begin.atClock (some ⟨c.minute + 1, 0, .running⟩)).evaluateMinute (c.minute + 1) := by
      unfold minuteEvent
      rw [show s.begin.prog.clock = some c from hc]
      exact if_pos ⟨hrun, hlt⟩
    exact ⟨_, congrArg Host.Outcome.next hmin, evaluateMinute_clock ..,
      .of_begin (evaluateMinute_evaluated (s := s.begin) _ _ he hn)⟩
  · have hheld : clockHeld s.begin = { s with sent := [], prog := { s.prog with clock := some ⟨65535, 59, .held⟩ } } := by
      unfold clockHeld
      rw [show s.begin.prog.clock = some c from hc]
      exact if_pos hm
    exact congrArg Host.Outcome.next hheld

end Sys2Proof.Machine
end

section
/-! PROOFS. The order of the event states under every command (R75). -/

namespace Sys2Proof.Machine

/-! ## What a request comes to -/

/-- The state differs in the ports and the confirm sequence, and no attention source with them. -/
structure PortsOnly (s t : State) : Prop where
  keeps : Keeps [.ports, .confirm] s t
  pendingSet : ∀ l, (t.port l).pendingSet = (s.port l).pendingSet

theorem PortsOnly.trans {s t u : State} (h : PortsOnly s t) (h' : PortsOnly t u) : PortsOnly s u :=
  ⟨h.keeps.trans h'.keeps, fun l => (h'.pendingSet l).trans (h.pendingSet l)⟩

theorem modPort_portsOnly (s : State) (l : LinkId) {f : Port → Port} (hf : ∀ p, (f p).pendingSet = p.pendingSet) :
    PortsOnly s (s.modPort l f) := by
  refine ⟨(modPort_keeps ..).mono (by decide), fun m => ?_⟩
  by_cases hm : m = l
  · rw [hm, State.port_modPort, hf]
  · rw [State.port_modPort_ne _ _ _ _ hm]

theorem frameArrived_portsOnly (s : State) (l : LinkId) : PortsOnly s (s.begin.modPort l Port.frameArrived) :=
  ⟨(frameTaken_same l s).toKeeps.mono (by decide), (modPort_portsOnly s.begin l (f := Port.frameArrived) fun _ => rfl).pendingSet⟩

theorem abandonConfirm_portsOnly (s : State) : PortsOnly s s.abandonConfirm := ⟨(abandonConfirm_keeps _).mono (by decide),
    fun _ => rfl⟩

theorem answer_portsOnly (s : State) (l : LinkId) (tag kind : Byte) (r : Reply) : PortsOnly s (s.answer l tag kind r) :=
  modPort_portsOnly s l (f := fun p => { p with state := .answering ⟨tag, kind, r⟩ }) fun _ => rfl

/-- A request changes the ports and the confirm sequence alone, or its block acts from a state that differs in these alone. -/
theorem takeRequest_reach {area : Area} {own : Bool} {kind tag : Byte} {l : LinkId} {h : State → Handled} {s : State} :
    PortsOnly s (takeRequest area own kind l tag h s) ∨
    ∃ u, PortsOnly s u ∧ PortsOnly (h u).state (takeRequest area own kind l tag h s) ∧
      SameBut [.ports] (h u).state (takeRequest area own kind l tag h s) := by
  have harrived := frameArrived_portsOnly s l
  unfold takeRequest
  dsimp only
  split
  · have htaken : PortsOnly s (if l = .safety && !own then (s.begin.modPort l Port.frameArrived).abandonConfirm
        else s.begin.modPort l Port.frameArrived) := by
      split
      · exact harrived.trans (abandonConfirm_portsOnly _)
      · exact harrived
    split
    · exact .inl (htaken.trans (answer_portsOnly ..))
    · refine .inr ⟨_, htaken, ?_⟩
      generalize h _ = x
      cases x with
      | answer t r => exact ⟨answer_portsOnly .., answer_same ..⟩
      | hold t =>
        exact ⟨modPort_portsOnly t l (f := fun p => { p with state := .handling tag kind, silence := .held }) fun _ => rfl,
          modPort_same t l fun p => { p with state := .handling tag kind, silence := .held }⟩
  · exact .inl harrived

/-! ## Events from one state to the next -/

/-- No event that stays returns to an earlier state (R75). -/
def EventsFollow (s t : State) : Prop := ∀ id a b, Table.get s.prog.events id = some a → Table.get t.prog.events id = some b →
  eventFollows a.state b.state

theorem eventFollows.refl (x : EventState) : eventFollows x x := by
  cases x with
  | scheduled => trivial
  | running => exact .inl rfl
  | ended => rfl
  | cancelled => rfl

theorem eventFollows_evolved (now : Nat) (e : Event) : eventFollows e.state (evolvedState now e) := by
  unfold evolvedState
  cases e.state with
  | scheduled => trivial
  | running =>
    dsimp only
    split
    · exact .inr (.inl rfl)
    · exact .inl rfl
  | ended => rfl
  | cancelled => rfl

theorem eventFollows_judged (now : Option Nat) (e : Event) : eventFollows e.state (judged now e).state := by
  cases now with
  | none => exact eventFollows.refl _
  | some n => exact eventFollows_evolved n e

theorem EventsFollow.of_eq {s t : State} (h : t.prog.events = s.prog.events) : EventsFollow s t := by
  intro id a b ha hb
  rw [h, ha] at hb
  rw [← Option.some.inj hb]
  exact eventFollows.refl _

theorem EventsFollow.of_keeps {fs : List Facet} {s t : State} (h : Keeps fs s t) (hf : Facet.events ∉ fs) : EventsFollow s t :=
  .of_eq (h.keeps .events hf)

section
variable {s : State}

theorem evaluateMinute_follows (hw : Table.wf s.prog.events = true) (now : Nat) (clock : Option Clock) :
    EventsFollow s ((s.atClock clock).evaluateMinute now) := by
  intro id a b ha hb
  have hget : Table.get ((s.atClock clock).evaluateMinute now).prog.events id = _ :=
    (congrArg (fun p => Table.get p.events id) (evaluateMinute_prog s clock now)).trans (evaluateEvents_get hw now id)
  rw [hget, ha] at hb
  dsimp only at hb
  split at hb
  · cases hb
  · rw [← Option.some.inj hb]
    exact eventFollows_evolved now a

theorem withEvents_events (es : Table Event) (old : Table Event) : ((s.withEvents es).chooseAfresh old).prog.events = es := by
  rw [chooseAfresh_prog]
  rfl

theorem storeEvent_follows {id : Nat} {e : Event} (h : ∀ a, Table.get s.prog.events id = some a → eventFollows a.state e.state) :
    EventsFollow s (s.storeEvent id e) := by
  intro i a b ha hb
  have hget : (s.storeEvent id e).prog.events = Table.put s.prog.events id e := withEvents_events _ _
  rw [hget, Table.get_put] at hb
  split at hb
  · subst i
    rw [← Option.some.inj hb]
    exact h a ha
  · rw [ha] at hb
    rw [← Option.some.inj hb]
    exact eventFollows.refl _

theorem dropEvent_follows (id : Nat) : EventsFollow s (s.dropEvent id) := by
  intro i a b ha hb
  have hget : (s.dropEvent id).prog.events = Table.del s.prog.events id := withEvents_events _ _
  rw [hget, Table.get_del] at hb
  split at hb
  · cases hb
  · rw [ha] at hb
    rw [← Option.some.inj hb]
    exact eventFollows.refl _

theorem eventAdd_follows (b : EventAddBody) : EventsFollow s (eventAdd b s).state := by
  unfold eventAdd
  split
  · exact .of_eq rfl
  split
  · exact .of_eq rfl
  rename_i hnew
  split
  · exact .of_eq rfl
  · refine storeEvent_follows fun a ha => ?_
    rw [Table.has, ha] at hnew
    exact absurd rfl hnew

theorem eventModify_follows (b : EventModifyBody) : EventsFollow s (eventModify b s).state := by
  cases hg : Table.get s.prog.events b.id with
  | none =>
    rw [eventModify, hg]
    exact .of_eq rfl
  | some e =>
    by_cases h : e.state = .scheduled ∨ (e.state = .running ∧ b.venue = none ∧ b.start = none)
    · rw [eventModify_open hg h]
      split
      · exact .of_eq rfl
      · refine storeEvent_follows fun a ha => ?_
        rw [hg] at ha
        rw [← Option.some.inj ha]
        exact eventFollows_judged s.now (modifiedEvent b e)
    · rw [eventModify_finished hg ?_]
      · exact .of_eq rfl
      · cases hst : e.state with
        | scheduled => exact absurd (.inl hst) h
        | ended => exact .inl rfl
        | cancelled => exact .inr (.inl rfl)
        | running =>
          refine .inr (.inr ⟨rfl, ?_⟩)
          rw [Option.isSome_iff_ne_none, Option.isSome_iff_ne_none]
          by_contra hno
          rw [not_or, not_not, not_not] at hno
          exact h (.inr ⟨hst, hno⟩)

theorem eventCancel_follows (id : Nat) : EventsFollow s (eventCancel id s).state := by
  cases hg : Table.get s.prog.events id with
  | none =>
    rw [eventCancel, hg]
    exact .of_eq rfl
  | some e =>
    have hstore : eventFollows e.state .cancelled → EventsFollow s (s.storeEvent id { e with state := .cancelled }) := fun hf =>
      storeEvent_follows fun a ha => by
        rw [hg] at ha
        rw [← Option.some.inj ha]
        exact hf
    cases hst : e.state with
    | scheduled =>
      rw [eventCancel_open hg (.inl hst)]
      exact hstore (by rw [hst]; trivial)
    | running =>
      rw [eventCancel_open hg (.inr hst)]
      exact hstore (by rw [hst]; exact .inr (.inr rfl))
    | ended =>
      rw [eventCancel_finished hg (.inl hst)]
      exact .of_eq rfl
    | cancelled =>
      rw [eventCancel_finished hg (.inr hst)]
      exact .of_eq rfl

theorem eventDelete_follows (id : Nat) : EventsFollow s (eventDelete id s).state := by
  unfold eventDelete
  split
  · exact dropEvent_follows id
  · exact .of_eq rfl

theorem minuteEvent_follows (hw : Table.wf s.prog.events = true) : EventsFollow s (minuteEvent s) := by
  unfold minuteEvent
  split
  · exact .of_eq rfl
  · split
    · exact evaluateMinute_follows hw _ _
    · exact .of_eq rfl

theorem setClock_follows (hw : Table.wf s.prog.events = true) (m sec : Nat) : EventsFollow s (setClock m sec s).state := by
  have hset : setClock m sec s =
      .answer ((s.atClock (some ⟨m, min sec 59, clockRun m (min sec 59)⟩)).evaluateMinute m) .ok := rfl
  rw [hset]
  exact evaluateMinute_follows hw m _

/-- A request whose block lets no event return does not. -/
theorem request_follows {area : Area} {own : Bool} {kind tag : Byte} {l : LinkId} {h : State → Handled} {t : State}
    (hw : Table.wf s.prog.events = true)
    (hexec : (Host.Outcome.next (takeRequest area own kind l tag h s) : Host.Outcome State Fault Refusal) = .next t)
    (hh : ∀ u, Table.wf u.prog.events = true → EventsFollow u (h u).state) : EventsFollow s t := by
  cases hexec
  rcases takeRequest_reach (area := area) (own := own) (kind := kind) (tag := tag) (l := l) (h := h) (s := s) with hk |
    ⟨u, hu, ht, -⟩
  · exact .of_keeps hk.keeps (by decide)
  · have heu : u.prog.events = s.prog.events := hu.keeps.keeps .events (by decide)
    have het : (takeRequest area own kind l tag h s).prog.events = (h u).state.prog.events := ht.keeps.keeps .events (by decide)
    have hf := hh u (heu.symm ▸ hw)
    unfold EventsFollow at hf ⊢
    rw [heu] at hf
    rw [het]
    exact hf

theorem parsed_follows {α : Type} {p : Except Reason α} {f : State → α → Handled} (u : State)
    (hf : ∀ a, EventsFollow u (f u a).state) :
    EventsFollow u (parsed p u (f u)).state := by
  cases p with
  | ok a => exact hf a
  | error r => exact .of_eq rfl

theorem execPlain_follows {c : Instr} {t : State} (hplain : isFrame c = false) (hr : c ≠ .reset)
    (hw : Table.wf s.prog.events = true)
    (h : exec c s = .next t) : EventsFollow s t := by
  cases c
  case reset => exact absurd rfl hr
  case setClock l tag body =>
    refine request_follows hw h fun u hu => ?_
    refine parsed_follows (p := bodySetClock body) (f := fun u x => setClock x.1 x.2 u) u fun x => ?_
    exact setClock_follows hu x.1 x.2
  case eventAdd l tag body =>
    exact request_follows hw h fun u _ => parsed_follows (f := fun u b => eventAdd b u) u eventAdd_follows
  case eventModify l tag body =>
    exact request_follows hw h fun u _ => parsed_follows (f := fun u b => eventModify b u) u eventModify_follows
  case eventCancel l tag body =>
    exact request_follows hw h fun u _ => parsed_follows (f := fun u id => eventCancel id u) u eventCancel_follows
  case eventDelete l tag body =>
    exact request_follows hw h fun u _ => parsed_follows (f := fun u id => eventDelete id u) u eventDelete_follows
  case minuteEvent =>
    cases h
    exact minuteEvent_follows (s := s.begin) hw
  case unknownKind => cases hplain
  case badCrcFrame => cases hplain
  case frameWhileBusy => cases hplain
  case startByte => cases hplain
  case lengthOutOfRange => cases hplain
  all_goals exact .of_keeps (exec_keeps h) (of_decide_eq_true rfl)

end

/-- Settles O39: the commands that write events are the clock's and the event requests. -/
theorem eventStatesNeverReturn : Obligations.EventStatesNeverReturn := by
  intro c id a b s t hc hw h ha hb
  suffices EventsFollow s t from this id a b ha hb
  by_cases hf : isFrame c = true
  · rcases exec_frame_outcome hf h with ⟨l, tag, kind, body, hknown, hexec⟩ | hk
    · obtain ⟨hplain, hreset⟩ := isFrame_ofFrame l tag kind body hknown
      exact execPlain_follows hplain hreset hw hexec
    · exact .of_keeps hk (by decide)
  · exact execPlain_follows (Bool.eq_false_of_not_eq_true hf) hc hw h

end Sys2Proof.Machine
end

section
/-! PROOFS. The hand-off of a changed muster state (R58, R61, R108, R138, R167). -/

namespace Sys2Proof.Machine

/-! ## Attention sources that stay -/

/-- What is pending of a link's list in `s` is pending in `t`. -/
def pendingStays (s t : State) : Prop := ∀ l x, x ∈ sourceList l → x ∈ (s.port l).pendingSet → x ∈ (t.port l).pendingSet

theorem pendingStays.refl (s : State) : pendingStays s s := fun _ _ _ h => h

theorem pendingStays.trans {s t u : State} (h : pendingStays s t) (h' : pendingStays t u) : pendingStays s u :=
  fun l x hx hp => h' l x hx (h l x hx hp)

theorem pendingStays.of_ports {s t : State} (h : t.ports = s.ports) : pendingStays s t := fun l x _ hp => by
  rw [State.port, h]
  exact hp

theorem raise_pendingStays (s : State) (l : LinkId) (x : Source) : pendingStays s (s.raise l x) := by
  intro m y hy hp
  by_cases hm : m = l
  · subst hm
    exact (mem_raise y).mpr ⟨hy, .inr hp⟩
  · rw [State.raise, State.port_modPort_ne _ _ _ _ hm]
    exact hp

theorem raise_pending {s : State} {l : LinkId} {x : Source} (h : x ∈ sourceList l) : x ∈ ((s.raise l x).port l).pendingSet :=
  (mem_raise x).mpr ⟨h, .inl rfl⟩

theorem rebuildStranded_pendingStays (s : State) : pendingStays s s.rebuildStranded := by
  cases hg : s.route.published with
  | none =>
    rw [State.rebuildStranded, hg]
    exact .refl s
  | some g =>
    rw [rebuildStranded_eq s hg]
    split
    · split
      · exact (pendingStays.of_ports rfl).trans (raise_pendingStays _ _ _)
      · exact .of_ports rfl
    · exact .refl s

/-! ## Compositions of every record -/

/-- Every record not FREE is composed. -/
def allComposed (t : State) : Prop := ∀ k, (t.display k).state ≠ .free → isComposed t k

theorem allComposed.of_composed {s t : State} (hc : Composed s t) (h : ∀ k, (s.display k).state ≠ .free → isComposed t k) :
    allComposed t := fun k hf => h k (by rw [hc.state_eq] at hf; exact hf)

theorem composeAll_all (s : State) : allComposed s.composeAll :=
  .of_composed (composeAll_composed s) fun _ hf => composeWhere_isComposed hf rfl

theorem isComposed.entrySteps {s : State} {k : Nat} (h : isComposed s k) (r : List Nat) (gs : List Seg) :
    isComposed (gs.foldl (entryStep r) s) k := by
  have hsteps := entrySteps_display s r gs k
  refine h.congr (entrySteps_composed ..) ?_ ?_ ?_
  · rw [hsteps]
    split <;> rfl
  · rw [hsteps]
    split <;> rfl
  · rw [hsteps]
    split
    · exact Recompose.noteEntry_ne_clear
    · exact id

theorem composeEntry_all (s : State) : allComposed s.composeEntry := by
  refine .of_composed (composeEntry_composed s) fun k hf => ?_
  rw [composeEntry_eq]
  exact (composeKeys_isComposed _ (mem_keysWhere_of hf rfl) hf).entrySteps _ _

/-- A hand-off without placement keeps the order of each queue. -/
theorem composeKeys_prefix (s : State) (c : Nat → Cause) (ks : List Nat) (g : Seg) :
    (s.seg g).queue <+: ((s.composeKeys c ks).1.seg g).queue := by
  induction ks generalizing s with
  | nil => exact List.prefix_rfl
  | cons k ks ih =>
    obtain ⟨l, hl, -⟩ := composeRecord_queue s k (c k) g
    exact (hl ▸ List.prefix_append _ l).trans (ih _)

/-! ## The hand-off in its steps (R108) -/

section
variable (s : State) (old : MusterState)

/-- The plan store has heard of the change. -/
def State.handedPlan (s : State) (old : MusterState) : State := if isEntry old s.muster.state then s.closeEdit else s

/-- The route engine has heard of the change. -/
def State.handedRoute (s : State) (old : MusterState) : State := (s.handedPlan old).changeProfile s.muster.state.profile

/-- The content resolver has heard of the change. -/
def State.handedCards (s : State) (old : MusterState) : State :=
  if isEntry old s.muster.state then (s.handedRoute old).composeEntry else (s.handedRoute old).composeAll

theorem closeEdit_muster : s.closeEdit.muster = s.muster := (closeEdit_same s).keeps .muster (by decide)

theorem handedPlan_same : SameBut [.plan, .ports] s (s.handedPlan old) :=
  SameBut.ite (closeEdit_same s) (SameBut.refl _ _)

theorem handMuster_eq : s.handMuster old =
    (if (s.handedPlan old).route.profile = s.muster.state.profile then s.handedCards old
      else (s.handedCards old).strandedAtStart).raise .hotel .musterState := by
  have hm : (s.handedPlan old).muster.state = s.muster.state := by
    rw [(handedPlan_same s old).keeps .muster (by decide)]
  have hstep : s.handMuster old =
      (if (s.handedPlan old).route.profile = (s.handedPlan old).muster.state.profile then
        if isEntry old s.muster.state then ((s.handedPlan old).changeProfile (s.handedPlan old).muster.state.profile).composeEntry
        else ((s.handedPlan old).changeProfile (s.handedPlan old).muster.state.profile).composeAll
      else
        (if isEntry old s.muster.state then ((s.handedPlan old).changeProfile (s.handedPlan old).muster.state.profile).composeEntry
        else ((s.handedPlan old).changeProfile (s.handedPlan old).muster.state.profile).composeAll).strandedAtStart).raise
          .hotel .musterState := rfl
  rw [hstep, hm]
  rfl

theorem handedPlan_active : (s.handedPlan old).plan.active = s.plan.active := by
  unfold State.handedPlan State.closeEdit
  split
  · split <;> rfl
  · rfl

theorem handedCards_composed : Composed (s.handedRoute old) (s.handedCards old) := by
  unfold State.handedCards
  split
  · exact composeEntry_composed _
  · exact composeAll_composed _

theorem handedCards_all : allComposed (s.handedCards old) := by
  unfold State.handedCards
  split
  · exact composeEntry_all _
  · exact composeAll_all _

theorem handedPlan_pendingStays : pendingStays s (s.handedPlan old) := by
  unfold State.handedPlan State.closeEdit
  split
  · split
    · exact (pendingStays.of_ports rfl).trans (raise_pendingStays _ _ _)
    · exact .refl s
  · exact .refl s

theorem closeEdit_editing (h : s.plan.edit = .editing) :
    s.closeEdit.plan = { s.plan with edit := .closed, shadow := .empty } ∧ .planAbandoned ∈
      (s.closeEdit.port .safety).pendingSet := by
  rw [State.closeEdit, if_pos h]
  exact ⟨rfl, raise_pending (by decide)⟩

theorem closeEdit_closed (h : s.plan.edit ≠ .editing) : s.closeEdit = s := if_neg h

/-- What a profile change makes of the route engine (R61). -/
theorem changeProfile_changed {p : Profile} (h : s.route.profile ≠ p) : s.changeProfile p =
    ({ s with route := { s.route with profile := p, dests := (s.changeProfile p).destList } }).startComputation := by
  have hdests : (s.changeProfile p).destList = State.destList { s with route := { s.route with profile := p } } := by
    have hplan : (s.changeProfile p).plan = s.plan := (changeProfile_same s p).keeps .plan (by decide)
    have hprog : (s.changeProfile p).prog = s.prog := (changeProfile_same s p).keeps .prog (by decide)
    rw [State.destList, State.destList, hplan, hprog, changeProfile_profile]
  rw [hdests]
  exact if_neg h

theorem changeProfile_same_profile {p : Profile} (h : s.route.profile = p) : s.changeProfile p = s := if_pos h

end

/-! ## What the hand-off leaves -/

/-- `t` is `w` after the hand-off of its muster state, which was `old` before. -/
structure MusterHand (old : MusterState) (w t : State) : Prop where
  same : SameBut [.plan, .ports, .route, .muster, .dir, .segs] w t
  muster : t.muster = { w.muster with stranded := t.muster.stranded, strandedGen := t.muster.strandedGen }
  strands : strandedFollows (profileTurned w t) w t
  profile : t.route.profile = w.muster.state.profile
  routeKept : w.route.profile = t.route.profile → t.route = w.route
  routeStarted : w.route.profile ≠ t.route.profile →
    match w.plan.active with
    | some a => computationStarted a { w.route with profile := t.route.profile, dests := t.destList } t
    | none => t.route = { w.route with profile := t.route.profile, dests := [], activity := .idle, pending := false }
  edit : w.plan.edit = .editing ∧ isEntry old w.muster.state = true →
    t.plan = { w.plan with edit := .closed, shadow := .empty } ∧ .planAbandoned ∈ (t.port .safety).pendingSet
  editKept : ¬ (w.plan.edit = .editing ∧ isEntry old w.muster.state = true) → t.plan = w.plan
  hotel : .musterState ∈ (t.port .hotel).pendingSet
  pending : pendingStays w t
  only : composedOnly w t
  composed : ∀ k, (w.display k).state ≠ .free → isComposed t k
  placed : addressesValid w → isEntry old w.muster.state = true → entryPlaced w t
  queues : isEntry old w.muster.state = false → ∀ g, (w.seg g).queue <+: (t.seg g).queue

section
variable (w : State) (old : MusterState)

theorem strandedAtStart_rest (s : State) : ∃ m p, s.strandedAtStart =
    { s with muster := { s.muster with stranded := m, strandedGen := p }, ports := s.strandedAtStart.ports } := by
  unfold State.strandedAtStart
  split
  · exact rebuildStranded_rest s
  · exact ⟨s.muster.stranded, s.muster.strandedGen, rfl⟩

/-- The state that the hand-off leaves but for the hotel link's source. -/
def State.handedStrands (s : State) (old : MusterState) : State :=
  if (s.handedPlan old).route.profile = s.muster.state.profile then s.handedCards old else (s.handedCards old).strandedAtStart

theorem handedStrands_rest : ∃ m p, w.handedStrands old =
    { w.handedCards old with
      muster := { (w.handedCards old).muster with stranded := m, strandedGen := p }, ports := (w.handedStrands old).ports } := by
  unfold State.handedStrands
  split
  · exact ⟨(w.handedCards old).muster.stranded, (w.handedCards old).muster.strandedGen, rfl⟩
  · exact strandedAtStart_rest _

theorem handedStrands_isComposed {k : Nat} (h : isComposed (w.handedCards old) k) : isComposed (w.handedStrands old) k := by
  obtain ⟨m, p, he⟩ := handedStrands_rest w old
  rw [he]
  exact (isComposed_congr (fun _ => rfl) rfl rfl).mpr h

/-- What changes before the compositions: the plan store, the ports and the route engine. -/
theorem handedRoute_same : SameBut [.plan, .ports, .route] w (w.handedRoute old) :=
  ((handedPlan_same w old).mono (by decide)).trans ((changeProfile_same _ _).mono (by decide))

theorem handedStrands_route : (w.handedStrands old).route = (w.handedRoute old).route := by
  obtain ⟨m, p, he⟩ := handedStrands_rest w old
  rw [he]
  exact (handedCards_composed w old).route_eq

theorem handedStrands_muster : (w.handedStrands old).muster =
    { w.muster with
      stranded := (w.handedStrands old).muster.stranded
      strandedGen := (w.handedStrands old).muster.strandedGen } := by
  obtain ⟨m, p, he⟩ := handedStrands_rest w old
  have hm : (w.handedCards old).muster = w.muster :=
    (handedCards_composed w old).muster_eq.trans ((handedRoute_same w old).keeps .muster (by decide))
  rw [he, hm]

theorem handedStrands_pendingStays : pendingStays (w.handedPlan old) (w.handedStrands old) := by
  have hports : (w.handedCards old).ports = (w.handedPlan old).ports :=
    (handedCards_composed w old).ports_eq.trans ((changeProfile_same _ _).keeps .ports (by decide))
  have hcards : pendingStays (w.handedPlan old) (w.handedCards old) := .of_ports hports
  unfold State.handedStrands State.strandedAtStart
  split
  · exact hcards
  · split
    · exact hcards.trans (rebuildStranded_pendingStays _)
    · exact hcards

theorem handedPlan_route : (w.handedPlan old).route = w.route := (handedPlan_same w old).keeps .route (by decide)

/-- With the profile as it was nothing of the engine or of the stranded list changes. -/
theorem handedStrands_kept (h : w.route.profile = w.muster.state.profile) :
    (w.handedStrands old).route = w.route ∧ (w.handedStrands old).muster = w.muster := by
  have hprofile : (w.handedPlan old).route.profile = w.muster.state.profile := by rw [handedPlan_route, h]
  have hroute : w.handedRoute old = w.handedPlan old := changeProfile_same_profile _ hprofile
  have hcards := handedCards_composed w old
  rw [State.handedStrands, if_pos hprofile]
  exact ⟨by rw [hcards.route_eq, hroute, handedPlan_route],
    hcards.muster_eq.trans ((handedRoute_same w old).keeps .muster (by decide))⟩

/-- The engine at a new profile, before it starts (R61). -/
def State.turned (s : State) (old : MusterState) : State :=
  { s.handedPlan old with
    route := { s.route with profile := s.muster.state.profile, dests := (s.handedRoute old).destList } }

theorem handedRoute_turned (h : w.route.profile ≠ w.muster.state.profile) :
    w.handedRoute old = (w.turned old).startComputation := by
  have hprofile : (w.handedPlan old).route.profile ≠ w.muster.state.profile := by rw [handedPlan_route]; exact h
  have heq := changeProfile_changed (w.handedPlan old) hprofile
  rw [handedPlan_route] at heq
  exact heq

theorem handedStrands_destList : (w.handedStrands old).destList = (w.handedRoute old).destList := by
  obtain ⟨m, p, he⟩ := handedStrands_rest w old
  have hc := handedCards_composed w old
  rw [he]
  change (w.handedCards old).destList = _
  rw [State.destList, State.destList, hc.plan_eq, hc.prog_eq, hc.route_eq]

theorem handedStrands_started (h : w.route.profile ≠ w.muster.state.profile) :
    match w.plan.active with
    | some a => computationStarted a { w.route with profile := w.muster.state.profile, dests := (w.handedStrands old).destList }
        (w.handedStrands old)
    | none => (w.handedStrands old).route =
        { w.route with profile := w.muster.state.profile, dests := [], activity := .idle, pending := false } := by
  have hturned := handedRoute_turned w old h
  have hactive : (w.turned old).plan.active = w.plan.active := handedPlan_active w old
  have hcond : (w.handedStrands old).cond = (w.handedRoute old).cond := by
    obtain ⟨m, p, he⟩ := handedStrands_rest w old
    rw [he]
    exact (handedCards_composed w old).cond_eq
  cases ha : w.plan.active with
  | some a =>
    have hstarted := startComputation_started (w.turned old) (hactive.trans ha)
    rw [← hturned] at hstarted
    dsimp only
    rw [handedStrands_destList]
    exact hstarted.congr (handedStrands_route w old) hcond
  | none =>
    dsimp only
    have hstart : (w.turned old).startComputation =
        { w.turned old with route := { (w.turned old).route with activity := .idle, pending := false } } := by
      rw [State.startComputation, hactive.trans ha]
    have hlist : (w.handedRoute old).destList = [] := by
      have hplan : (w.handedRoute old).plan.active = none := by
        rw [hturned, hstart]
        exact hactive.trans ha
      rw [State.destList, hplan]
    rw [handedStrands_route, hturned, hstart]
    unfold State.turned
    rw [hlist]

/-- The stranded list follows a profile change (R58, R61, R118). -/
theorem handedStrands_strands :
    strandedFollows (w.route.profile ≠ w.muster.state.profile ∧ w.plan.active.isSome) w (w.handedStrands old) := by
  by_cases h : w.route.profile = w.muster.state.profile
  · obtain ⟨-, hm⟩ := handedStrands_kept w old h
    exact .of_not (fun hc => hc.1 h) hm
  have hturned := handedRoute_turned w old h
  have hcards := handedCards_composed w old
  have hmuster : (w.handedCards old).muster = w.muster :=
    hcards.muster_eq.trans ((handedRoute_same w old).keeps .muster (by decide))
  have hprofile : ¬ (w.handedPlan old).route.profile = w.muster.state.profile := by rw [handedPlan_route]; exact h
  have hplan : (w.handedCards old).plan.active = w.plan.active := by
    rw [hcards.plan_eq, hturned, startComputation_rest]
    exact handedPlan_active w old
  rw [State.handedStrands, if_neg hprofile]
  cases ha : w.plan.active with
  | none =>
    refine .of_not (fun hc => Bool.false_ne_true hc.2) ?_
    have hno : (w.handedCards old).emptyRun = false := by rw [State.emptyRun, hplan, ha]; rfl
    rw [State.strandedAtStart, hno, if_neg Bool.false_ne_true]
    exact hmuster
  | some a =>
    have hroute : (w.handedCards old).route = (w.turned old).startComputation.route := by rw [hcards.route_eq, hturned]
    have hempty : (w.handedCards old).emptyRun = (w.turned old).emptyRun := by
      rw [State.emptyRun, State.emptyRun, hplan, hroute, startComputation_dests]
      exact congrArg (fun p => Option.isSome p && _) (handedPlan_active w old).symm
    have hturnedMuster : (w.turned old).muster = w.muster := (handedPlan_same w old).keeps .muster (by decide)
    have hstrands := startComputation_strands (s := w.turned old) ((handedPlan_active w old).trans ha)
      (hmuster.trans hturnedMuster.symm) hroute
    rw [← hempty] at hstrands
    unfold strandedFollows at hstrands ⊢
    rw [hturnedMuster] at hstrands
    rw [State.strandedAtStart, show (w.route.profile ≠ w.muster.state.profile ∧ (some a).isSome = true) = True from
      eq_true ⟨h, rfl⟩]
    exact hstrands

/-- The back cards and queues of an entry, seen from before it. -/
theorem entryPlaced.congr {s u t v : State} (h : entryPlaced s t) (ha : u.plan.active = s.plan.active) (hd : u.dir = s.dir)
    (hs : u.segs = s.segs) (htd : v.dir = t.dir) (hts : v.segs = t.segs) : entryPlaced u v := by
  have hrole : ∀ d, u.roleOf d = s.roleOf d := fun d => by
    rw [State.roleOf, State.roleOf, State.standing, State.standing, activePlan_congr ha]
  unfold entryPlaced at h ⊢
  simp only [hrole, State.display_congr hd, State.display_congr htd, State.seg, hs, hts] at h ⊢
  exact h

theorem addressesValid.congr {s t : State} (h : addressesValid s) (hd : t.dir = s.dir) (hs : t.segs = s.segs) :
    addressesValid t := by
  unfold addressesValid at h ⊢
  simp only [State.seg, hd, hs] at h ⊢
  exact h

theorem handMuster_hand : MusterHand old w (w.handMuster old) := by
  have heq : w.handMuster old = (w.handedStrands old).raise .hotel .musterState := handMuster_eq w old
  have hmuster := handedStrands_muster w old
  have hstrands := handedStrands_strands w old
  have hstarted := handedStrands_started w old
  have hprofile : (w.handMuster old).route.profile = w.muster.state.profile := by
    have hstate : (w.handMuster old).muster.state = w.muster.state := (handMuster_facets w old).2.2
    rw [← hstate]
    exact handMuster_profileFits w old
  have hplan := handMuster_plan w old
  have hdir : (w.handMuster old).dir = (w.handedCards old).dir := by
    obtain ⟨m, p, he⟩ := handedStrands_rest w old
    rw [heq, he]
    rfl
  have hsegs : (w.handMuster old).segs = (w.handedCards old).segs := by
    obtain ⟨m, p, he⟩ := handedStrands_rest w old
    rw [heq, he]
    rfl
  have hrouteDir : (w.handedRoute old).dir = w.dir := (handedRoute_same w old).keeps .dir (by decide)
  have hrouteSegs : (w.handedRoute old).segs = w.segs := (handedRoute_same w old).keeps .segs (by decide)
  have hcards := handedCards_composed w old
  have hstays : pendingStays (w.handedPlan old) ((w.handedStrands old).raise .hotel .musterState) :=
    (handedStrands_pendingStays w old).trans (raise_pendingStays _ _ _)
  refine
    { same := handMuster_same w old
      muster := by rw [heq]; exact hmuster
      strands := ?_
      profile := hprofile
      routeKept := fun h => ?_
      routeStarted := fun h => ?_
      edit := fun h => ?_
      editKept := fun h => ?_
      hotel := by rw [heq]; exact raise_pending (by decide)
      pending := by rw [heq]; exact (handedPlan_pendingStays w old).trans hstays
      only := ?_
      composed := fun k hf => ?_
      placed := fun hv he => ?_
      queues := fun he g => ?_ }
  · unfold profileTurned
    rw [hprofile, heq]
    exact hstrands.congr rfl rfl
  · rw [heq]
    exact (handedStrands_kept w old (h.trans hprofile)).1
  · have hm := hstarted (hprofile ▸ h)
    rw [hprofile, heq]
    exact hm
  · rw [hplan, if_pos h.2]
    refine ⟨(closeEdit_editing w h.1).1, ?_⟩
    rw [heq]
    refine hstays _ _ (by decide) ?_
    rw [State.handedPlan, if_pos h.2]
    exact (closeEdit_editing w h.1).2
  · rw [hplan]
    split
    · rw [closeEdit_closed w fun hed => h ⟨hed, ‹_›⟩]
    · rfl
  · exact ((handMuster_keeps w old).recomposed (by decide)).only
  · have hd : (w.handedRoute old).display k = w.display k := State.display_congr hrouteDir k
    rw [heq]
    exact handedStrands_isComposed w old (handedCards_all w old k (by rw [hcards.state_eq, hd]; exact hf))
  · have hvalid : addressesValid (w.handedRoute old) := hv.congr hrouteDir hrouteSegs
    have hplaced := composeEntry_placed hvalid
    rw [← show w.handedCards old = (w.handedRoute old).composeEntry from if_pos he] at hplaced
    have hactive : (w.handedRoute old).plan.active = w.plan.active := by
      rw [State.handedRoute, (changeProfile_same _ _).keeps .plan (by decide)]
      exact handedPlan_active w old
    exact hplaced.congr hactive.symm hrouteDir.symm hrouteSegs.symm hdir hsegs
  · have hall : w.handedCards old = (w.handedRoute old).composeAll := if_neg (by rw [he]; exact Bool.false_ne_true)
    rw [State.seg, State.seg, hsegs, ← hrouteSegs, hall]
    exact composeKeys_prefix _ _ _ g

end

end Sys2Proof.Machine
end

section
/-! PROOFS. Muster requests, the general alarm, the timers and the latch (R101 to R109, R116). -/

namespace Sys2Proof.Machine

/-! ## Tally and latch -/

theorem requestLatch_store (s : State) (w : LatchWrite) : (s.requestLatch w).store = latchAsked s.store w := by
  unfold State.requestLatch latchAsked
  cases h : s.store.inFlight with
  | none => rfl
  | some x => exact congrArg (fun y => ({ s.store with inFlight := y, waiting := some w } : RetainedStore)) h

theorem retally_rest (s : State) : s.retally =
    { s with
      muster := { s.muster with tally := s.retally.muster.tally, tallySerial := s.retally.muster.tallySerial }
      ports := s.retally.ports } := by
  unfold State.retally
  dsimp only
  split
  · rfl
  · cases decide (s.muster.state = .muster) && stationCleared s.muster.tally s.tallyNow <;> rfl

theorem retally_tally (s : State) : s.retally.muster.tally = s.tallyNow := by
  unfold State.retally
  dsimp only
  split
  · rename_i h
    exact h.symm
  · cases decide (s.muster.state = .muster) && stationCleared s.muster.tally s.tallyNow <;> rfl

theorem retally_serial (s : State) : s.retally.muster.tallySerial =
    if s.tallyNow = s.muster.tally then s.muster.tallySerial else (s.muster.tallySerial + 1) % 65536 := by
  unfold State.retally
  dsimp only
  split
  · rfl
  · cases decide (s.muster.state = .muster) && stationCleared s.muster.tally s.tallyNow <;> rfl

theorem stationCleared_of {old new : List StationTally} {st : Nat} {x y : StationTally} (hx : old[st]? = some x)
    (hy : new[st]? = some y) (h1 : 1 ≤ x.outstanding) (h0 : y.outstanding = 0) : stationCleared old new = true := by
  refine List.any_eq_true.mpr ⟨(x, y), List.mem_of_getElem? (i := st) ?_, ?_⟩
  · rw [List.getElem?_zip_eq_some]
    exact ⟨hx, hy⟩
  · rw [Bool.and_eq_true, decide_eq_true_iff, beq_iff_eq]
    exact ⟨h1, h0⟩

theorem retally_pendingStays (s : State) : pendingStays s s.retally := by
  unfold State.retally
  dsimp only
  split
  · exact .refl s
  · cases decide (s.muster.state = .muster) && stationCleared s.muster.tally s.tallyNow
    · exact .of_ports rfl
    · exact (pendingStays.of_ports rfl).trans (raise_pendingStays _ _ _)

/-- The tally follows the cabins (R113, R114). -/
theorem retally_follows (s : State) : tallyFollows s s.retally := by
  refine ⟨retally_tallyCounts s, by rw [retally_serial, retally_tally], fun hm => ?_⟩
  rintro ⟨st, x, y, hx, hy, h1, h0⟩
  rw [retally_tally] at hy
  have hcleared := stationCleared_of hx hy h1 h0
  have hne : s.tallyNow ≠ s.muster.tally := fun he => by
    rw [he, hx] at hy
    cases hy
    omega
  unfold State.retally
  dsimp only
  rw [if_neg hne, hcleared, decide_eq_true hm]
  exact raise_pending (by decide)

theorem tallyFollows.congr {s t u : State} (h : tallyFollows s t) (hp : u.activePlan = t.activePlan)
    (hc : u.muster.cabins = t.muster.cabins) (ht : u.muster.tally = t.muster.tally)
    (hs : u.muster.tallySerial = t.muster.tallySerial) (hstay : pendingStays t u) : tallyFollows s u := by
  obtain ⟨hcounts, hserial, hclear⟩ := h
  refine ⟨?_, by rw [hs, ht]; exact hserial, fun hm hex => hstay _ _ (by decide) (hclear hm (ht ▸ hex))⟩
  unfold tallyCounts State.tallyNow at hcounts ⊢
  rw [ht, hp, hc]
  exact hcounts

/-! ## The hand-off as the claims state it -/

section
variable {old : MusterState} {s w t : State}

theorem profileTurned.congr (hr : w.route = s.route) (hp : w.plan = s.plan) :
    profileTurned s t = profileTurned w t := by
  unfold profileTurned
  rw [hr, hp]

theorem MusterHand.strandsFrom (h : MusterHand old w t) (hs : w.muster.stranded = s.muster.stranded)
    (hg : w.muster.strandedGen = s.muster.strandedGen) (hr : w.route = s.route) (hp : w.plan = s.plan) :
    strandedFollows (profileTurned s t) s t := by
  have hf := h.strands
  rw [← profileTurned.congr (t := t) hr hp] at hf
  unfold strandedFollows at hf ⊢
  rw [← hs, ← hg]
  exact hf

theorem MusterHand.became (h : MusterHand old w t) (hs : w.muster.stranded = s.muster.stranded)
    (hg : w.muster.strandedGen = s.muster.strandedGen) (hr : w.route = s.route) (hp : w.plan = s.plan) :
    musterBecame w.muster s t := ⟨h.muster, h.strandsFrom hs hg hr hp⟩

theorem MusterHand.state (h : MusterHand old w t) : t.muster.state = w.muster.state := by rw [h.muster]

theorem MusterHand.drill (h : MusterHand old w t) : t.muster.drill = w.muster.drill := by rw [h.muster]

theorem MusterHand.store (h : MusterHand old w t) : t.store = w.store := h.same.keeps .store (by decide)

end

theorem musterBecame.congr {m : MusterController} {s t u : State} (h : musterBecame m s t) (hm : u.muster = t.muster)
    (hr : u.route = t.route) : musterBecame m s u := by
  obtain ⟨hmuster, hstrands⟩ := h
  unfold musterBecame profileTurned strandedFollows at *
  rw [hm, hr]
  exact ⟨hmuster, hstrands⟩

theorem musterEntered.congr {d : Bool} {s t u : State} (h : musterEntered d s t) (hm : u.muster = t.muster)
    (hr : u.route = t.route) (hp : u.plan = t.plan) (hs : u.store = t.store) (hstay : pendingStays t u) : musterEntered d s u := by
  obtain ⟨hcleared, htally, hmuster, hstrands, hstore⟩ := h
  have htally' := htally.congr (u := u) (activePlan_congr (by rw [hp])) (by rw [hm]) (by rw [hm]) (by rw [hm]) hstay
  unfold musterEntered vacatedCleared profileTurned strandedFollows at *
  rw [hm, hr, hs]
  exact ⟨hcleared, htally', hmuster, hstrands, hstore⟩

theorem musterResumed.congr {p : StandPhase} {d : Bool} {s t u : State} (h : musterResumed p d s t) (hm : u.muster = t.muster)
    (hr : u.route = t.route) (hs : u.store = t.store) : musterResumed p d s u := by
  obtain ⟨hbecame, hstore⟩ := h
  unfold musterResumed
  rw [hm, hs]
  exact ⟨hbecame.congr hm hr, hstore⟩

/-! ## The changes of state (R102 to R107) -/

section
variable (s : State)

/-- The state of the muster controller before the hand-off of an entry (R104). -/
def State.entering (s : State) (d : Bool) : State :=
  { s with
    muster := { s.muster with
      state := .muster, drill := d, cabins := clearVacated s.muster.cabins
      overdue := .running (s.muster.overdueTime * 60) } }

theorem enterMuster_hand (d : Bool) :
    MusterHand s.muster.state ((s.entering d).retally.requestLatch (.set d)) (s.enterMuster d) := handMuster_hand ..

theorem clearVacated_get (cs : Table CabinState) (i : Nat) :
    Table.get (clearVacated cs) i = (Table.get cs i).map fun c => { c with vacated := .no } := Table.get_mapVals ..

theorem enterMuster_entered (d : Bool) (h : s.muster.state ≠ .muster) : musterEntered d s (s.enterMuster d) := by
  have hand := enterMuster_hand s d
  have hrest := retally_rest (s.entering d)
  have hmuster : ((s.entering d).retally.requestLatch (.set d)).muster = (s.entering d).retally.muster :=
    State.requestLatch_muster ..
  have hm := hand.muster
  rw [hmuster, hrest] at hm
  have hcabins : (s.enterMuster d).muster.cabins = clearVacated s.muster.cabins := by rw [hm]; rfl
  refine ⟨fun i => by rw [hcabins]; exact clearVacated_get .., ⟨?_, ?_, fun hs => absurd hs h⟩, ?_, ?_, ?_⟩
  · exact ((retally_tallyCounts (s.entering d)).of_keeps (requestLatch_keeps ..) (by decide)).handMuster _
  · obtain ⟨-, hserial, -⟩ := retally_follows (s.entering d)
    rw [hm]
    exact hserial
  · rw [hm]
    rfl
  · refine hand.strandsFrom ?_ ?_ ?_ ?_
    · rw [hmuster, hrest]; rfl
    · rw [hmuster, hrest]; rfl
    · rw [State.requestLatch_route, hrest]; rfl
    · rw [State.requestLatch_plan, hrest]; rfl
  · rw [hand.store, requestLatch_store, hrest]
    rfl

/-- The muster controller before the hand-off of a resume (R105). -/
def State.resuming (s : State) (d : Bool) : State :=
  { s with
    muster := { s.muster with state := .muster, drill := d, hold := none, overdue := .running (s.muster.overdueTime * 60) } }

/-- A latch write asked for when `c` holds. -/
def State.askLatch (s : State) (c : Prop) [Decidable c] (w : LatchWrite) : State := if c then s.requestLatch w else s

section
variable (c : Prop) [Decidable c] (w : LatchWrite)

theorem askLatch_same : SameBut [.store] s (s.askLatch c w) := SameBut.ite (requestLatch_same ..) (SameBut.refl _ _)

theorem askLatch_muster : (s.askLatch c w).muster = s.muster := (askLatch_same s c w).keeps .muster (by decide)
theorem askLatch_route : (s.askLatch c w).route = s.route := (askLatch_same s c w).keeps .route (by decide)
theorem askLatch_plan : (s.askLatch c w).plan = s.plan := (askLatch_same s c w).keeps .plan (by decide)

theorem askLatch_store : (s.askLatch c w).store = if c then latchAsked s.store w else s.store := by
  unfold State.askLatch
  split
  · exact requestLatch_store ..
  · rfl

end

/-- A change of the controller to `m`, with a latch write asked for, and its hand-off. -/
theorem handed_became (old : MusterState) (m : MusterController) (c : Prop) [Decidable c] (w : LatchWrite)
    (hs : m.stranded = s.muster.stranded) (hg : m.strandedGen = s.muster.strandedGen) :
    musterBecame m s ((State.askLatch { s with muster := m } c w).handMuster old) ∧
    ((State.askLatch { s with muster := m } c w).handMuster old).store = if c then latchAsked s.store w else s.store := by
  have hand := handMuster_hand (State.askLatch { s with muster := m } c w) old
  have hm := askLatch_muster { s with muster := m } c w
  refine ⟨?_, ?_⟩
  · have hb := hand.became (s := s) (by rw [hm]; exact hs) (by rw [hm]; exact hg) (askLatch_route ..) (askLatch_plan ..)
    rw [hm] at hb
    exact hb
  · rw [hand.store, askLatch_store]

theorem resume_resumed {p : StandPhase} (d : Bool) (h : s.muster.state = .standdown p) : musterResumed p d s (s.resume d) := by
  have hresume : s.resume d = (State.askLatch (s.resuming d) (s.muster.state = .standdown .clearing ∨ s.muster.drill ≠ d)
      (.set d)).handMuster s.muster.state := rfl
  obtain ⟨hb, hstore⟩ := handed_became s s.muster.state (s.resuming d).muster
    (s.muster.state = .standdown .clearing ∨ s.muster.drill ≠ d) (.set d) rfl rfl
  change musterBecame _ s (State.handMuster (State.askLatch (s.resuming d) _ _) _) at hb
  rw [← hresume] at hb
  refine ⟨?_, ?_⟩
  · have hwatch : (s.resume d).muster.watch = s.muster.watch := by rw [hb.1]; rfl
    rw [hwatch]
    exact hb
  · rw [hresume]
    refine hstore.trans (if_congr ?_ rfl rfl)
    rw [h]
    exact or_congr_left ⟨fun he => by cases he; rfl, fun he => by rw [he]⟩

theorem clearDrill_became : musterBecame { s.muster with drill := false } s s.clearDrill ∧
    s.clearDrill.store = if s.latchHeld then latchAsked s.store (.set false) else s.store :=
  handed_became s s.muster.state { s.muster with drill := false } (s.latchHeld = true) (.set false) rfl rfl

theorem enterAlert_became (d : Bool) : musterBecame { s.muster with state := .alert, drill := d } s (s.enterAlert d) ∧
    (s.enterAlert d).store = s.store :=
  handed_became s s.muster.state { s.muster with state := .alert, drill := d } False .clear rfl rfl

theorem cancelAlert_became : musterBecame { s.muster with state := .quiet, drill := false } s s.cancelAlert ∧
    s.cancelAlert.store = s.store :=
  handed_became s s.muster.state { s.muster with state := .quiet, drill := false } False .clear rfl rfl

theorem standDown_became : musterBecame
      { s.muster with state := .standdown .holding, overdue := .stopped, hold := some (s.muster.holdTime * 60) } s s.standDown ∧
    s.standDown.store = s.store :=
  handed_became s s.muster.state
    { s.muster with state := .standdown .holding, overdue := .stopped, hold := some (s.muster.holdTime * 60) } False .clear rfl rfl

end

end Sys2Proof.Machine
end

section
/-! PROOFS. The table of the muster requests, the general alarm, the timers and the latch (R101 to R109, R116). -/

namespace Sys2Proof.Machine

theorem PortsOnly.pendingStays {s t : State} (h : PortsOnly s t) : pendingStays s t := fun l _ _ hp => by
  rw [h.pendingSet]
  exact hp

theorem musterBecame.state {m : MusterController} {s t : State} (h : musterBecame m s t) : t.muster.state = m.state := by rw [h.1]

theorem musterBecame.drill {m : MusterController} {s t : State} (h : musterBecame m s t) : t.muster.drill = m.drill := by rw [h.1]

/-! ## The table of R102 and R103 -/

section
variable {s : State} {d : Bool}

/-- A request may not raise the drill flag of an alarm that is none (R103). -/
theorem raisesDrill_eq_false {b : Bool} (h : d = false ∨ b = true) : (d && !b) = false := by
  rcases h with rfl | rfl
  · rfl
  · exact Bool.and_false d

theorem musterRequest_enter (h : s.muster.state = .quiet ∨ (s.muster.state = .alert ∧ (d = false ∨ s.muster.drill = true))) :
    musterRequest d s = .answer (s.enterMuster d) .ok := by
  unfold musterRequest
  rcases h with h | ⟨h, hd⟩
  · rw [h]
  · rw [h, raisesDrill_eq_false hd]
    rfl

theorem musterRequest_resume {p : StandPhase} (h : s.muster.state = .standdown p) (hd : d = false ∨ s.muster.drill = true) :
    musterRequest d s = .answer (s.resume d) .ok := by
  unfold musterRequest
  rw [h, raisesDrill_eq_false hd]
  rfl

theorem musterRequest_same (h : s.muster.state = .muster) (hd : d = s.muster.drill) : musterRequest d s = .answer s .ok := by
  unfold musterRequest
  rw [h]
  exact if_pos hd

theorem musterRequest_clear (h : s.muster.state = .muster) (hd : d = false) (hs : s.muster.drill = true) :
    musterRequest d s = .answer s.clearDrill .ok := by
  unfold musterRequest
  rw [h, hd, hs]
  rfl

theorem musterRequest_refused (h : s.muster.state ≠ .quiet) (hd : d = true) (hs : s.muster.drill = false) :
    musterRequest d s = .answer s (.refuse .state) := by
  unfold musterRequest
  cases hst : s.muster.state with
  | quiet => exact absurd hst h
  | alert => rw [hd, hs]; rfl
  | muster => rw [hd, hs]; rfl
  | standdown p => rw [hd, hs]; rfl

theorem alert_enter (h : s.muster.state = .quiet) : alert d s = .answer (s.enterAlert d) .ok := by
  unfold alert
  rw [h]

theorem alert_same (h : s.muster.state = .alert) (hd : d = s.muster.drill) : alert d s = .answer s .ok := by
  unfold alert
  rw [h]
  exact if_pos hd

theorem alert_clear (h : s.muster.state = .alert) (hd : d = false) (hs : s.muster.drill = true) :
    alert d s = .answer s.clearDrill .ok := by
  unfold alert
  rw [h, hd, hs]
  rfl

theorem alert_refused (h : s.muster.state = .alert) (hd : d = true) (hs : s.muster.drill = false) :
    alert d s = .answer s (.refuse .state) := by
  unfold alert
  rw [h, hd, hs]
  rfl

theorem cancelAlert_alert (h : s.muster.state = .alert) : cancelAlert s = .answer s.cancelAlert .ok := by
  unfold cancelAlert
  rw [h]

theorem standdown_muster (h : s.muster.state = .muster) : standdown s = .answer s.standDown .ok := by
  unfold standdown
  rw [h]

/-- A flag that is not the one asked for, with no refusal, is cleared. -/
theorem flag_cases {b : Bool} (h : ¬ (d = true ∧ b = false)) : d = b ∨ (d = false ∧ b = true) := by
  cases d <;> cases b
  · exact .inl rfl
  · exact .inr ⟨rfl, rfl⟩
  · exact absurd ⟨rfl, rfl⟩ h
  · exact .inl rfl

theorem enterMuster_state (h : s.muster.state ≠ .muster) :
    (s.enterMuster d).muster.state = .muster ∧ (s.enterMuster d).muster.drill = d := by
  obtain ⟨-, -, hm, -⟩ := enterMuster_entered s d h
  rw [hm]
  exact ⟨rfl, rfl⟩

theorem resume_state {p : StandPhase} (h : s.muster.state = .standdown p) :
    (s.resume d).muster.state = .muster ∧ (s.resume d).muster.drill = d := by
  obtain ⟨hb, -⟩ := resume_resumed s d h
  exact ⟨hb.state, hb.drill⟩

end

theorem allowed_of_not {d b : Bool} (h : ¬ (d = true ∧ b = false)) : d = false ∨ b = true := by
  rcases flag_cases h with h | ⟨h, -⟩
  · cases d
    · exact .inl rfl
    · exact .inr h.symm
  · exact .inl h

/-- Settles O31: the table by state and flag, then what each accepted request leaves. -/
theorem musterRequestsFollowTheTable : Obligations.MusterRequestsFollowTheTable := by
  refine ⟨fun tag body s hr => ?_, fun tag body d s hr hbody => ?_⟩
  · intro t ends refused
    have hrefused : ∀ {c kind}, exec c s = .next (t.answer .safety tag kind (.refuse .state)) → ends c kind refused :=
      fun h => ⟨t, h, rfl, rfl, fun _ _ => rfl⟩
    refine ⟨fun d hbody => ?_, ?_, fun d hbody => ?_, ?_⟩
    · have hexec : ∀ {u r}, alert d t = .answer u r → exec (.alert .safety tag body) s = .next (u.answer .safety tag 0x1A#8 r) :=
        fun h => congrArg Host.Outcome.next (taken_parsed hr rfl hbody h)
      cases hst : s.muster.state with
      | quiet =>
        have hb := (enterAlert_became t d).1
        exact ⟨_, hexec (alert_enter hst), hb.state, hb.drill, fun h => absurd (h.trans hst) nofun⟩
      | alert =>
        dsimp only
        split
        · rename_i h
          exact hrefused (hexec (alert_refused hst h.1 h.2))
        · rename_i h
          rcases flag_cases h with hd | ⟨hd, hs⟩
          · exact ⟨t, hexec (alert_same hst hd), hst, hd.symm, fun _ _ => rfl⟩
          · have hb := (clearDrill_became t).1
            exact ⟨_, hexec (alert_clear hst hd hs), hb.state.trans hst, hb.drill.trans hd.symm,
              fun _ h' => absurd (hd.symm.trans (h'.trans hs)) Bool.false_ne_true⟩
      | muster => exact hrefused (hexec (by unfold alert; rw [show t.muster.state = .muster from hst]))
      | standdown p => exact hrefused (hexec (by unfold alert; rw [show t.muster.state = .standdown p from hst]))
    · have hexec : ∀ {u r}, cancelAlert t = .answer u r →
          exec (.cancelAlert .safety tag body) s = .next (u.answer .safety tag 0x1B#8 r) :=
        fun h => congrArg Host.Outcome.next (taken_answer hr rfl h)
      cases hst : s.muster.state with
      | alert =>
        have hb := (cancelAlert_became t).1
        exact ⟨_, hexec (cancelAlert_alert hst), hb.state, hb.drill, fun h => absurd (h.trans hst) nofun⟩
      | quiet => exact hrefused (hexec (by unfold cancelAlert; rw [show t.muster.state = .quiet from hst]))
      | muster => exact hrefused (hexec (by unfold cancelAlert; rw [show t.muster.state = .muster from hst]))
      | standdown p => exact hrefused (hexec (by unfold cancelAlert; rw [show t.muster.state = .standdown p from hst]))
    · have hexec : ∀ {u r}, musterRequest d t = .answer u r →
          exec (.muster .safety tag body) s = .next (u.answer .safety tag 0x1C#8 r) :=
        fun h => congrArg Host.Outcome.next (taken_parsed hr rfl hbody h)
      split
      · rename_i h
        obtain ⟨hq, hd, hs⟩ := h
        exact hrefused (hexec (musterRequest_refused hq hd hs))
      · rename_i h
        have hallowed : s.muster.state ≠ .quiet → ¬ (d = true ∧ s.muster.drill = false) := fun hq hd => h ⟨hq, hd⟩
        cases hst : s.muster.state with
        | quiet =>
          have hm : t.muster.state ≠ .muster := fun he => nomatch hst.symm.trans he
          exact ⟨_, hexec (musterRequest_enter (.inl hst)), (enterMuster_state hm).1, (enterMuster_state hm).2,
            fun h' => absurd (h'.trans hst) nofun⟩
        | alert =>
          have hm : t.muster.state ≠ .muster := fun he => nomatch hst.symm.trans he
          have ha := allowed_of_not (hallowed (by rw [hst]; nofun))
          exact ⟨_, hexec (musterRequest_enter (.inr ⟨hst, ha⟩)), (enterMuster_state hm).1, (enterMuster_state hm).2,
            fun h' => absurd (h'.trans hst) nofun⟩
        | muster =>
          rcases flag_cases (hallowed (by rw [hst]; nofun)) with hd | ⟨hd, hs⟩
          · exact ⟨t, hexec (musterRequest_same hst hd), hst, hd.symm, fun _ _ => rfl⟩
          · have hb := (clearDrill_became t).1
            exact ⟨_, hexec (musterRequest_clear hst hd hs), hb.state.trans hst, hb.drill.trans hd.symm,
              fun _ h' => absurd (hd.symm.trans (h'.trans hs)) Bool.false_ne_true⟩
        | standdown p =>
          have ha := allowed_of_not (hallowed (by rw [hst]; nofun))
          have hm := resume_state (s := t) (d := d) hst
          exact ⟨_, hexec (musterRequest_resume hst ha), hm.1, hm.2, fun h' => absurd (h'.trans hst) nofun⟩
    · have hexec : ∀ {u r}, standdown t = .answer u r →
          exec (.standdown .safety tag body) s = .next (u.answer .safety tag 0x1D#8 r) :=
        fun h => congrArg Host.Outcome.next (taken_answer hr rfl h)
      cases hst : s.muster.state with
      | muster =>
        have hb := (standDown_became t).1
        exact ⟨_, hexec (standdown_muster hst), hb.state, hb.drill, fun h => absurd (h.trans hst) nofun⟩
      | quiet => exact hrefused (hexec (by unfold standdown; rw [show t.muster.state = .quiet from hst]))
      | alert => exact hrefused (hexec (by unfold standdown; rw [show t.muster.state = .alert from hst]))
      | standdown p => exact hrefused (hexec (by unfold standdown; rw [show t.muster.state = .standdown p from hst]))
  · intro t allowed
    have hmuster : exec (.muster .safety tag body) s = .next (settle .safety tag 0x1C#8 (musterRequest d t)) := by
      refine congrArg Host.Outcome.next ((takeRequest_taken hr rfl).trans ?_)
      rw [hbody]
      rfl
    have halert : exec (.alert .safety tag body) s = .next (settle .safety tag 0x1A#8 (alert d t)) := by
      refine congrArg Host.Outcome.next ((takeRequest_taken hr rfl).trans ?_)
      rw [hbody]
      rfl
    have hstanddown : exec (.standdown .safety tag []) s = .next (settle .safety tag 0x1D#8 (standdown t)) :=
      congrArg Host.Outcome.next (takeRequest_taken hr rfl)
    have hcancel : exec (.cancelAlert .safety tag []) s = .next (settle .safety tag 0x1B#8 (cancelAlert t)) :=
      congrArg Host.Outcome.next (takeRequest_taken hr rfl)
    refine ⟨_, _, _, _, hmuster, fun h => ?_, fun p h ha => ?_, fun h hd hs => ?_, halert, fun h => ?_, fun h ha => ?_, hstanddown,
      fun h => ?_, hcancel, fun h => ?_⟩
    · rw [musterRequest_enter (s := t) h]
      refine (enterMuster_entered t d ?_).congr rfl rfl rfl rfl (answer_portsOnly ..).pendingStays
      rintro (he : s.muster.state = .muster)
      rcases h with h | ⟨h, -⟩ <;> exact nomatch h.symm.trans he
    · rw [musterRequest_resume (s := t) h ha]
      exact (resume_resumed t d h).congr rfl rfl rfl
    · rw [musterRequest_clear (s := t) h hd hs]
      obtain ⟨hb, hstore⟩ := clearDrill_became t
      exact ⟨hb.congr rfl rfl, hstore⟩
    · rw [alert_enter (s := t) h]
      obtain ⟨hb, hstore⟩ := enterAlert_became t d
      exact ⟨hb.congr rfl rfl, hstore⟩
    · by_cases hd : d = s.muster.drill
      · rw [alert_same (s := t) h hd]
        refine ⟨⟨by rw [hd]; rfl, .of_not (fun hc => hc.1 rfl) rfl⟩, ?_⟩
        rw [if_neg fun hc => Bool.false_ne_true (hc.1.symm.trans (hd.trans hc.2.1))]
        rfl
      · have hcase : d = false ∧ s.muster.drill = true := by
          rcases ha with ha | ha
          · exact ⟨ha, Bool.eq_true_of_not_eq_false fun hs => hd (ha.trans hs.symm)⟩
          · exact ⟨Bool.eq_false_of_not_eq_true fun hd' => hd (hd'.trans ha.symm), ha⟩
        rw [alert_clear (s := t) h hcase.1 hcase.2]
        obtain ⟨hb, hstore⟩ := clearDrill_became t
        refine ⟨hcase.1 ▸ hb.congr rfl rfl, hstore.trans (if_congr ?_ rfl rfl)⟩
        exact ⟨fun hl => ⟨hcase.1, hcase.2, hl⟩, fun hc => hc.2.2⟩
    · rw [standdown_muster (s := t) h]
      obtain ⟨hb, hstore⟩ := standDown_became t
      exact ⟨hstore, hb.congr rfl rfl⟩
    · rw [cancelAlert_alert (s := t) h]
      obtain ⟨hb, hstore⟩ := cancelAlert_became t
      exact ⟨hstore, hb.congr rfl rfl⟩

end Sys2Proof.Machine
end

section
/-! PROOFS. The general alarm, the muster timers and the latch's completions (R101, R102, R107, R109, R116). -/

namespace Sys2Proof.Machine

/-! ## The general-alarm event (R102) -/

/-- The state at the event, with the source raised. -/
def State.alarmed (s : State) : State :=
  { s with sent := [], muster := { s.muster with watch := .given } }.raise .safety .musterByLine

theorem generalAlarm_timing {s : State} {n : Nat} (h : s.muster.watch = .timing n) : generalAlarm s.begin =
    match s.muster.state with
    | .quiet | .alert => s.alarmed.enterMuster false
    | .muster => if s.muster.drill then s.alarmed.clearDrill else s.alarmed
    | .standdown _ => s.alarmed.resume false := by
  unfold generalAlarm
  rw [show s.begin.muster.watch = .timing n from h]
  rfl

theorem alarmed_pending (s : State) : .musterByLine ∈ (s.alarmed.port .safety).pendingSet := raise_pending (by decide)

theorem enterMuster_pendingStays (s : State) (d : Bool) : pendingStays s (s.enterMuster d) := by
  refine pendingStays.trans ?_ (enterMuster_hand s d).pending
  exact (retally_pendingStays (s.entering d)).trans (.of_ports (State.requestLatch_ports ..))

theorem askLatch_pendingStays (s : State) (c : Prop) [Decidable c] (w : LatchWrite) : pendingStays s (s.askLatch c w) :=
  .of_ports ((askLatch_same s c w).keeps .ports (by decide))

theorem resume_pendingStays (s : State) (d : Bool) : pendingStays s (s.resume d) :=
  (askLatch_pendingStays (s.resuming d) _ _).trans (handMuster_hand _ _).pending

theorem clearDrill_pendingStays (s : State) : pendingStays s s.clearDrill :=
  (askLatch_pendingStays { s with muster := { s.muster with drill := false } } _ _).trans (handMuster_hand _ _).pending

theorem enterMuster_watch (s : State) (d : Bool) : (s.enterMuster d).muster.watch = s.muster.watch := by
  rw [(enterMuster_hand s d).muster, State.requestLatch_muster, retally_rest]
  rfl

theorem resume_watch (s : State) (d : Bool) : (s.resume d).muster.watch = s.muster.watch := by
  have hand := handMuster_hand ((s.resuming d).askLatch (s.muster.state = .standdown .clearing ∨ s.muster.drill ≠ d) (.set d))
    s.muster.state
  have hm := hand.muster
  rw [askLatch_muster] at hm
  exact (congrArg (fun m => m.watch) hm :)

theorem requestLatch_eq (s : State) (w : LatchWrite) : s.requestLatch w = { s with store := latchAsked s.store w } := by
  rw [← requestLatch_store]
  unfold State.requestLatch
  split <;> rfl

/-- Settles O33: the line, the watch, and the event by the muster state. -/
theorem generalAlarmEntersMuster : Obligations.GeneralAlarmEntersMuster := by
  intro s
  refine ⟨congrArg Host.Outcome.next ?_, rfl, fun n hn => ?_⟩
  · unfold alarmAsserted
    rw [show s.begin.muster.watch = s.muster.watch from rfl]
    cases hw : s.muster.watch with
    | idle => rfl
    | timing m =>
      dsimp only
      rw [if_neg nofun, ← hw]
      rfl
    | given =>
      dsimp only
      rw [if_neg nofun, ← hw]
      rfl
  · refine ⟨_, congrArg Host.Outcome.next (generalAlarm_timing hn), ?_⟩
    have hset := alarmed_pending s
    cases hst : s.muster.state with
    | quiet =>
      have hm : s.alarmed.muster.state ≠ .muster := fun he => nomatch hst.symm.trans he
      exact ⟨enterMuster_watch .., enterMuster_pendingStays _ _ _ _ (by decide) hset, (enterMuster_state hm).1,
        (enterMuster_state hm).2, enterMuster_entered s.alarmed false hm⟩
    | alert =>
      have hm : s.alarmed.muster.state ≠ .muster := fun he => nomatch hst.symm.trans he
      exact ⟨enterMuster_watch .., enterMuster_pendingStays _ _ _ _ (by decide) hset, (enterMuster_state hm).1,
        (enterMuster_state hm).2, enterMuster_entered s.alarmed false hm⟩
    | muster =>
      cases hd : s.muster.drill with
      | true =>
        obtain ⟨hb, hstore⟩ := clearDrill_became s.alarmed
        exact ⟨by rw [if_pos rfl, hb.1]; rfl, clearDrill_pendingStays _ _ _ (by decide) hset, hb.state.trans hst, hb.drill, hb,
          nofun, fun _ => hstore⟩
      | false =>
        have hm : s.alarmed.muster = { s.muster with drill := false, watch := .given } := by
          rw [← hd]
          rfl
        refine ⟨rfl, hset, hst, hd, ⟨hm, fun hc => absurd rfl hc.1, fun _ => ⟨rfl, rfl⟩⟩, fun _ => ?_, nofun⟩
        have hgiven : SameBut [.muster, .ports] s { s.begin with muster := { s.muster with watch := .given } } :=
          ((begin_same s).mono (by decide)).trans ((withMuster_same ..).mono (by decide))
        exact hgiven.trans ((raise_same ..).mono (by decide))
    | standdown p =>
      have hm := resume_state (s := s.alarmed) (d := false) hst
      have hres := resume_resumed s.alarmed false (p := p) hst
      exact ⟨resume_watch .., resume_pendingStays _ _ _ _ (by decide) hset, hm.1, hm.2, hres⟩

/-! ## Timers and completions -/

/-- The return to QUIET (R107). -/
theorem returnToQuiet_became (s : State) (h : s.muster.state ≠ .muster) :
    vacatedCleared s s.returnToQuiet ∧ tallyFollows s s.returnToQuiet ∧ s.returnToQuiet.store = s.store ∧
    musterBecame { s.muster with
      state := .quiet, drill := false, cabins := s.returnToQuiet.muster.cabins, tally := s.returnToQuiet.muster.tally
      tallySerial := s.returnToQuiet.muster.tallySerial, overdue := .stopped, hold := none } s s.returnToQuiet := by
  let w : State := { s with
    muster := { s.muster with
      state := .quiet, drill := false, cabins := clearVacated s.muster.cabins, overdue := .stopped, hold := none } }
  have hand : MusterHand s.muster.state w.retally s.returnToQuiet := handMuster_hand ..
  have hrest := retally_rest w
  have hm := hand.muster
  rw [hrest] at hm
  have hcabins : s.returnToQuiet.muster.cabins = clearVacated s.muster.cabins := by rw [hm]
  refine ⟨fun i => by rw [hcabins]; exact clearVacated_get .., ⟨?_, ?_, fun hs => absurd hs h⟩, ?_, ?_, ?_⟩
  · exact (retally_tallyCounts w).handMuster _
  · obtain ⟨-, hserial, -⟩ := retally_follows w
    rw [hm]
    exact hserial
  · rw [hand.store, hrest]
  · rw [hm]
  · exact hand.strandsFrom (by rw [hrest]) (by rw [hrest]) (by rw [hrest]) (by rw [hrest])

/-- Settles O34: the expiries in the states whose timers run, and both completions. -/
theorem timersAndLatchEndTheMuster : Obligations.TimersAndLatchEndTheMuster := by
  intro s
  refine ⟨fun n ho hst => congrArg Host.Outcome.next ?_, fun n hh hst => congrArg Host.Outcome.next ?_,
    fun d hf => congrArg Host.Outcome.next ?_, fun hf => ?_⟩
  · unfold overdueExpiry
    rw [show s.begin.muster.overdue = .running n from ho, show s.begin.muster.state = .muster from hst]
    dsimp only
    unfold State.raiseIf
    exact if_congr (by rw [decide_eq_true_iff]; rfl) rfl rfl
  · unfold holdExpiry
    rw [show s.begin.muster.hold = some n from hh, show s.begin.muster.state = .standdown .holding from hst]
    dsimp only
    rw [requestLatch_eq]
    rfl
  · unfold latchSetCompletion
    rw [show s.begin.store.inFlight = some (.latch (.set d)) from hf]
    rfl
  · have hclear : latchClearCompletion s.begin =
        if s.muster.state = .standdown .clearing ∧ s.store.waiting = none then (s.begin.storeLatch ⟨false, false⟩).returnToQuiet
        else s.begin.storeLatch ⟨false, false⟩ := by
      unfold latchClearCompletion
      rw [show s.begin.store.inFlight = some (.latch .clear) from hf]
      rfl
    refine ⟨_, congrArg Host.Outcome.next hclear, ?_⟩
    by_cases hc : s.muster.state = .standdown .clearing ∧ s.store.waiting = none
    · rw [if_pos hc, if_pos hc]
      obtain ⟨hv, ht, hstore, hb⟩ := returnToQuiet_became (s.begin.storeLatch ⟨false, false⟩) fun he => nomatch hc.1.symm.trans he
      exact ⟨hstore, by rw [hb.1]; rfl, hv, ht, hb⟩
    · rw [if_neg hc, if_neg hc]
      exact ⟨rfl, rfl, rfl, ((begin_same s).mono (by decide)).trans (storeLatch_same ..)⟩

end Sys2Proof.Machine
end

section
/-! PROOFS. Every change of the muster state or the drill flag is handed on (R108). -/

namespace Sys2Proof.Machine

theorem isEntry_iff (a b : MusterState) : isEntry a b = true ↔ a ≠ b ∧ (b = .alert ∨ b = .muster) := by
  simp [isEntry]

/-- The hand-off as R108 states it, seen from a state that the change of the controller started from. -/
theorem MusterHand.handed {s w t : State} (h : MusterHand s.muster.state w t) (hplan : w.plan = s.plan)
    (hroute : w.route = s.route)
    (hdir : w.dir = s.dir) (hsegs : w.segs = s.segs) (hs : w.muster.stranded = s.muster.stranded)
    (hg : w.muster.strandedGen = s.muster.strandedGen) : musterHanded s t := by
  have hentry : entryMade s t ↔ isEntry s.muster.state w.muster.state = true := by
    rw [isEntry_iff, entryMade, h.state]
  have hprofile : t.route.profile = t.muster.state.profile := by rw [h.state, h.profile]
  have hdisplay : ∀ k, w.display k = s.display k := fun k => State.display_congr hdir k
  have hseg : ∀ g, w.seg g = s.seg g := fun g => by rw [State.seg, State.seg, hsegs]
  refine ⟨hprofile, fun hp => ?_, fun hp => ?_, h.strandsFrom hs hg hroute hplan, fun he => ?_, fun he => ?_, h.hotel, ?_,
    fun k hf => ?_,
    fun hv he => ?_, fun he g => ?_⟩
  · rw [← hroute]
    exact h.routeKept (by rw [hroute]; exact hp)
  · have hstarted := h.routeStarted (by rw [hroute]; exact hp)
    rw [hroute, hplan] at hstarted
    exact hstarted
  · rw [← hplan]
    exact h.edit (by rw [hplan, ← hentry]; exact he)
  · rw [← hplan]
    exact h.editKept (by rw [hplan, ← hentry]; exact he)
  · have honly := h.only
    unfold composedOnly at honly ⊢
    simp only [hdisplay, hseg] at honly
    exact honly
  · exact h.composed k (by rw [hdisplay]; exact hf)
  · have hplaced := h.placed (hv.congr hdir hsegs) (hentry.mp he)
    exact hplaced.congr (by rw [hplan]) hdir.symm hsegs.symm rfl rfl
  · have hprefix := h.queues (Bool.eq_false_of_not_eq_true fun hi => he (hentry.mpr hi)) g
    rwa [hseg] at hprefix

/-! ## States that differ in the ports -/

theorem SameBut.eq_with {s t : State} (h : SameBut [.ports, .cond] s t) :
    t = { s with ports := t.ports, cond := t.cond, sent := t.sent } := by
  have hstore : t.store = s.store := h.keeps .store (by decide)
  have hplan : t.plan = s.plan := h.keeps .plan (by decide)
  have hroute : t.route = s.route := h.keeps .route (by decide)
  have hprog : t.prog = s.prog := h.keeps .prog (by decide)
  have hmuster : t.muster = s.muster := h.keeps .muster (by decide)
  have hresolver : t.resolver = s.resolver := h.keeps .resolver (by decide)
  have hdir : t.dir = s.dir := h.keeps .dir (by decide)
  have hsegs : t.segs = s.segs := h.keeps .segs (by decide)
  have hbus : t.bus = s.bus := h.keeps .bus (by decide)
  have hline : t.alarmLine = s.alarmLine := h.keeps .alarmLine (by decide)
  have hfree : t.freeCount = s.freeCount := h.keeps .freeCount (by decide)
  have hpending : t.pending = s.pending := h.keeps .pending (by decide)
  rw [← hstore, ← hplan, ← hroute, ← hprog, ← hmuster, ← hresolver, ← hdir, ← hsegs, ← hbus, ← hline, ← hfree, ← hpending]

theorem musterHanded.of_ports {s u t : State} (h : musterHanded u t) (hu : PortsOnly s u) : musterHanded s t := by
  rw [(hu.keeps.toSameBut.mono (by decide)).eq_with] at h
  exact h

theorem musterHanded.to_ports {s t v : State} (h : musterHanded s t) (hv : SameBut [.ports] t v)
    (hp : ∀ l, (v.port l).pendingSet = (t.port l).pendingSet) : musterHanded s v := by
  have heq := (hv.mono (qs := [.ports, .cond]) (by decide)).eq_with
  have hcond : v.cond = t.cond := hv.keeps .cond (by decide)
  rw [hcond] at heq
  obtain ⟨hprofile, hkept, hstarted, hstrands, hedit, heditKept, hhotel, honly, hall, hplaced, hqueues⟩ := h
  generalize v.ports = ports, v.sent = sent at heq
  subst heq
  exact ⟨hprofile, hkept, hstarted, hstrands, fun he => ⟨(hedit he).1, by rw [hp]; exact (hedit he).2⟩, heditKept,
    by rw [hp]; exact hhotel, honly, hall, hplaced, hqueues⟩

/-! ## Command by command -/

/-- The muster state and the drill flag are as they were, or their change is handed on. -/
def changeHanded (s t : State) : Prop :=
  (sameMuster s.muster.state t.muster.state ∧ t.muster.drill = s.muster.drill) ∨ musterHanded s t

theorem changeHanded.of_muster {s t : State} (hs : t.muster.state = s.muster.state) (hd : t.muster.drill = s.muster.drill) :
    changeHanded s t := .inl ⟨.inl hs.symm, hd⟩

theorem changeHanded.of_keeps {fs : List Facet} {s t : State} (h : Keeps fs s t) (hf : Facet.muster ∉ fs) : changeHanded s t := by
  have hm : t.muster = _ := h.keeps .muster hf
  exact .of_muster (by rw [hm]) (by rw [hm])

section
variable (s : State)

theorem enterMuster_handed (d : Bool) : musterHanded s (s.enterMuster d) := by
  have hrest := retally_rest (s.entering d)
  refine (enterMuster_hand s d).handed ?_ ?_ ?_ ?_ ?_ ?_
  · rw [State.requestLatch_plan, hrest]; rfl
  · rw [State.requestLatch_route, hrest]; rfl
  · rw [State.requestLatch_dir, hrest]; rfl
  · rw [State.requestLatch_segs, hrest]; rfl
  · rw [State.requestLatch_muster, hrest]; rfl
  · rw [State.requestLatch_muster, hrest]; rfl

theorem returnToQuiet_handed : musterHanded s s.returnToQuiet := by
  let w : State := { s with
    muster := { s.muster with
      state := .quiet, drill := false, cabins := clearVacated s.muster.cabins, overdue := .stopped, hold := none } }
  have hand : MusterHand s.muster.state w.retally s.returnToQuiet := handMuster_hand ..
  have hrest := retally_rest w
  exact hand.handed (by rw [hrest]) (by rw [hrest]) (by rw [hrest]) (by rw [hrest]) (by rw [hrest]) (by rw [hrest])

/-- A change of the controller alone, with a latch write asked for, is handed on. -/
theorem askLatch_handed (m : MusterController) (c : Prop) [Decidable c] (w : LatchWrite) (hs : m.stranded = s.muster.stranded)
    (hg : m.strandedGen = s.muster.strandedGen) :
    musterHanded s ((State.askLatch { s with muster := m } c w).handMuster s.muster.state) := by
  have hsame := askLatch_same { s with muster := m } c w
  refine (handMuster_hand _ _).handed (hsame.keeps .plan (by decide)) (hsame.keeps .route (by decide))
    (hsame.keeps .dir (by decide)) (hsame.keeps .segs (by decide)) ?_ ?_
  · rw [askLatch_muster]
    exact hs
  · rw [askLatch_muster]
    exact hg

theorem resume_handed (d : Bool) : musterHanded s (s.resume d) :=
  askLatch_handed s (s.resuming d).muster (s.muster.state = .standdown .clearing ∨ s.muster.drill ≠ d) (.set d) rfl rfl

theorem clearDrill_handed : musterHanded s s.clearDrill :=
  askLatch_handed s { s.muster with drill := false } (s.latchHeld = true) (.set false) rfl rfl

theorem enterAlert_handed (d : Bool) : musterHanded s (s.enterAlert d) :=
  askLatch_handed s { s.muster with state := .alert, drill := d } False .clear rfl rfl

theorem cancelAlert_handed : musterHanded s s.cancelAlert :=
  askLatch_handed s { s.muster with state := .quiet, drill := false } False .clear rfl rfl

theorem standDown_handed : musterHanded s s.standDown :=
  askLatch_handed s
    { s.muster with state := .standdown .holding, overdue := .stopped, hold := some (s.muster.holdTime * 60) } False .clear rfl rfl

theorem changeHanded.refl : changeHanded s s := .of_muster rfl rfl

theorem alert_changeHanded (d : Bool) : changeHanded s (alert d s).state := by
  unfold alert
  split
  · exact .inr (enterAlert_handed s d)
  · split
    · exact .refl s
    split
    · exact .refl s
    · exact .inr (clearDrill_handed s)
  · exact .refl s

theorem cancelAlert_changeHanded : changeHanded s (cancelAlert s).state := by
  unfold cancelAlert
  split
  · exact .inr (cancelAlert_handed s)
  · exact .refl s

theorem musterRequest_changeHanded (d : Bool) : changeHanded s (musterRequest d s).state := by
  unfold musterRequest
  split
  · exact .inr (enterMuster_handed s d)
  · split
    · exact .refl s
    · exact .inr (enterMuster_handed s d)
  · split
    · exact .refl s
    split
    · exact .refl s
    · exact .inr (clearDrill_handed s)
  · split
    · exact .refl s
    · exact .inr (resume_handed s d)

theorem standdown_changeHanded : changeHanded s (standdown s).state := by
  unfold standdown
  split
  · exact .inr (standDown_handed s)
  · exact .refl s

theorem generalAlarm_changeHanded : changeHanded s (generalAlarm s.begin) := by
  cases hw : s.muster.watch with
  | timing n =>
    rw [generalAlarm_timing hw]
    split
    · exact .inr (enterMuster_handed s.alarmed false)
    · exact .inr (enterMuster_handed s.alarmed false)
    · split
      · exact .inr (clearDrill_handed s.alarmed)
      · exact .of_muster rfl rfl
    · exact .inr (resume_handed s.alarmed false)
  | idle =>
    unfold generalAlarm
    rw [show s.begin.muster.watch = .idle from hw]
    exact .of_muster rfl rfl
  | given =>
    unfold generalAlarm
    rw [show s.begin.muster.watch = .given from hw]
    exact .of_muster rfl rfl

theorem holdExpiry_changeHanded : changeHanded s (holdExpiry s) := by
  unfold holdExpiry
  split
  · rename_i hst
    rw [requestLatch_eq]
    exact .inl ⟨.inr ⟨_, _, hst, rfl⟩, rfl⟩
  · exact .refl s

theorem overdueExpiry_changeHanded : changeHanded s (overdueExpiry s) := by
  unfold overdueExpiry
  split
  · unfold State.raiseIf
    split <;> exact .of_muster rfl rfl
  · exact .refl s

theorem latchClearCompletion_changeHanded : changeHanded s (latchClearCompletion s) := by
  unfold latchClearCompletion
  split
  · dsimp only
    split
    · exact .inr (returnToQuiet_handed (s.storeLatch ⟨false, false⟩))
    · exact .of_muster rfl rfl
  · exact .refl s

theorem latchSetCompletion_changeHanded : changeHanded s (latchSetCompletion s) := by
  unfold latchSetCompletion
  split
  · exact .of_muster rfl rfl
  · exact .refl s

theorem settingsCompletion_changeHanded : changeHanded s (settingsCompletion s) := by
  unfold settingsCompletion
  split
  · rename_i w _
    cases w with
    | timers a b => exact .of_muster rfl rfl
    | silence l n => cases l <;> exact .of_muster rfl rfl
  · exact .refl s

end

theorem request_changeHanded {area : Area} {own : Bool} {kind tag : Byte} {l : LinkId} {h : State → Handled} {s t : State}
    (hexec : (Host.Outcome.next (takeRequest area own kind l tag h s) : Host.Outcome State Fault Refusal) = .next t)
    (hh : ∀ u, changeHanded u (h u).state) : changeHanded s t := by
  cases hexec
  rcases takeRequest_reach (area := area) (own := own) (kind := kind) (tag := tag) (l := l) (h := h) (s := s) with hk |
    ⟨u, hu, ht, hsame⟩
  · exact .of_keeps hk.keeps (by decide)
  · have hmu : u.muster = s.muster := hu.keeps.toSameBut.keeps .muster (by decide)
    have hmt := hsame.keeps .muster (by decide)
    rcases hh u with ⟨hs, hd⟩ | hm
    · refine .inl ⟨?_, ?_⟩
      · rw [hmt, ← hmu]
        exact hs
      · rw [hmt, ← hmu]
        exact hd
    · exact .inr ((hm.of_ports hu).to_ports hsame ht.pendingSet)

theorem parsed_changeHanded {α : Type} {p : Except Reason α} {f : State → α → Handled} (u : State)
    (hf : ∀ a, changeHanded u (f u a).state) : changeHanded u (parsed p u (f u)).state := by
  cases p with
  | ok a => exact hf a
  | error r => exact .refl u

theorem execPlain_changeHanded {c : Instr} {s t : State} (hplain : isFrame c = false) (hr : c ≠ .reset) (h : exec c s = .next t) :
    changeHanded s t := by
  cases c
  case reset => exact absurd rfl hr
  case alert l tag body =>
    exact request_changeHanded h fun u => parsed_changeHanded (f := fun u d => alert d u) u (alert_changeHanded u)
  case muster l tag body =>
    exact request_changeHanded h fun u => parsed_changeHanded (f := fun u d => musterRequest d u) u (musterRequest_changeHanded u)
  case cancelAlert l tag body => exact request_changeHanded h cancelAlert_changeHanded
  case standdown l tag body => exact request_changeHanded h standdown_changeHanded
  case generalAlarmEvent =>
    cases h
    exact generalAlarm_changeHanded s
  case overdueTimerExpiry =>
    cases h
    exact overdueExpiry_changeHanded s.begin
  case standDownHoldExpiry =>
    cases h
    exact holdExpiry_changeHanded s.begin
  case latchSetCompletion =>
    cases h
    exact latchSetCompletion_changeHanded s.begin
  case latchClearCompletion =>
    cases h
    exact latchClearCompletion_changeHanded s.begin
  case settingsWriteCompletion =>
    cases h
    exact settingsCompletion_changeHanded s.begin
  case unknownKind => cases hplain
  case badCrcFrame => cases hplain
  case frameWhileBusy => cases hplain
  case startByte => cases hplain
  case lengthOutOfRange => cases hplain
  all_goals exact .of_keeps (exec_keeps h) (of_decide_eq_true rfl)

/-- Settles O32: the commands that change the controller hand the change on; every other leaves it. -/
theorem musterChangesReachEveryBlock : Obligations.MusterChangesReachEveryBlock := by
  intro c s t hc h hchange
  have hhanded : changeHanded s t := by
    by_cases hf : isFrame c = true
    · rcases exec_frame_outcome hf h with ⟨l, tag, kind, body, hknown, hexec⟩ | hk
      · obtain ⟨hplain, hreset⟩ := isFrame_ofFrame l tag kind body hknown
        exact execPlain_changeHanded hplain hreset hexec
      · exact .of_keeps hk (by decide)
    · exact execPlain_changeHanded (Bool.eq_false_of_not_eq_true hf) hc h
  rcases hhanded with ⟨hs, hd⟩ | hm
  · rcases hchange with hn | hn
    · exact absurd hs hn
    · exact absurd hd hn
  · exact hm

end Sys2Proof.Machine
end

section
/-! PROOFS. Cabins and stations (R94, R95, R98 to R100, R112, R118, R139). -/

namespace Sys2Proof.Machine

/-! ## Causes of compositions, whatever the order of the directory (R139, R141) -/

theorem Recompose.mark_mark (r : Recompose) (c : Cause) : (r.mark c).mark c = r.mark c := by
  cases r with
  | clear => simp [Recompose.mark]
  | set p e => simp [Recompose.mark]

section
variable {s : State} (c : Nat → Cause) (ks : List Nat) {k : Nat}

/-- A new back card carries the cause of its record. -/
theorem composeKeys_cause {x : StoredCard} (hx : ((s.composeKeys c ks).1.display k).buffers.backCard = some x)
    (hnew : (s.display k).buffers.backCard ≠ some x) : x.cause = c k := by
  induction ks generalizing s with
  | nil => exact absurd hx hnew
  | cons j ks ih =>
    by_cases hfirst : ((s.composeRecord j (c j)).1.display k).buffers.backCard = some x
    · by_cases hj : k = j
      · subst hj
        rw [composeRecord_display_same] at hfirst
        exact composedRecord_cause hfirst hnew
      · rw [composeRecord_display_other s j (c j) hj] at hfirst
        exact absurd hfirst hnew
    · exact ih hx hfirst

/-- A record in transit keeps the cause of its hand-offs in its mark. -/
theorem composeKeys_transit (hf : (s.display k).state ≠ .free) (ht : s.inTransit k = true) :
    ((s.composeKeys c ks).1.display k).recompose =
      if k ∈ ks then (s.display k).recompose.mark (c k) else (s.display k).recompose := by
  induction ks generalizing s with
  | nil => rfl
  | cons j ks ih =>
    have hc := composeRecord_composed s j (c j)
    have hrest := ih (s := (s.composeRecord j (c j)).1) (by rw [hc.state_eq]; exact hf) (by rw [inTransit_congr hc]; exact ht)
    refine hrest.trans ?_
    by_cases hj : k = j
    · subst hj
      rw [composeRecord_display_same, composedRecord_transit hf ht, if_pos List.mem_cons_self]
      split
      · exact Recompose.mark_mark ..
      · rfl
    · rw [composeRecord_display_other s j (c j) hj]
      exact if_congr (by rw [List.mem_cons, or_iff_right hj]) rfl rfl

end

/-! ## A station's change and the stranded list (R118) -/

theorem rebuildStranded_stranded {s : State} (g : Generation) (hg : s.route.published = some g) (hp : g.profile = .safety) :
    s.rebuildStranded.muster.stranded = s.strandedList g ∧ s.rebuildStranded.muster.strandedGen = g.number ∧
    (s.muster.stranded.length < (s.strandedList g).length → .stranded ∈ (s.rebuildStranded.port .safety).pendingSet) := by
  rw [rebuildStranded_eq s hg, if_pos hp]
  split
  · exact ⟨rfl, rfl, fun _ => raise_pending (by decide)⟩
  · exact ⟨rfl, rfl, fun h => absurd h ‹_›⟩

theorem rebuildStranded_idle {s : State} (h : ∀ g, s.route.published = some g → g.profile ≠ .safety) : s.rebuildStranded = s := by
  cases hg : s.route.published with
  | none => rw [State.rebuildStranded, hg]
  | some g => rw [rebuildStranded_eq s hg, if_neg (h g hg)]

/-- The stranded list rebuilt when a station moved, and what follows that leaves it. -/
theorem strandedRebuilt_of {moved : Prop} [Decidable moved] {s w t : State} (hr : w.route = s.route)
    (hs : w.muster.stranded = s.muster.stranded) (hg : w.muster.strandedGen = s.muster.strandedGen)
    (ht : Composed (if moved then w.rebuildStranded else w) t) : strandedRebuilt moved s t := by
  have hmuster := ht.muster_eq
  refine ⟨fun g hm hpub hp => ?_, fun hno => ?_⟩
  · rw [if_pos hm] at ht hmuster
    obtain ⟨hlist, hgen, hraised⟩ := rebuildStranded_stranded g (hr ▸ hpub) hp
    have hsame : t.strandedList g = w.strandedList g := by
      obtain ⟨m, p, he⟩ := rebuildStranded_rest w
      unfold State.strandedList State.placementStation State.activePlan
      rw [ht.plan_eq, hmuster, he]
    rw [hmuster, hsame, hlist, hgen]
    refine ⟨rfl, rfl, fun hlt => ?_⟩
    rw [State.port, ht.ports_eq]
    exact hraised (by rw [hs]; exact hlt)
  · rw [hmuster]
    by_cases hm : moved
    · rw [if_pos hm, rebuildStranded_idle fun g hpub hp => hno ⟨hm, g, hr ▸ hpub, hp⟩]
      exact ⟨hs, hg⟩
    · rw [if_neg hm]
      exact ⟨hs, hg⟩

/-! ## A cabin's record stored (R94, R113, R118, R139) -/

section
variable (s : State) (i : Nat) (c : CabinState) (pressed : Option Nat)

theorem setCabin_cabin (j : Nat) : (s.setCabin i c).cabin j = if j = i then c else s.cabin j := by
  unfold State.cabin
  rw [show (s.setCabin i c).muster.cabins = Table.put s.muster.cabins i c from rfl, Table.get_put]
  split <;> rfl

/-- The records on the doors of cabin `i`. -/
def onDoor (s : State) (i : Nat) (d : Display) : Bool :=
  match s.standing d with
  | some (_, pl) => pl.role == .door i
  | none => false

theorem composeCabin_eq : s.composeCabin i pressed =
    (s.composeKeys (fun k => if pressed = some k then .press else .other) (s.keysWhere fun _ d => onDoor s i d)).1 := rfl

theorem onDoor_of {k p : Nat} {pl : Placement} (hs : s.standing (s.display k) = some (p, pl)) (hr : pl.role = .door i) :
    onDoor s i (s.display k) = true := by
  unfold onDoor
  rw [hs]
  exact beq_iff_eq.mpr hr

theorem mark_press (r : Recompose) (q : Prop) [Decidable q] : r.mark (if q then .press else .other) =
    match r with
    | .clear => .set (decide q) false
    | .set press entry => .set (press || decide q) entry := by
  by_cases hq : q
  · rw [if_pos hq, decide_eq_true hq]
    cases r <;> rfl
  · rw [if_neg hq, decide_eq_false hq]
    cases r <;> rfl

/-- The compositions of a cabin's change, by their causes. -/
theorem composeCabin_causes : causesKept pressed
    (fun k => ∃ p pl, s.standing (s.display k) = some (p, pl) ∧ pl.role = .door i) s (s.composeCabin i pressed) := by
  refine ⟨fun k x hx hnew => composeKeys_cause _ _ hx hnew, ?_⟩
  rintro k ⟨p, pl, hs, hr⟩ ht
  have hf := standing_ne_free hs
  have hmem : k ∈ s.keysWhere fun _ d => onDoor s i d := mem_keysWhere_of hf (onDoor_of s i hs hr)
  rw [composeCabin_eq, composeKeys_transit _ _ hf ht, if_pos hmem]
  exact mark_press ..

/-- The state with the cabin's record stored, the tally and the stranded list following. -/
def State.cabinChanged (s : State) (i : Nat) (c : CabinState) : State :=
  if c.stationOverride ≠ (s.cabin i).stationOverride ∧
      cabinStation s.activePlan (s.setCabin i c).retally.muster.cabins i ≠ cabinStation s.activePlan s.muster.cabins i
  then (s.setCabin i c).retally.rebuildStranded else (s.setCabin i c).retally

theorem changeCabin_eq (h : c ≠ s.cabin i) : s.changeCabin i c pressed = (s.cabinChanged i c).composeCabin i pressed := by
  have hplan : (s.setCabin i c).retally.activePlan = s.activePlan :=
    activePlan_congr (by rw [retally_rest]; rfl)
  rw [State.changeCabin, if_neg h]
  refine congrArg (fun w => State.composeCabin w i pressed) ?_
  unfold State.cabinChanged
  rw [hplan]
  by_cases hmoved : c.stationOverride ≠ (s.cabin i).stationOverride ∧
      cabinStation s.activePlan (s.setCabin i c).retally.muster.cabins i ≠ cabinStation s.activePlan s.muster.cabins i
  · rw [if_pos hmoved, if_neg (not_or.mpr hmoved)]
  · rw [if_neg hmoved, if_pos (by rw [not_and_or, not_not, not_not] at hmoved; exact hmoved)]

/-- What the record's storing leaves: all but the muster controller and the ports. -/
theorem cabinChanged_same : SameBut [.muster, .ports] s (s.cabinChanged i c) := by
  have hset : SameBut [.muster, .ports] s (s.setCabin i c).retally :=
    ((withMuster_same ..).mono (by decide)).trans (retally_same _)
  exact SameBut.ite (hset.trans (rebuildStranded_same _)) hset

theorem cabinChanged_pendingStays : pendingStays (s.setCabin i c).retally (s.cabinChanged i c) := by
  unfold State.cabinChanged
  split
  · exact rebuildStranded_pendingStays _
  · exact .refl _

theorem cabinChanged_muster : (s.cabinChanged i c).muster =
    { (s.setCabin i c).retally.muster with
      stranded := (s.cabinChanged i c).muster.stranded, strandedGen := (s.cabinChanged i c).muster.strandedGen } := by
  unfold State.cabinChanged
  split
  · obtain ⟨m, p, he⟩ := rebuildStranded_rest (s.setCabin i c).retally
    rw [he]
  · rfl

theorem changeCabin_stored : cabinStored i c pressed s (s.changeCabin i c pressed) := by
  unfold cabinStored
  by_cases h : c = s.cabin i
  · rw [if_pos h]
    exact if_pos h
  rw [if_neg h, changeCabin_eq s i c pressed h]
  let w := s.cabinChanged i c
  let t := w.composeCabin i pressed
  have hc : Composed w t := composeCabin_composed ..
  have hsame : SameBut [.muster, .ports] s w := cabinChanged_same s i c
  have hplan : w.plan = s.plan := hsame.keeps .plan (by decide)
  have hdir : w.dir = s.dir := hsame.keeps .dir (by decide)
  have hsegs : w.segs = s.segs := hsame.keeps .segs (by decide)
  have hrest := retally_rest (s.setCabin i c)
  have hmuster : t.muster = { (s.setCabin i c).retally.muster
    with stranded := t.muster.stranded, strandedGen := t.muster.strandedGen } := by
    rw [hc.muster_eq]
    exact cabinChanged_muster s i c
  have hcabins : t.muster.cabins = (s.setCabin i c).muster.cabins := by rw [hmuster, hrest]
  have hcabin : ∀ j, t.cabin j = if j = i then c else s.cabin j := fun j => by
    rw [← setCabin_cabin, State.cabin, hcabins]
    rfl
  have hstanding : ∀ d, w.standing d = s.standing d := fun d => by
    rw [State.standing, State.standing, activePlan_congr (t := w) (s := s) (by rw [hplan])]
  have hdisplay : ∀ k, w.display k = s.display k := fun k => State.display_congr hdir k
  have htransit : ∀ k, w.inTransit k = s.inTransit k := fun k => by
    rw [State.inTransit, State.inTransit, State.seg, State.seg, hsegs]
  refine ⟨(hcabin i).trans (if_pos rfl), fun j hj => (hcabin j).trans (if_neg hj), ?_, ?_, ?_, ?_, ?_, fun k p pl hs hr => ?_, ?_⟩
  · have hactive : t.activePlan = (s.setCabin i c).retally.activePlan := by
      refine activePlan_congr ?_
      rw [hc.plan_eq, hplan, hrest]
      rfl
    have hports : pendingStays w t := .of_ports hc.ports_eq
    exact (retally_follows (s.setCabin i c)).congr hactive (by rw [hmuster]) (by rw [hmuster]) (by rw [hmuster])
      ((cabinChanged_pendingStays s i c).trans hports)
  · rw [hmuster, hrest]
    rfl
  · have hiff : (c.stationOverride ≠ (s.cabin i).stationOverride ∧
        cabinStation t.activePlan t.muster.cabins i ≠ cabinStation s.activePlan s.muster.cabins i) ↔
        (c.stationOverride ≠ (s.cabin i).stationOverride ∧
          cabinStation s.activePlan (s.setCabin i c).retally.muster.cabins i ≠ cabinStation s.activePlan s.muster.cabins i) := by
      rw [activePlan_congr (t := t) (s := s) (by rw [hc.plan_eq, hplan]), hcabins, hrest]
    rw [propext hiff]
    exact strandedRebuilt_of (by rw [hrest]; rfl) (by rw [hrest]; rfl) (by rw [hrest]; rfl) hc
  · exact (hsame.mono (by decide)).trans (hc.same.mono (by decide))
  · have honly := hc.only
    unfold composedOnly at honly ⊢
    simp only [hdisplay, State.seg, hsegs] at honly
    exact honly
  · have hsw : w.standing (w.display k) = some (p, pl) := by rw [hdisplay, hstanding, hs]
    exact composeKeys_isComposed _ (mem_keysWhere_of (standing_ne_free hsw) (onDoor_of w i hsw hr)) (standing_ne_free hsw)
  · have hcauses := composeCabin_causes w i pressed
    unfold causesKept at hcauses ⊢
    simp only [hstanding, hdisplay, htransit] at hcauses
    exact hcauses

end

end Sys2Proof.Machine
end

section
/-! PROOFS. The requests that store cabin and zone fields (R95, R98 to R100, R112). -/

namespace Sys2Proof.Machine

/-- A station byte: FFh is none (R99, R100). -/
def stationByte (x : Nat) : Option Nat := if x = 255 then none else some x

theorem stationOrAbsent_eq (x : Nat) : stationOrAbsent x = if 8 ≤ x ∧ x ≠ 255 then .error .range else .ok (stationByte x) := by
  unfold stationOrAbsent optionalBelow stationByte
  rw [show Config.stationCount = 8 from rfl]
  by_cases h : x = 255
  · rw [if_pos h, if_neg fun hc => hc.2 h, if_pos h]
  · rw [if_neg h]
    by_cases hx : x < 8
    · rw [if_pos hx, if_neg fun hc => Nat.not_le.mpr hx hc.1, if_neg h]
    · rw [if_neg hx, if_pos ⟨Nat.not_lt.mp hx, h⟩]

theorem markOf_eq (x : Nat) : markOf x = if 2 ≤ x then .error .range else .ok (if x = 0 then .crew else .no) := by
  match x with
  | 0 => rfl
  | 1 => rfl
  | n + 2 => rw [if_pos (Nat.le_add_left 2 n)]; rfl

theorem stationDefined_eq (p : Plan) (st : Option Nat) :
    stationDefined p st = !(st.any fun y => decide (Table.get p.stations y = none)) := by
  cases st with
  | none => rfl
  | some y =>
    unfold stationDefined Table.has
    cases h : Table.get p.stations y with
    | none => simp [h]
    | some x => simp [h]

theorem cabinNumberFits_false {n : Nat} (h : n = 0 ∨ 99999 < n) : cabinNumberFits n = false := by
  rw [← Bool.not_eq_true, cabinNumberFits_iff]
  omega

theorem cabinNumberFits_true {n : Nat} (h : ¬ (n = 0 ∨ 99999 < n)) : cabinNumberFits n = true := by
  rw [cabinNumberFits_iff]
  omega

section
variable {s : State} {n : Nat} {st : Option Nat} {i : Nat}

theorem assignCabin_unfit (h : n = 0 ∨ 99999 < n) : assignCabin n st s = .answer s (.bad .range) := by
  rw [assignCabin, cabinNumberFits_false h]
  rfl

theorem assignCabin_fits (h : ¬ (n = 0 ∨ 99999 < n)) : assignCabin n st s =
    match cabinIndex s.activePlan n with
    | none => .answer s (.refuse .notFound)
    | some i =>
      if st.any fun y => decide (Table.get s.activePlan.stations y = none) then .answer s (.refuse .notFound)
      else .answer (s.changeCabin i { s.cabin i with stationOverride := st } none) .ok := by
  rw [assignCabin, cabinNumberFits_true h]
  cases cabinIndex s.activePlan n with
  | none => rfl
  | some i =>
    dsimp only
    rw [stationDefined_eq]
    cases st.any fun y => decide (Table.get s.activePlan.stations y = none) <;> rfl

theorem markCabin_unfit {v : Vacated} (h : n = 0 ∨ 99999 < n) : markCabin n v s = .answer s (.bad .range) := by
  rw [markCabin, cabinNumberFits_false h]
  rfl

theorem markCabin_fits {v : Vacated} (h : ¬ (n = 0 ∨ 99999 < n)) : markCabin n v s =
    if s.muster.state = .quiet ∨ s.muster.state = .alert then .answer s (.refuse .state)
    else match cabinIndex s.activePlan n with
      | none => .answer s (.refuse .notFound)
      | some i => .answer (s.changeCabin i { s.cabin i with vacated := v } none) .ok := by
  rw [markCabin, cabinNumberFits_true h, Bool.not_true, if_neg Bool.false_ne_true]
  cases s.muster.state with
  | quiet => rw [if_pos (.inl rfl)]
  | alert => rw [if_pos (.inr rfl)]
  | muster => exact (if_neg (by simp)).symm
  | standdown p => exact (if_neg (by simp)).symm

end

/-! ## Zones (R98, R100) -/

section
variable (s : State) (z : Nat) (st : Option Nat)

/-- The state with the zone's override stored. -/
def State.withZone (s : State) (z : Nat) (st : Option Nat) : State :=
  { s with muster := { s.muster with zoneOverrides := Table.set s.muster.zoneOverrides z st } }

/-- The zone's station differs when the override is stored. -/
def zoneMoves (s : State) (z : Nat) (st : Option Nat) : Prop :=
  zoneStation s.activePlan (s.withZone z st).muster.zoneOverrides z ≠ zoneStation s.activePlan s.muster.zoneOverrides z

/-- The corridor and venue placements of zone `z`. -/
def inZone (p : Plan) (z : Nat) (pl : Placement) : Bool :=
  match pl.role with
  | .door _ => false
  | _ => placementZone p pl == some z

open Classical in
theorem setZoneStation_eq : s.setZoneStation z st =
    if zoneMoves s z st then
      (if zoneMoves s z st then (s.withZone z st).rebuildStranded else s.withZone z st).composePlacements
        fun _ pl => inZone s.activePlan z pl
    else s.withZone z st := by
  unfold zoneMoves
  by_cases h : zoneStation s.activePlan (s.withZone z st).muster.zoneOverrides z = zoneStation s.activePlan
    s.muster.zoneOverrides z
  · rw [if_neg (not_not.mpr h)]
    exact if_pos h
  · rw [if_pos h, if_pos h]
    exact if_neg h

theorem inZone_of {pl : Placement} (hr : ∀ c, pl.role ≠ .door c) (hz : placementZone s.activePlan pl = some z) :
    inZone s.activePlan z pl = true := by
  unfold inZone
  cases h : pl.role with
  | door c => exact absurd h (hr c)
  | venue v => exact beq_iff_eq.mpr hz
  | corridor vs => exact beq_iff_eq.mpr hz

open Classical in
theorem setZoneStation_stored :
    let u := s.setZoneStation z st
    (∀ y, Table.get u.muster.zoneOverrides y = if y = z then st else Table.get s.muster.zoneOverrides y) ∧
    u.muster = { s.muster with
      zoneOverrides := u.muster.zoneOverrides, stranded := u.muster.stranded, strandedGen := u.muster.strandedGen } ∧
    SameBut [.muster, .ports, .dir, .segs] s u ∧ composedOnly s u ∧
    let moved := zoneStation s.activePlan u.muster.zoneOverrides z ≠ zoneStation s.activePlan s.muster.zoneOverrides z
    strandedRebuilt moved s u ∧
    (moved → ∀ k p pl, s.standing (s.display k) = some (p, pl) → (∀ c, pl.role ≠ .door c) →
        placementZone s.activePlan pl = some z → isComposed u k) := by
  intro u
  have hkeeps := setZoneStation_keeps s z st
  let w : State := if zoneMoves s z st then (s.withZone z st).rebuildStranded else s.withZone z st
  have hc : Composed w u := by
    change Composed w (s.setZoneStation z st)
    rw [setZoneStation_eq]
    by_cases h : zoneMoves s z st
    · rw [if_pos h]
      exact composePlacements_composed w _
    · rw [if_neg h, show w = s.withZone z st from if_neg h]
      exact .refl _
  have hzones : u.muster.zoneOverrides = Table.set s.muster.zoneOverrides z st := by
    rw [hc.muster_eq]
    change (if zoneMoves s z st then (s.withZone z st).rebuildStranded else s.withZone z st).muster.zoneOverrides = _
    split
    · obtain ⟨m, p, he⟩ := rebuildStranded_rest (s.withZone z st)
      rw [he]
      rfl
    · rfl
  refine ⟨fun y => by rw [hzones]; exact Table.get_set .., ?_, setZoneStation_same s z st,
    (hkeeps.recomposed (by decide)).only, ?_⟩
  · have hmuster : u.muster = _ := hkeeps.keeps .muster (by decide)
    obtain ⟨hcabins, htally, hserial⟩ : _ ∧ _ ∧ _ := hkeeps.keeps .cabins (by decide)
    have hwatch : u.muster.watch = _ := hkeeps.keeps .watch (by decide)
    rw [hcabins, htally, hserial, hwatch] at hmuster
    exact hmuster
  · intro moved
    have hmoved : moved = zoneMoves s z st := by
      change (zoneStation s.activePlan u.muster.zoneOverrides z ≠ _) = _
      rw [hzones]
      rfl
    rw [hmoved]
    refine ⟨strandedRebuilt_of (w := s.withZone z st) rfl rfl rfl hc, fun h k p pl hs hr hz => ?_⟩
    change isComposed (s.setZoneStation z st) k
    rw [setZoneStation_eq, if_pos h]
    refine composePlacements_isComposed (s := w) (p := p) (pl := pl) ?_ (inZone_of s z hr hz)
    have hsame : SameBut [.muster, .ports] s w :=
      SameBut.ite (((withMuster_same ..).mono (by decide)).trans (rebuildStranded_same (s.withZone z st)))
        ((withMuster_same ..).mono (by decide))
    rw [State.display_congr (hsame.keeps .dir (by decide)), State.standing, activePlan_congr (t := w) (s := s)
      (by rw [hsame.keeps .plan (by decide)])]
    exact hs

theorem assignZone_eq : assignZone z st s =
    if Table.get s.activePlan.zones z = none ∨ (st.any fun y => decide (Table.get s.activePlan.stations y = none)) = true then
      .answer s (.refuse .notFound)
    else .answer (s.setZoneStation z st) .ok := by
  unfold assignZone
  rw [stationDefined_eq, Table.has]
  cases Table.get s.activePlan.zones z with
  | none => rfl
  | some x => cases st.any fun y => decide (Table.get s.activePlan.stations y = none) <;> simp

end

section
variable (s : State) (n x : Nat)

theorem assignCabin_request : (parsed (stationOrAbsent x) s fun st => assignCabin n st s) =
    if (n = 0 ∨ 99999 < n) ∨ (8 ≤ x ∧ x ≠ 255) then .answer s (.bad .range)
    else match cabinIndex s.activePlan n with
      | none => .answer s (.refuse .notFound)
      | some i =>
        if (stationByte x).any fun y => decide (Table.get s.activePlan.stations y = none) then .answer s (.refuse .notFound)
        else .answer (s.changeCabin i { s.cabin i with stationOverride := stationByte x } none) .ok := by
  rw [stationOrAbsent_eq]
  by_cases hx : 8 ≤ x ∧ x ≠ 255
  · rw [if_pos hx, if_pos (.inr hx)]
    rfl
  · rw [if_neg hx]
    change assignCabin n (stationByte x) s = _
    by_cases hn : n = 0 ∨ 99999 < n
    · rw [if_pos (.inl hn), assignCabin_unfit hn]
    · rw [if_neg (not_or.mpr ⟨hn, hx⟩), assignCabin_fits hn]

theorem markCabin_request : (parsed (markOf x) s fun v => markCabin n v s) =
    if (n = 0 ∨ 99999 < n) ∨ 2 ≤ x then .answer s (.bad .range)
    else if s.muster.state = .quiet ∨ s.muster.state = .alert then .answer s (.refuse .state)
    else match cabinIndex s.activePlan n with
      | none => .answer s (.refuse .notFound)
      | some i => .answer (s.changeCabin i { s.cabin i with vacated := if x = 0 then .crew else .no } none) .ok := by
  rw [markOf_eq]
  by_cases hx : 2 ≤ x
  · rw [if_pos hx, if_pos (.inr hx)]
    rfl
  · rw [if_neg hx]
    change markCabin n (if x = 0 then .crew else .no) s = _
    by_cases hn : n = 0 ∨ 99999 < n
    · rw [markCabin_unfit hn]
      exact (if_pos (.inl hn)).symm
    · rw [markCabin_fits hn]
      exact (if_neg (not_or.mpr ⟨hn, hx⟩)).symm

theorem assignZone_request (z : Nat) :
    (parsed (below Config.zoneCount z) s fun z => parsed (stationOrAbsent x) s fun st => assignZone z st s) =
    if 8 ≤ z ∨ (8 ≤ x ∧ x ≠ 255) then .answer s (.bad .range)
    else if Table.get s.activePlan.zones z = none ∨
        ((stationByte x).any fun y => decide (Table.get s.activePlan.stations y = none)) = true then .answer s (.refuse .notFound)
    else .answer (s.setZoneStation z (stationByte x)) .ok := by
  by_cases hz : 8 ≤ z
  · rw [if_pos (.inl hz), show below Config.zoneCount z = .error .range from if_neg (Nat.not_lt.mpr hz)]
    rfl
  · rw [show below Config.zoneCount z = .ok z from if_pos (Nat.not_le.mp hz)]
    change (parsed (stationOrAbsent x) s fun st => assignZone z st s) = _
    rw [stationOrAbsent_eq]
    by_cases hx : 8 ≤ x ∧ x ≠ 255
    · rw [if_pos hx, if_pos (.inr hx)]
      rfl
    · rw [if_neg hx, if_neg (not_or.mpr ⟨hz, hx⟩)]
      exact assignZone_eq s z (stationByte x)

end

/-- Settles O35: each request by its checks in order, then the record stored and handed on. -/
theorem stationsAndCabinsStoreTheirFields : Obligations.StationsAndCabinsStoreTheirFields := by
  refine ⟨fun tag body n x s hbody => ?_, fun tag body z x s hr hbody => ?_⟩
  · intro found unfit
    refine ⟨fun hr => ?_, fun hr b gb hgb => ?_⟩
    · intro t st
      have hassign : ∀ {u r}, (parsed (stationOrAbsent x) t fun st => assignCabin n st t) = .answer u r →
          exec (.assignCabinStation .safety tag body) s = .next (u.answer .safety tag 0x1E#8 r) :=
        fun h => congrArg Host.Outcome.next (taken_parsed hr rfl hbody h)
      have hmark : ∀ {u r}, (parsed (markOf x) t fun v => markCabin n v t) = .answer u r →
          exec (.markCabin .safety tag body) s = .next (u.answer .safety tag 0x20#8 r) :=
        fun h => congrArg Host.Outcome.next (taken_parsed hr rfl hbody h)
      rw [assignCabin_request] at hassign
      rw [markCabin_request] at hmark
      constructor
      · by_cases hbad : unfit ∨ (8 ≤ x ∧ x ≠ 255)
        · exact ⟨t, _, hassign (if_pos hbad), (if_pos hbad).mpr ⟨rfl, rfl⟩⟩
        rw [if_neg hbad] at hassign
        cases hi : cabinIndex s.activePlan n with
        | none =>
          rw [show cabinIndex t.activePlan n = none from hi] at hassign
          refine ⟨t, _, hassign rfl, (if_neg hbad).mpr ?_⟩
          rw [show found = none from hi]
          exact ⟨rfl, rfl⟩
        | some i =>
          rw [show cabinIndex t.activePlan n = some i from hi] at hassign
          by_cases hst : ((stationByte x).any fun y => decide (Table.get s.activePlan.stations y = none)) = true
          · refine ⟨t, _, hassign (if_pos hst), (if_neg hbad).mpr ?_⟩
            rw [show found = some i from hi]
            exact (if_pos hst).mpr ⟨rfl, rfl⟩
          · refine ⟨_, _, hassign (if_neg hst), (if_neg hbad).mpr ?_⟩
            rw [show found = some i from hi]
            exact (if_neg hst).mpr ⟨rfl, changeCabin_stored ..⟩
      · by_cases hbad : unfit ∨ 2 ≤ x
        · exact ⟨t, _, hmark (if_pos hbad), (if_pos hbad).mpr ⟨rfl, rfl⟩⟩
        rw [if_neg hbad] at hmark
        by_cases hst : s.muster.state = .quiet ∨ s.muster.state = .alert
        · exact ⟨t, _, hmark (if_pos hst), (if_neg hbad).mpr ((if_pos hst).mpr ⟨rfl, rfl⟩)⟩
        rw [if_neg (show ¬ (t.muster.state = .quiet ∨ t.muster.state = .alert) from hst)] at hmark
        cases hi : cabinIndex s.activePlan n with
        | none =>
          rw [show cabinIndex t.activePlan n = none from hi] at hmark
          refine ⟨t, _, hmark rfl, (if_neg hbad).mpr ((if_neg hst).mpr ?_)⟩
          rw [show found = none from hi]
          exact ⟨rfl, rfl⟩
        | some i =>
          rw [show cabinIndex t.activePlan n = some i from hi] at hmark
          refine ⟨_, _, hmark rfl, (if_neg hbad).mpr ((if_neg hst).mpr ?_)⟩
          rw [show found = some i from hi]
          exact ⟨rfl, changeCabin_stored ..⟩
    · intro t
      have hguests : ∀ {u r}, cabinGuests b t = .answer u r →
          exec (.cabinGuests .hotel tag gb) s = .next (u.answer .hotel tag 0x3A#8 r) :=
        fun h => congrArg Host.Outcome.next (taken_parsed hr rfl hgb h)
      rw [cabinGuests] at hguests
      cases hi : cabinIndex s.activePlan b.number with
      | none =>
        rw [show cabinIndex t.activePlan b.number = none from hi] at hguests
        exact ⟨t, _, hguests rfl, rfl, rfl⟩
      | some i =>
        rw [show cabinIndex t.activePlan b.number = some i from hi] at hguests
        exact ⟨_, _, hguests rfl, rfl, changeCabin_stored ..⟩
  · intro t st
    have hzone : ∀ {u r}, (parsed (below Config.zoneCount z) t fun z => parsed (stationOrAbsent x) t fun st => assignZone z st t) =
        .answer u r → exec (.assignZoneStation .safety tag body) s = .next (u.answer .safety tag 0x1F#8 r) :=
      fun h => congrArg Host.Outcome.next (taken_parsed hr rfl hbody h)
    rw [assignZone_request] at hzone
    by_cases hbad : 8 ≤ z ∨ (8 ≤ x ∧ x ≠ 255)
    · rw [if_pos hbad] at hzone
      exact ⟨t, _, hzone rfl, (if_pos hbad).mpr ⟨rfl, rfl⟩⟩
    rw [if_neg hbad] at hzone
    by_cases hnone : Table.get s.activePlan.zones z = none ∨
        ((stationByte x).any fun y => decide (Table.get s.activePlan.stations y = none)) = true
    · exact ⟨t, _, hzone (if_pos hnone), (if_neg hbad).mpr ((if_pos hnone).mpr ⟨rfl, rfl⟩)⟩
    · exact ⟨_, _, hzone (if_neg hnone), (if_neg hbad).mpr ((if_neg hnone).mpr ⟨rfl, setZoneStation_stored t z st⟩)⟩

end Sys2Proof.Machine
end

section
/-! PROOFS. What a reset leaves, and the start-up from it (R26, R57, R62, R93, R109). -/

namespace Sys2Proof.Machine

/-! ## Start-up from a retained store -/

section
variable (st : RetainedStore) (line : Bool) (free : Nat) (pending : List Instr)

/-- The blocks with the destination list built, before the first computation. -/
def startList (st : RetainedStore) (line : Bool) (free : Nat) (pending : List Instr) : State :=
  { startBlocks st line free pending with
    route := { (startBlocks st line free pending).route with dests := (startBlocks st line free pending).destList } }

theorem startUp_eq : startUp st line free pending = (startList st line free pending).startComputation.strandedAtStart := rfl

/-- Start-up leaves the blocks as they start, but for the first computation and the generation its stranded list is of. -/
theorem startUp_rest : ∃ n, startUp st line free pending =
    { startBlocks st line free pending with
      route := (startUp st line free pending).route
      muster := { startMuster st line with strandedGen := n } } := by
  have hroute := startComputation_rest (startList st line free pending)
  have hsame : ∃ n, (startList st line free pending).startComputation =
      { startBlocks st line free pending with
        route := (startList st line free pending).startComputation.route,
          muster := { startMuster st line with strandedGen := n } } :=
    ⟨0, hroute⟩
  rw [startUp_eq, State.strandedAtStart]
  by_cases he : (startList st line free pending).startComputation.emptyRun = true
  · rw [if_pos he]
    obtain ⟨hactive, hdests⟩ := emptyRun_eq_true.mp he
    rw [startComputation_dests] at hdests
    rw [show (startList st line free pending).startComputation.plan = (startList st line free pending).plan from
      (startComputation_same _).keeps .plan (by decide)] at hactive
    obtain ⟨a, ha⟩ := Option.isSome_iff_exists.mp hactive
    obtain ⟨g, hg, -, -, -, hnone⟩ := startComputation_publishes _ ha hdests
    rw [rebuildStranded_emptied _ hg hnone]
    split
    · refine ⟨g.number, ?_⟩
      rw [hroute]
      rfl
    · exact hsame
  · rw [if_neg he]
    exact hsame

theorem startUp_route : (startUp st line free pending).route = (startList st line free pending).startComputation.route := by
  rw [startUp_eq]
  exact (strandedAtStart_same _).keeps .route (by decide)

theorem startUp_destList : (startUp st line free pending).destList = (startBlocks st line free pending).destList := by
  obtain ⟨n, h⟩ := startUp_rest st line free pending
  have hprofile : (startUp st line free pending).route.profile = (startBlocks st line free pending).route.profile := by
    rw [startUp_route, startComputation_profile]
    rfl
  rw [State.destList, State.destList, hprofile, h]

theorem startUp_started {a : ActivePlan} (h : st.plan = some a) : computationStarted a
    { State.reset.route with
      profile := if st.latch.set then .safety else .normal
      dests := (startUp st line free pending).destList }
    (startUp st line free pending) := by
  rw [startUp_destList]
  obtain ⟨n, hrest⟩ := startUp_rest st line free pending
  have hcond : (startUp st line free pending).cond = (startList st line free pending).startComputation.cond := by
    rw [hrest, (startComputation_same _).keeps .cond (by decide)]
    rfl
  exact (startComputation_started (startList st line free pending) h).congr (startUp_route ..) hcond

theorem startUp_planless (h : st.plan = none) :
    (startUp st line free pending).route = { State.reset.route with profile := if st.latch.set then .safety else .normal } := by
  have hlist : (startBlocks st line free pending).destList = [] := by
    rw [State.destList, show (startBlocks st line free pending).plan.active = none from h]
  rw [startUp_route, State.startComputation, show (startList st line free pending).plan.active = none from h]
  dsimp only
  rw [show (startList st line free pending).route.dests = (startBlocks st line free pending).destList from rfl] at *
  unfold startList
  rw [hlist]
  rfl

theorem startUp_strands : strandedFollows (st.plan.isSome = true) State.reset (startUp st line free pending) := by
  have hempty : (startList st line free pending).startComputation.emptyRun = (startList st line free pending).emptyRun := by
    rw [State.emptyRun, State.emptyRun, startComputation_dests, (startComputation_same _).keeps .plan (by decide)]
  have heq : startUp st line free pending = if (startList st line free pending).emptyRun then
      (startList st line free pending).startComputation.rebuildStranded else
        (startList st line free pending).startComputation := by
    rw [startUp_eq, State.strandedAtStart, hempty]
  rw [heq]
  cases ha : st.plan with
  | none =>
    have hno : (startList st line free pending).emptyRun = false := by
      rw [State.emptyRun, show (startList st line free pending).plan.active = none from ha]
      rfl
    rw [hno, if_neg Bool.false_ne_true]
    have hmuster : (startList st line free pending).startComputation.muster = startMuster st line :=
      (startComputation_same _).keeps .muster (by decide)
    exact ⟨fun h => absurd h Bool.false_ne_true, fun _ => by rw [hmuster]; exact ⟨rfl, rfl⟩⟩
  | some a =>
    refine .of_true rfl ?_
    exact startComputation_strands (s := startList st line free pending) (u := (startList st line free pending).startComputation)
      ha ((startComputation_same _).keeps .muster (by decide)) rfl

/-- Every cabin of a plan starts afresh (R93). -/
theorem freshCabins_get (p : Plan) (i : Nat) : (Table.get (freshCabins p) i).getD CabinState.initial = CabinState.initial := by
  rw [freshCabins, Table.get_mapVals]
  cases Table.get p.cabins i <;> rfl

end

/-! ## What the write in flight leaves (R26) -/

theorem keptValue_or (n old new : Nat) : keptValue n old new = old ∨ keptValue n old new = new := by
  unfold keptValue
  split
  · exact .inr rfl
  · exact .inl rfl

theorem keptBind_or (n : Nat) (a : Option ActivePlan) (p : Nat) (i : Identity) (loser : Option Nat) :
    keptBind n a p i loser = a ∨ keptBind n a p i loser = a.map fun x => { x with plan := applyBind x.plan p i loser } := by
  unfold keptBind
  split
  · exact .inr rfl
  · exact .inl rfl

theorem keptBind_isSome (n : Nat) (a : Option ActivePlan) (p : Nat) (i : Identity) (loser : Option Nat) :
    (keptBind n a p i loser).isSome = a.isSome := by
  unfold keptBind
  split
  · exact Option.isSome_map
  · rfl

theorem afterReset_of_keep {st k : RetainedStore} {n : Nat} (h : st.keep n = k) :
    st.afterReset n = { k with fixed := if k.plan.isSome then k.fixed else [], inFlight := none, waiting := none } := by
  rw [← h]
  rfl

/-- Settles O54: the areas by the write in flight, then the blocks at start-up. -/
theorem resetKeepsTheRetainedAreas : Obligations.ResetKeepsTheRetainedAreas := by
  intro s
  let st := s.store.afterReset s.freeCount
  refine ⟨startUp st s.alarmLine (s.freeCount + freeValuesPerReset) s.pending, rfl, ?_⟩
  intro kept
  generalize s.freeCount + freeValuesPerReset = free
  obtain ⟨n, hrest⟩ := startUp_rest st s.alarmLine free s.pending
  have hstarted := fun a => startUp_started (a := a) st s.alarmLine free s.pending
  have hplanless := startUp_planless st s.alarmLine free s.pending
  have hstrands := startUp_strands st s.alarmLine free s.pending
  generalize startUp st s.alarmLine free s.pending = t at hrest hstarted hplanless hstrands ⊢
  have hstore : t.store = st := by rw [hrest]; rfl
  have hplan : t.plan = { active := st.plan, shadow := .empty, edit := .closed } := by rw [hrest]; rfl
  have hmuster : t.muster = { startMuster st s.alarmLine with strandedGen := n } := by rw [hrest]
  rw [hstore, hplan, hmuster]
  refine ⟨?_, rfl, by rw [hrest]; rfl, hstarted, hplanless, hstrands, by rw [hrest]; rfl, by rw [hrest]; rfl, by rw [hrest]; rfl,
    by rw [hrest]; rfl, by rw [hrest]; rfl, by rw [hrest]; rfl, by rw [hrest]; rfl, by rw [hrest]; rfl, by rw [hrest]; rfl, rfl,
    rfl, rfl, rfl, rfl, rfl, rfl, rfl, rfl, rfl, rfl, fun i => ?_, ?_⟩
  · cases hin : s.store.inFlight with
    | none =>
      have hk : s.store.keep s.freeCount = s.store := by simp only [RetainedStore.keep, hin]
      exact afterReset_of_keep hk
    | some w =>
      cases w with
      | commit serial =>
        have hk : s.store.keep s.freeCount = { s.store with plan := none, fixed := [] } := by simp only [RetainedStore.keep, hin]
        exact afterReset_of_keep hk
      | bind p i loser =>
        have hk : s.store.keep s.freeCount = { s.store with plan := keptBind s.freeCount s.store.plan p i loser } := by
          simp only [RetainedStore.keep, hin]
        refine ⟨_, keptBind_or s.freeCount s.store.plan p i loser, (afterReset_of_keep hk).trans ?_⟩
        dsimp only
        rw [keptBind_isSome]
      | fixedDetour f =>
        have hk : s.store.keep s.freeCount =
            if Config.writeKept s.freeCount then
              { s.store with fixed := Table.put s.store.fixed f.zone ⟨f.blocked, f.opened, true⟩ }
            else s.store := by
          simp only [RetainedStore.keep, hin]
        by_cases hw : Config.writeKept s.freeCount = true
        · rw [if_pos hw] at hk
          exact ⟨_, .inr rfl, afterReset_of_keep hk⟩
        · rw [if_neg hw] at hk
          exact ⟨_, .inl rfl, afterReset_of_keep hk⟩
      | latch w =>
        have hk : s.store.keep s.freeCount = { s.store with latch := keptLatch s.freeCount s.store.latch w } := by
          simp only [RetainedStore.keep, hin]
        refine ⟨_, ?_, afterReset_of_keep hk⟩
        unfold keptLatch
        split
        · exact .inr rfl
        · exact .inl rfl
      | settings w =>
        cases w with
        | timers o h =>
          have hk : s.store.keep s.freeCount = { s.store with
              overdueTime := keptValue s.freeCount s.store.overdueTime o
              holdTime := keptValue (s.freeCount + 1) s.store.holdTime h } := by
            simp only [RetainedStore.keep, hin]
          exact ⟨_, _, keptValue_or .., keptValue_or .., afterReset_of_keep hk⟩
        | silence l v =>
          cases l with
          | safety =>
            have hk : s.store.keep s.freeCount =
                { s.store with silenceSafety := keptValue s.freeCount s.store.silenceSafety v } := by
              simp only [RetainedStore.keep, hin]
            exact ⟨_, keptValue_or .., afterReset_of_keep hk⟩
          | hotel =>
            have hk : s.store.keep s.freeCount =
                { s.store with silenceHotel := keptValue s.freeCount s.store.silenceHotel v } := by
              simp only [RetainedStore.keep, hin]
            exact ⟨_, keptValue_or .., afterReset_of_keep hk⟩
  · have hcabins : t.muster.cabins = freshCabins st.startPlan := by rw [hmuster]; rfl
    rw [State.cabin, hcabins]
    exact freshCabins_get ..
  · have hactive : t.activePlan = st.startPlan := by
      rw [State.activePlan, hplan]
      rfl
    unfold tallyCounts State.tallyNow
    rw [hactive, hmuster]
    rfl

end Sys2Proof.Machine
end

section
/-! PROOFS. Plan records: what a decoded PLAN WRITE carries and what it writes (R1 to R7, R10). -/

namespace Sys2Proof.Machine

/-! ## Fields in range (R1 to R7) -/

/-- The fields of a plan record in their ranges. -/
def Record.fits : Record → Prop
  | .node r => r.zone < 8 ∧ ∀ v, r.venue = some v → v < 32
  | .edge r => r.a < 96 ∧ r.b < 96 ∧ r.zone < 8 ∧ r.bearing < 16 ∧ 1 ≤ r.length ∧ r.length ≤ 4095
  | .zone r => r.station < 8
  | .station r => 1 ≤ r.label.length ∧ r.label.length ≤ 3 ∧ ∀ n, r.loc = .node n → n < 96
  | .venue r => 1 ≤ r.label.length ∧ r.label.length ≤ 16 ∧ ∀ n, r.loc = .node n → n < 96
  | .portal r => r.node < 96 ∧ r.bearing < 16
  | .cabin r => 1 ≤ r.number ∧ r.number ≤ 99999 ∧ r.door < 96 ∧ r.station < 8
  | .placement r => r.node < 96 ∧ r.facing < 16 ∧ r.expected ≠ some 0#48 ∧ (∀ c, r.role = .door c → c < 160) ∧
      (∀ v, r.role = .venue v → v < 32) ∧ ∀ vs, r.role = .corridor vs → vs.length ≤ 3 ∧ vs.Nodup ∧ ∀ v ∈ vs, v < 32

/-- The kind of a plan record. -/
def Record.kind : Record → RecordKind
  | .node _ => .node
  | .edge _ => .edge
  | .zone _ => .zone
  | .station _ => .station
  | .venue _ => .venue
  | .portal _ => .portal
  | .cabin _ => .cabin
  | .placement _ => .placement

theorem below_lt {bound n m : Nat} (h : below bound n = .ok m) : m < bound := by
  obtain ⟨hlt, rfl⟩ := below_eq_ok.mp h
  exact hlt

theorem optionalBelow_lt {bound n m : Nat} {x : Option Nat} (h : optionalBelow bound n = .ok x) (hx : x = some m) : m < bound := by
  unfold optionalBelow at h
  split at h
  · cases h
    cases hx
  split at h
  · cases h
    cases hx
    assumption
  · cases h

theorem locationOf_lt {n m : Nat} {x : Location} (h : locationOf n = .ok x) (hx : x = .node m) : m < 96 := by
  unfold locationOf at h
  split at h
  · cases h
    cases hx
  split at h
  · cases h
    cases hx
    assumption
  · cases h

theorem clamp_bounds {lo hi n : Nat} (h : lo ≤ hi) : lo ≤ clamp lo hi n ∧ clamp lo hi n ≤ hi := by
  unfold clamp
  omega

theorem sixIdentity_ne_zero {b rest : List Byte} {x : Option Identity} (h : sixIdentity b = .ok (x, rest)) : x ≠ some 0#48 := by
  unfold sixIdentity at h
  split at h
  · cases h
    split
    · nofun
    · rename_i hne
      exact fun he => hne (Option.some.inj he)
  · cases h

theorem signsOf_ok {vs ws : List Nat} (h : signsOf vs = .ok ws) : ws.length ≤ 3 ∧ ws.Nodup ∧ ∀ v ∈ ws, v < 32 := by
  unfold signsOf at h
  split at h
  · rename_i hvs
    cases h
    simp only [Bool.and_eq_true, decide_eq_true_iff, List.all_eq_true] at hvs
    obtain ⟨⟨hlen, hall⟩, hnodup⟩ := hvs
    exact ⟨hlen, hnodup, hall⟩
  · cases h

theorem roleOf_ok {role cabin venue : Nat} {signs : List Nat} {x : Role} (h : roleOf role cabin venue signs = .ok x) :
    (∀ c, x = .door c → c < 160) ∧ (∀ v, x = .venue v → v < 32) ∧
    ∀ vs, x = .corridor vs → vs.length ≤ 3 ∧ vs.Nodup ∧ ∀ v ∈ vs, v < 32 := by
  unfold roleOf at h
  split at h
  · obtain ⟨c, hc, h⟩ := bind_eq_ok.mp h
    cases h
    exact ⟨fun d hd => by cases hd; exact below_lt hc, nofun, nofun⟩
  · obtain ⟨vs, hvs, h⟩ := bind_eq_ok.mp h
    cases h
    exact ⟨nofun, nofun, fun ws hws => by cases hws; exact signsOf_ok hvs⟩
  · obtain ⟨v, hv, h⟩ := bind_eq_ok.mp h
    cases h
    exact ⟨nofun, fun w hw => by cases hw; exact below_lt hv, nofun⟩
  · cases h

section
variable {b : List Byte} {r : Record}

theorem readNode_fits (h : readNode b = .ok r) : r.kind = .node ∧ r.fits := by
  obtain ⟨x, -, h⟩ := bind_eq_ok.mp h
  obtain ⟨zone, hz, h⟩ := bind_eq_ok.mp h
  obtain ⟨venue, hv, h⟩ := bind_eq_ok.mp h
  cases h
  exact ⟨rfl, below_lt hz, fun v hx => optionalBelow_lt hv hx⟩

theorem readEdge_fits (h : readEdge b = .ok r) : r.kind = .edge ∧ r.fits := by
  obtain ⟨x1, -, h⟩ := bind_eq_ok.mp h
  obtain ⟨x2, -, h⟩ := bind_eq_ok.mp h
  obtain ⟨x3, -, h⟩ := bind_eq_ok.mp h
  obtain ⟨x4, -, h⟩ := bind_eq_ok.mp h
  obtain ⟨x5, -, h⟩ := bind_eq_ok.mp h
  obtain ⟨x6, -, h⟩ := bind_eq_ok.mp h
  obtain ⟨na, ha, h⟩ := bind_eq_ok.mp h
  obtain ⟨nb, hb, h⟩ := bind_eq_ok.mp h
  obtain ⟨cls, -, h⟩ := bind_eq_ok.mp h
  obtain ⟨zone, hz, h⟩ := bind_eq_ok.mp h
  cases h
  exact ⟨rfl, below_lt ha, below_lt hb, below_lt hz, Nat.mod_lt _ (by decide), clamp_bounds (by decide)⟩

theorem readZone_fits (h : readZone b = .ok r) : r.kind = .zone ∧ r.fits := by
  obtain ⟨x, -, h⟩ := bind_eq_ok.mp h
  obtain ⟨st, hs, h⟩ := bind_eq_ok.mp h
  cases h
  exact ⟨rfl, below_lt hs⟩

theorem readStation_fits (h : readStation b = .ok r) : r.kind = .station ∧ r.fits := by
  obtain ⟨x1, -, h⟩ := bind_eq_ok.mp h
  obtain ⟨x2, -, h⟩ := bind_eq_ok.mp h
  obtain ⟨x3, -, h⟩ := bind_eq_ok.mp h
  obtain ⟨label, hl, h⟩ := bind_eq_ok.mp h
  obtain ⟨loc, hn, h⟩ := bind_eq_ok.mp h
  cases h
  obtain ⟨hlow, hhigh⟩ := labelOf_ok hl (by decide)
  exact ⟨rfl, hlow, hhigh, fun n hx => locationOf_lt hn hx⟩

theorem readVenue_fits (h : readVenue b = .ok r) : r.kind = .venue ∧ r.fits := by
  obtain ⟨x1, -, h⟩ := bind_eq_ok.mp h
  obtain ⟨x2, -, h⟩ := bind_eq_ok.mp h
  obtain ⟨x3, -, h⟩ := bind_eq_ok.mp h
  obtain ⟨label, hl, h⟩ := bind_eq_ok.mp h
  obtain ⟨loc, hn, h⟩ := bind_eq_ok.mp h
  cases h
  obtain ⟨hlow, hhigh⟩ := labelOf_ok hl (by decide)
  exact ⟨rfl, hlow, hhigh, fun n hx => locationOf_lt hn hx⟩

theorem readPortal_fits (h : readPortal b = .ok r) : r.kind = .portal ∧ r.fits := by
  obtain ⟨x, -, h⟩ := bind_eq_ok.mp h
  obtain ⟨node, hn, h⟩ := bind_eq_ok.mp h
  obtain ⟨cls, -, h⟩ := bind_eq_ok.mp h
  cases h
  exact ⟨rfl, below_lt hn, Nat.mod_lt _ (by decide)⟩

theorem readCabin_fits (h : readCabin b = .ok r) : r.kind = .cabin ∧ r.fits := by
  obtain ⟨x1, -, h⟩ := bind_eq_ok.mp h
  obtain ⟨x2, -, h⟩ := bind_eq_ok.mp h
  dsimp only at h
  split at h
  · obtain ⟨door, hd, h⟩ := bind_eq_ok.mp h
    obtain ⟨station, hs, h⟩ := bind_eq_ok.mp h
    obtain ⟨hlow, hhigh⟩ := (cabinNumberFits_iff _).mp ‹_›
    cases h
    exact ⟨rfl, hlow, hhigh, below_lt hd, below_lt hs⟩
  · cases h

theorem readPlacement_fits (h : readPlacement b = .ok r) : r.kind = .placement ∧ r.fits := by
  obtain ⟨x1, -, h⟩ := bind_eq_ok.mp h
  obtain ⟨x2, -, h⟩ := bind_eq_ok.mp h
  obtain ⟨x3, -, h⟩ := bind_eq_ok.mp h
  obtain ⟨x4, -, h⟩ := bind_eq_ok.mp h
  obtain ⟨x5, -, h⟩ := bind_eq_ok.mp h
  obtain ⟨x6, -, h⟩ := bind_eq_ok.mp h
  obtain ⟨⟨expected, rest⟩, he, h⟩ := bind_eq_ok.mp h
  obtain ⟨x7, -, h⟩ := bind_eq_ok.mp h
  obtain ⟨role, hr, h⟩ := bind_eq_ok.mp h
  obtain ⟨node, hn, h⟩ := bind_eq_ok.mp h
  cases h
  exact ⟨rfl, below_lt hn, Nat.mod_lt _ (by decide), sixIdentity_ne_zero he, roleOf_ok hr⟩

theorem readRecord_fits {k : RecordKind} (h : readRecord k b = .ok r) : r.kind = k ∧ r.fits := by
  cases k with
  | node => exact readNode_fits h
  | edge => exact readEdge_fits h
  | zone => exact readZone_fits h
  | station => exact readStation_fits h
  | venue => exact readVenue_fits h
  | portal => exact readPortal_fits h
  | cabin => exact readCabin_fits h
  | placement => exact readPlacement_fits h

theorem bodyPlanWrite_fits {w : PlanWriteBody} (h : bodyPlanWrite b = .ok w) :
    w.index < w.kind.capacity ∧ ∀ r, w.record = some r → r.kind = w.kind ∧ r.fits := by
  obtain ⟨⟨form, r1⟩, -, h⟩ := bind_eq_ok.mp h
  obtain ⟨x2, -, h⟩ := bind_eq_ok.mp h
  obtain ⟨x3, -, h⟩ := bind_eq_ok.mp h
  obtain ⟨kind, -, h⟩ := bind_eq_ok.mp h
  split at h
  · obtain ⟨record, hr, h⟩ := bind_eq_ok.mp h
    obtain ⟨index, hi, h⟩ := bind_eq_ok.mp h
    cases h
    exact ⟨below_lt hi, fun r he => by cases he; exact readRecord_fits hr⟩
  · obtain ⟨index, hi, h⟩ := bind_eq_ok.mp h
    cases h
    exact ⟨below_lt hi, nofun⟩
  · cases h

end

/-! ## Records read back (R10) -/

/-- An optional record of a table, as the plan reads it. -/
theorem map_get_put {α β : Type} (f : α → β) (t : Table α) (i j : Nat) (x : α) :
    (Table.get (Table.put t i x) j).map f = if j = i then some (f x) else (Table.get t j).map f := by
  rw [Table.get_put]
  split <;> rfl

theorem map_get_del {α β : Type} (f : α → β) (t : Table α) (i j : Nat) :
    (Table.get (Table.del t i) j).map f = if j = i then none else (Table.get t j).map f := by
  rw [Table.get_del]
  split <;> rfl

theorem read_putRecord_same (p : Plan) (i j : Nat) (r : Record) :
    (p.putRecord i r).read r.kind j = if j = i then some r else p.read r.kind j := by
  cases r <;> exact map_get_put ..

theorem read_putRecord_other (p : Plan) (i j : Nat) {r : Record} {k : RecordKind} (h : k ≠ r.kind) :
    (p.putRecord i r).read k j = p.read k j := by
  cases r <;> cases k <;> first | rfl | exact absurd rfl h

theorem read_removeRecord_same (p : Plan) (i j : Nat) (k : RecordKind) :
    (p.removeRecord k i).read k j = if j = i then none else p.read k j := by
  cases k <;> exact map_get_del ..

theorem read_removeRecord_other (p : Plan) (i j : Nat) {k l : RecordKind} (h : k ≠ l) :
    (p.removeRecord l i).read k j = p.read k j := by
  cases l <;> cases k <;> first | rfl | exact absurd rfl h

/-- The shadow plan after a decoded PLAN WRITE. -/
def Plan.written (p : Plan) (w : PlanWriteBody) : Plan :=
  match w.record with
  | some r => p.putRecord w.index r
  | none => p.removeRecord w.kind w.index

theorem read_written (p : Plan) {w : PlanWriteBody} (h : ∀ r, w.record = some r → r.kind = w.kind) (k : RecordKind) (i : Nat) :
    (p.written w).read k i = if k = w.kind ∧ i = w.index then w.record else p.read k i := by
  unfold Plan.written
  by_cases hk : k = w.kind
  · subst hk
    rw [if_congr (and_iff_right rfl) rfl rfl]
    cases hr : w.record with
    | none => exact read_removeRecord_same ..
    | some r =>
      rw [← h r hr]
      exact read_putRecord_same ..
  · rw [if_neg fun hc => hk hc.1]
    cases hr : w.record with
    | none => exact read_removeRecord_other _ _ _ hk
    | some r => exact read_putRecord_other _ _ _ (by rw [h r hr]; exact hk)

/-- Settles O9: the edit state, the record read back, and the ranges of what is decoded. -/
theorem planWritesReadBack : Obligations.PlanWritesReadBack := by
  intro tag body w s hr hbody
  obtain ⟨hindex, hrecord⟩ := bodyPlanWrite_fits hbody
  have hexec : exec (.planWrite .safety tag body) s =
      .next (settle .safety tag 0x11#8 (planWrite (.ok w) (requestTaken .safety s))) := by
    rw [← hbody]
    exact congrArg Host.Outcome.next (takeRequest_taken hr rfl)
  have hedit : (requestTaken .safety s).plan.edit = s.plan.edit := rfl
  refine ⟨fun he => ?_, fun he => ?_, fun he => ⟨s.plan.shadow.written w, ?_, read_written _ fun r h => (hrecord r h).1⟩, hindex,
    fun r h => (hrecord _ h).2, fun r h => (hrecord _ h).2, fun r h => (hrecord _ h).2, fun r h => (hrecord _ h).2,
    fun r h => (hrecord _ h).2, fun r h => (hrecord _ h).2, fun r h => (hrecord _ h).2, fun r h => (hrecord _ h).2⟩
  · rw [hexec, planWrite, hedit, he]
    · rfl
    · nofun
  · rw [hexec, planWrite, hedit, he]
    · rfl
    · nofun
  · rw [hexec, planWrite, hedit, he]
    · rfl
    · nofun

end Sys2Proof.Machine
end

section
/-! PROOFS. Validation of a plan: the first check that fails, and the first record it fails for (R13). -/

namespace Sys2Proof.Machine

/-! ## The first record that fails a check -/

/-- By kind, then by index (R13). -/
def recordBefore (k : RecordKind) (i : Nat) (l : RecordKind) (j : Nat) : Prop := k.position < l.position ∨ (k = l ∧ i ≤ j)

/-- The record reported is the first of those that fail. -/
def FirstFail (P : RecordKind → Nat → Prop) : Option Offender → Prop
  | none => ∀ l j, ¬ P l j
  | some o => P o.1 o.2 ∧ ∀ l j, P l j → recordBefore o.1 o.2 l j

theorem FirstFail.congr {P Q : RecordKind → Nat → Prop} {o : Option Offender} (h : FirstFail P o) (hpq : ∀ l j, P l j ↔ Q l j) :
    FirstFail Q o := by
  cases o with
  | none => exact fun l j hq => h l j ((hpq l j).mpr hq)
  | some o => exact ⟨(hpq _ _).mp h.1, fun l j hq => h.2 l j ((hpq l j).mpr hq)⟩

theorem FirstFail.nothing : FirstFail (fun _ _ => False) (firstOffender []) := fun _ _ => id

theorem FirstFail.cons {P Q : RecordKind → Nat → Prop} {o : Option Offender} {os : List (Option Offender)} (ho : FirstFail P o)
    (hos : FirstFail Q (firstOffender os)) (hpq : ∀ k i l j, P k i → Q l j → k.position < l.position) :
    FirstFail (fun l j => P l j ∨ Q l j) (firstOffender (o :: os)) := by
  cases o with
  | some o => exact ⟨.inl ho.1, fun l j h => h.elim (ho.2 l j) fun hq => .inl (hpq _ _ _ _ ho.1 hq)⟩
  | none =>
    change FirstFail _ (firstOffender os)
    exact hos.congr fun l j => ⟨.inr, fun h => h.resolve_left (ho l j)⟩

section
variable {α : Type} {t : Table α}

theorem Table.first_eq_none_iff {β : Type} {f : Nat → α → Option β} :
    Table.first f t = none ↔ ∀ i x, (i, x) ∈ t → f i x = none := by
  induction t with
  | nil => exact ⟨fun _ _ _ h => (nomatch h), fun _ => rfl⟩
  | cons y t ih =>
    obtain ⟨k, v⟩ := y
    rw [Table.first]
    cases hf : f k v with
    | some b => exact ⟨nofun, fun h => absurd (h k v List.mem_cons_self) (by rw [hf]; nofun)⟩
    | none =>
      dsimp only
      rw [ih]
      constructor
      · intro h i x hx
        rcases List.mem_cons.mp hx with he | hx
        · cases he
          exact hf
        · exact h i x hx
      · exact fun h i x hx => h i x (List.mem_cons_of_mem _ hx)

theorem offender_eq_none_iff {k : RecordKind} {bad : Nat → α → Bool} :
    offender k t bad = none ↔ ∀ i x, (i, x) ∈ t → bad i x = false := by
  rw [offender, Table.first_eq_none_iff]
  refine forall_congr' fun i => forall_congr' fun x => imp_congr_right fun _ => ?_
  cases bad i x <;> simp

/-- What a search of a table finds is the first record, by index, that fails. -/
theorem offender_first (hw : Table.wf t = true) (k : RecordKind) (bad : Nat → α → Bool) :
    FirstFail (fun l j => l = k ∧ ∃ x, Table.get t j = some x ∧ bad j x = true) (offender k t bad) := by
  have hmem : ∀ j x, Table.get t j = some x ↔ (j, x) ∈ t := fun j x => ⟨Table.mem_of_get, Table.get_of_mem hw⟩
  simp only [hmem]
  clear hmem
  induction t with
  | nil => exact fun l j h => nomatch h.2
  | cons y t ih =>
    obtain ⟨i, v⟩ := y
    simp only [Table.wf, Bool.and_eq_true] at hw
    obtain ⟨habove, hwf⟩ := hw
    have hlt : ∀ z ∈ t, i < z.1 := (Table.above_iff _ _).mp habove
    have hstep : offender k ((i, v) :: t) bad = if bad i v then some (k, i) else offender k t bad := by
      rw [offender, Table.first]
      cases bad i v <;> rfl
    rw [hstep]
    cases hb : bad i v with
    | true =>
      refine ⟨⟨rfl, v, List.mem_cons_self, hb⟩, ?_⟩
      rintro l j ⟨rfl, x, hx, -⟩
      refine .inr ⟨rfl, ?_⟩
      rcases List.mem_cons.mp hx with he | hx
      · cases he
        exact le_rfl
      · exact (hlt _ hx).le
    | false =>
      refine (ih hwf).congr fun l j => and_congr_right fun _ => exists_congr fun x => ?_
      rw [List.mem_cons]
      refine ⟨fun h => ⟨.inr h.1, h.2⟩, fun h => ⟨h.1.resolve_left fun he => ?_, h.2⟩⟩
      cases he
      rw [hb] at h
      exact Bool.false_ne_true h.2

end

/-! ## Sign venues (R13 check 8) -/

/-- The distinct venues seen, with those of one more list. -/
def addSeen (seen vs : List Nat) : List Nat := vs.foldl (fun acc v => if acc.contains v then acc else v :: acc) seen

theorem addSeen_append (seen vs ws : List Nat) : addSeen seen (vs ++ ws) = addSeen (addSeen seen vs) ws := List.foldl_append

theorem mem_addSeen (seen vs : List Nat) (v : Nat) : v ∈ addSeen seen vs ↔ v ∈ seen ∨ v ∈ vs := by
  induction vs generalizing seen with
  | nil => simp [addSeen]
  | cons w vs ih =>
    rw [addSeen, List.foldl_cons]
    refine (ih _).trans ?_
    split
    · rename_i hw
      rw [List.contains_iff_mem] at hw
      rw [List.mem_cons]
      constructor
      · rintro (h | h)
        · exact .inl h
        · exact .inr (.inr h)
      · rintro (h | rfl | h)
        · exact .inl h
        · exact .inl hw
        · exact .inr h
    · simp only [List.mem_cons]
      tauto

theorem nodup_addSeen {seen : List Nat} (h : seen.Nodup) (vs : List Nat) : (addSeen seen vs).Nodup := by
  induction vs generalizing seen with
  | nil => exact h
  | cons w vs ih =>
    rw [addSeen, List.foldl_cons]
    refine ih ?_
    split
    · exact h
    · rename_i hw
      exact List.nodup_cons.mpr ⟨fun hm => hw (List.contains_iff_mem.mpr hm), h⟩

theorem addSeen_length_le (seen vs : List Nat) : seen.length ≤ (addSeen seen vs).length := by
  induction vs generalizing seen with
  | nil => exact le_rfl
  | cons w vs ih =>
    rw [addSeen, List.foldl_cons]
    refine le_trans ?_ (ih _)
    split
    · exact le_rfl
    · exact Nat.le_succ _

theorem addSeen_nil_length (vs : List Nat) : (addSeen [] vs).length = vs.dedup.length :=
  ((List.perm_ext_iff_of_nodup (nodup_addSeen List.nodup_nil vs) (List.nodup_dedup vs)).mpr fun v => by
    rw [mem_addSeen, List.mem_dedup]
    simp).length_eq

/-- The sign lists of a table's placements. -/
def signsUpTo (t : Table Placement) (i : Nat) : List Nat := (t.filter fun x => decide (x.1 ≤ i)).flatMap fun x => signList x.2

/-- The count of sign venues is above 12 at the corridor placement `i`. -/
def overflowsAt (t : Table Placement) (seen : List Nat) (i : Nat) : Prop :=
  (∃ x vs, (i, x) ∈ t ∧ x.role = .corridor vs) ∧ 12 < (addSeen seen (signsUpTo t i)).length

open Classical in
theorem signOverflow_cons (k : Nat) (r : Placement) (t : Table Placement) (seen : List Nat) :
    signOverflow ((k, r) :: t) seen =
      if (∃ vs, r.role = .corridor vs) ∧ 12 < (addSeen seen (signList r)).length then some k
      else signOverflow t (addSeen seen (signList r)) := by
  rw [signOverflow]
  unfold signList
  cases h : r.role with
  | corridor vs =>
    dsimp only
    exact if_congr ⟨fun hl => ⟨⟨vs, rfl⟩, hl⟩, fun hl => hl.2⟩ rfl rfl
  | door c => exact (if_neg fun hl => nomatch hl.1.choose_spec).symm
  | venue v => exact (if_neg fun hl => nomatch hl.1.choose_spec).symm

section
variable {k : Nat} {r : Placement} {t : Table Placement} (hlt : ∀ z ∈ t, k < z.1) (seen : List Nat)
include hlt

theorem signsUpTo_head : signsUpTo ((k, r) :: t) k = signList r := by
  have hnone : t.filter (fun x => decide (x.1 ≤ k)) = [] := by
    rw [List.filter_eq_nil_iff]
    intro z hz hle
    exact absurd (hlt z hz) (Nat.not_lt.mpr (decide_eq_true_iff.mp hle))
  rw [signsUpTo, List.filter_cons_of_pos (p := fun x : Nat × Placement => decide (x.1 ≤ k)) (decide_eq_true le_rfl), hnone,
    List.flatMap_cons, List.flatMap_nil, List.append_nil]

theorem overflowsAt_head : overflowsAt ((k, r) :: t) seen k ↔
    (∃ vs, r.role = .corridor vs) ∧ 12 < (addSeen seen (signList r)).length := by
  rw [overflowsAt, signsUpTo_head hlt]
  refine and_congr_left fun _ => ⟨?_, fun ⟨vs, h⟩ => ⟨r, vs, List.mem_cons_self, h⟩⟩
  rintro ⟨x, vs, hx, h⟩
  rcases List.mem_cons.mp hx with he | hx
  · cases he
    exact ⟨vs, h⟩
  · exact absurd (hlt _ hx) (lt_irrefl k)

theorem overflowsAt_tail {j : Nat} (hj : j ≠ k) :
    overflowsAt ((k, r) :: t) seen j ↔ overflowsAt t (addSeen seen (signList r)) j := by
  have hmem : ∀ x, (j, x) ∈ ((k, r) :: t : Table Placement) ↔ (j, x) ∈ t := fun x => by
    rw [List.mem_cons]
    exact ⟨fun h => h.resolve_left fun he => hj (congrArg Prod.fst he), .inr⟩
  unfold overflowsAt
  simp only [hmem]
  refine and_congr_right fun ⟨x, vs, hx, _⟩ => ?_
  rw [signsUpTo, List.filter_cons_of_pos (p := fun x : Nat × Placement => decide (x.1 ≤ j)) (decide_eq_true (hlt _ hx).le),
    List.flatMap_cons, addSeen_append]
  rfl

end

/-- The corridor placement at which the count passes 12 is the first such. -/
theorem signOverflow_first {t : Table Placement} (hw : Table.wf t = true) (seen : List Nat) :
    FirstFail (fun l j => l = .placement ∧ overflowsAt t seen j) ((signOverflow t seen).map fun i => (.placement, i)) := by
  induction t generalizing seen with
  | nil => exact fun l j h => nomatch h.2.1
  | cons y t ih =>
    obtain ⟨k, r⟩ := y
    simp only [Table.wf, Bool.and_eq_true] at hw
    obtain ⟨habove, hwf⟩ := hw
    have hlt : ∀ z ∈ t, k < z.1 := (Table.above_iff _ _).mp habove
    have hhead := overflowsAt_head (r := r) hlt seen
    rw [signOverflow_cons]
    split
    · rename_i h
      refine ⟨⟨rfl, hhead.mpr h⟩, ?_⟩
      rintro l j ⟨rfl, ⟨x, vs, hx, -⟩, -⟩
      refine .inr ⟨rfl, ?_⟩
      rcases List.mem_cons.mp hx with he | hx
      · cases he
        exact le_rfl
      · exact (hlt _ hx).le
    · rename_i h
      refine (ih hwf _).congr fun l j => and_congr_right fun _ => ?_
      by_cases hj : j = k
      · subst hj
        refine ⟨fun ⟨⟨x, vs, hx, _⟩, _⟩ => absurd (hlt _ hx) (lt_irrefl j), fun ho => absurd (hhead.mp ho) h⟩
      · exact (overflowsAt_tail hlt seen hj).symm

theorem signOverflow_eq_none_iff {t : Table Placement} {seen : List Nat} (hs : seen.length ≤ 12) :
    signOverflow t seen = none ↔ (addSeen seen (t.flatMap fun x => signList x.2)).length ≤ 12 := by
  induction t generalizing seen with
  | nil => exact ⟨fun _ => hs, fun _ => rfl⟩
  | cons y t ih =>
    obtain ⟨k, r⟩ := y
    rw [signOverflow_cons, List.flatMap_cons, addSeen_append]
    have hle := addSeen_length_le (addSeen seen (signList r)) (t.flatMap fun x => signList x.2)
    by_cases h : 12 < (addSeen seen (signList r)).length
    · have hc : ∃ vs, r.role = .corridor vs := by
        cases hr : r.role with
        | corridor vs => exact ⟨vs, rfl⟩
        | door c => rw [show signList r = [] by rw [signList, hr]] at h; exact absurd hs (Nat.not_le.mpr h)
        | venue v => rw [show signList r = [] by rw [signList, hr]] at h; exact absurd hs (Nat.not_le.mpr h)
      rw [if_pos ⟨hc, h⟩]
      exact ⟨nofun, fun hn => absurd hn (Nat.not_le.mpr (h.trans_le hle))⟩
    · rw [if_neg fun hc => h hc.2]
      exact ih (Nat.not_lt.mp h)

end Sys2Proof.Machine
end

section
/-! PROOFS. Each check of a plan, validation as a whole, and the acceptance of a commit (R13). -/

namespace Sys2Proof.Machine

/-! ## Searches over several kinds of record -/

/-- The first failing record, with every one that fails of kind position `n` or more. -/
structure FirstFrom (n : Nat) (P : RecordKind → Nat → Prop) (o : Option Offender) : Prop where
  first : FirstFail P o
  above : ∀ l j, P l j → n ≤ l.position

theorem FirstFrom.nothing : FirstFrom 8 (fun _ _ => False) (firstOffender []) := ⟨.nothing, fun _ _ h => h.elim⟩

theorem FirstFrom.cons {k : RecordKind} {P : Nat → Prop} {Q : RecordKind → Nat → Prop} {n : Nat} {o : Option Offender}
    {os : List (Option Offender)} (ho : FirstFail (fun l j => l = k ∧ P j) o) (hos : FirstFrom n Q (firstOffender os))
    (hk : k.position < n) : FirstFrom k.position (fun l j => (l = k ∧ P j) ∨ Q l j) (firstOffender (o :: os)) := by
  refine ⟨ho.cons hos.first ?_, ?_⟩
  · rintro l i m j ⟨rfl, -⟩ hq
    exact hk.trans_le (hos.above m j hq)
  · rintro l j (⟨rfl, -⟩ | hq)
    · exact le_rfl
    · exact hk.le.trans (hos.above l j hq)

/-! ## The eight checks -/

section
variable {p : Plan}

theorem dangling_loc (l : Location) : l.dangling p = true ↔ ∃ n, l = .node n ∧ ¬ Table.has p.nodes n = true := by
  cases l <;> simp [Location.dangling]

/-- The venues and the cabin a role names are defined (R7). -/
def roleDefined (p : Plan) (r : Role) : Prop :=
  (∀ c, r = .door c → Table.has p.cabins c = true) ∧ (∀ v, r = .venue v → Table.has p.venues v = true) ∧
    ∀ vs, r = .corridor vs → ∀ v ∈ vs, Table.has p.venues v = true

theorem dangling_role (r : Role) : r.dangling p = true ↔ ¬ roleDefined p r := by
  cases r <;> simp [Role.dangling, roleDefined]

theorem roleDefined_iff (x : Placement) : roleDefined p x.role ↔ (∀ c, x.role = .door c → Table.has p.cabins c = true) ∧
    (∀ v, x.role = .venue v → Table.has p.venues v = true) ∧ ∀ v ∈ signList x, Table.has p.venues v = true := by
  unfold roleDefined signList
  cases x.role <;> simp

variable (hw : planWf p)
include hw

theorem checkReference_first : FirstFail (failsCheck p .reference) (checkReference p) := by
  obtain ⟨hn, he, hz, hs, hv, hp, hc, hpl⟩ := hw
  have h : FirstFrom _ _ (checkReference p) := .cons (offender_first hn .node _)
    (.cons (offender_first he .edge _) (.cons (offender_first hs .station _)
    (.cons (offender_first hv .venue _) (.cons (offender_first hp .portal _) (.cons (offender_first hc .cabin _)
      (.cons (offender_first hpl .placement _) .nothing (by decide)) (by decide)) (by decide)) (by decide)) (by decide))
        (by decide))
    (by decide)
  refine h.first.congr fun l j => ?_
  cases l <;> simp only [failsCheck, dangling_loc, ← roleDefined_iff, reduceCtorEq, false_and, true_and, false_or, or_false]
  case node =>
    refine exists_congr fun x => and_congr_right fun _ => ?_
    cases x.venue <;> simp [or_iff_not_imp_left]
  case edge => simp [or_iff_not_imp_left]
  case portal => simp
  case cabin => simp [or_iff_not_imp_left]
  case placement => simp [dangling_role, or_iff_not_imp_left]
  all_goals simp only [← exists_and_left]

theorem checkZoneStation_first : FirstFail (failsCheck p .zoneStation) (checkZoneStation p) := by
  obtain ⟨hn, he, hz, hs, hv, hp, hc, hpl⟩ := hw
  refine (offender_first hz .zone _).congr fun l j => ?_
  cases l <;> simp [failsCheck]

theorem checkSelfLoop_first : FirstFail (failsCheck p .selfLoop) (checkSelfLoop p) := by
  obtain ⟨hn, he, hz, hs, hv, hp, hc, hpl⟩ := hw
  refine (offender_first he .edge _).congr fun l j => ?_
  cases l <;> simp [failsCheck]

theorem checkVenueNode_first : FirstFail (failsCheck p .venueNode) (checkVenueNode p) := by
  obtain ⟨hn, he, hz, hs, hv, hp, hc, hpl⟩ := hw
  have h : FirstFrom _ _ (checkVenueNode p) := .cons (offender_first hn .node _)
    (.cons (offender_first hv .venue _) .nothing (by decide)) (by decide)
  refine h.first.congr fun l j => ?_
  cases l <;> simp [failsCheck]
  case node =>
    refine exists_congr fun x => and_congr_right fun _ => ?_
    cases x.venue with
    | none => simp
    | some v => simp [Option.any_eq_true]
  case venue =>
    refine exists_congr fun x => and_congr_right fun _ => ?_
    cases x.loc with
    | remote => simp
    | node n => simp [Option.any_eq_false]

theorem checkDoorNode_first : FirstFail (failsCheck p .doorNode) (checkDoorNode p) := by
  obtain ⟨hn, he, hz, hs, hv, hp, hc, hpl⟩ := hw
  refine (offender_first hpl .placement _).congr fun l j => ?_
  cases l <;> simp [failsCheck]
  refine exists_congr fun x => and_congr_right fun _ => ?_
  cases x.role with
  | door c => simp [Option.any_eq_true]
  | _ => simp

theorem checkCabinNumber_first : FirstFail (failsCheck p .cabinNumber) (checkCabinNumber p) := by
  obtain ⟨hn, he, hz, hs, hv, hp, hc, hpl⟩ := hw
  have hmem : ∀ i x, (i, x) ∈ p.cabins ↔ Table.get p.cabins i = some x := fun i x => ⟨Table.get_of_mem hc, Table.mem_of_get⟩
  refine (offender_first hc .cabin _).congr fun l j => ?_
  cases l <;> simp [failsCheck]
  refine exists_congr fun x => and_congr_right fun _ => exists_congr fun i => ?_
  simp only [hmem, ← exists_and_left]
  exact exists_congr fun y => and_left_comm

theorem checkIdentity_first : FirstFail (failsCheck p .duplicateIdentity) (checkIdentity p) := by
  obtain ⟨hn, he, hz, hs, hv, hp, hc, hpl⟩ := hw
  have hmem : ∀ i x, (i, x) ∈ p.placements ↔ Table.get p.placements i = some x := fun i x =>
    ⟨Table.get_of_mem hpl, Table.mem_of_get⟩
  refine (offender_first hpl .placement _).congr fun l j => ?_
  cases l <;> simp [failsCheck]
  refine exists_congr fun x => and_congr_right fun _ => ?_
  simp only [hmem, ← exists_and_left]
  refine exists_congr fun i => exists_congr fun y => ?_
  tauto

theorem checkSignVenues_first : FirstFail (failsCheck p .signVenues) (checkSignVenues p) := by
  obtain ⟨hn, he, hz, hs, hv, hp, hc, hpl⟩ := hw
  refine (signOverflow_first hpl []).congr fun l j => ?_
  have hmem : ∀ x, (j, x) ∈ p.placements ↔ Table.get p.placements j = some x := fun x =>
    ⟨Table.get_of_mem hpl, Table.mem_of_get⟩
  cases l <;> simp [failsCheck, overflowsAt, hmem, addSeen_nil_length, signsUpTo]

end

end Sys2Proof.Machine
end

section
/-! PROOFS. Validation as a whole, and the acceptance of a commit (R13). -/

namespace Sys2Proof.Machine

/-! ## A plan that passes -/

theorem firstSome_eq_none_iff {α β : Type} {f : α → Option β} {l : List α} : firstSome f l = none ↔ ∀ a ∈ l, f a = none := by
  refine ⟨fun h a => firstSome_eq_none h, fun h => ?_⟩
  induction l with
  | nil => rfl
  | cons a l ih =>
    rw [firstSome, h a List.mem_cons_self]
    exact ih fun b hb => h b (List.mem_cons_of_mem _ hb)

theorem validatePlan_eq_none_iff (p : Plan) : validatePlan p = none ↔
    checkReference p = none ∧ checkZoneStation p = none ∧ checkSelfLoop p = none ∧ checkVenueNode p = none ∧
      checkDoorNode p = none ∧ checkCabinNumber p = none ∧ checkIdentity p = none ∧ checkSignVenues p = none := by
  simp [validatePlan, firstSome_eq_none_iff]

section
variable (p : Plan)

theorem checkReference_eq_none_iff : checkReference p = none ↔
    (∀ i r, (i, r) ∈ p.nodes → Table.has p.zones r.zone ∧ ∀ v, r.venue = some v → Table.has p.venues v) ∧
    (∀ i r, (i, r) ∈ p.edges → Table.has p.nodes r.a ∧ Table.has p.nodes r.b ∧ Table.has p.zones r.zone) ∧
    (∀ i r, (i, r) ∈ p.stations → ∀ n, r.loc = .node n → Table.has p.nodes n) ∧
    (∀ i r, (i, r) ∈ p.venues → ∀ n, r.loc = .node n → Table.has p.nodes n) ∧
    (∀ i r, (i, r) ∈ p.portals → Table.has p.nodes r.node) ∧
    (∀ i r, (i, r) ∈ p.cabins → Table.has p.nodes r.door ∧ Table.has p.stations r.station) ∧
    (∀ i r, (i, r) ∈ p.placements → Table.has p.nodes r.node ∧ roleDefined p r.role) := by
  have hloc : ∀ l : Location, l.dangling p = false ↔ ∀ n, l = .node n → Table.has p.nodes n := fun l => by
    cases l <;> simp [Location.dangling]
  have hrole : ∀ r : Role, r.dangling p = false ↔ roleDefined p r := fun r => by
    rw [← Bool.not_eq_true, dangling_role, not_not]
  have hvenue : ∀ o : Option Nat, (o.any fun v => !Table.has p.venues v) = false ↔ ∀ v, o = some v → Table.has p.venues v = true :=
    fun o => by cases o <;> simp
  simp [checkReference, firstOffender, firstSome_eq_none_iff, offender_eq_none_iff, hloc, hrole, hvenue, and_assoc]

theorem checkVenueNode_eq_none_iff : checkVenueNode p = none ↔
    (∀ i r, (i, r) ∈ p.nodes → ∀ v x, r.venue = some v → Table.get p.venues v = some x → x.loc = .node i) ∧
    (∀ i r, (i, r) ∈ p.venues → ∀ n, r.loc = .node n → ∃ x, Table.get p.nodes n = some x ∧ x.venue = some i) := by
  simp only [checkVenueNode, firstOffender, firstSome_eq_none_iff, List.forall_mem_cons, List.not_mem_nil, id_eq,
    offender_eq_none_iff,
    false_imp_iff, implies_true, and_true]
  refine and_congr (forall_congr' fun i => forall_congr' fun r => imp_congr_right fun _ => ?_)
    (forall_congr' fun i => forall_congr' fun r => imp_congr_right fun _ => ?_)
  · cases r.venue with
    | none => simp
    | some v =>
      rw [Option.any_some, Option.any_eq_false]
      simp only [bne_eq_false_iff_eq]
      exact ⟨fun h w x hw => Option.some.inj hw ▸ h x, fun h x => h v x rfl⟩
  · cases r.loc with
    | remote => simp
    | node n => simp [Option.any_eq_true]

theorem checkDoorNode_eq_none_iff : checkDoorNode p = none ↔
    ∀ i r, (i, r) ∈ p.placements → ∀ c x, r.role = .door c → Table.get p.cabins c = some x → x.door = r.node := by
  rw [checkDoorNode, offender_eq_none_iff]
  refine forall_congr' fun i => forall_congr' fun r => imp_congr_right fun _ => ?_
  cases r.role with
  | door c =>
    rw [Option.any_eq_false]
    simp only [bne_eq_false_iff_eq]
    exact ⟨fun h d x hd => Role.door.inj hd ▸ h x, fun h x => h c x rfl⟩
  | _ => simp

theorem checkCabinNumber_eq_none_iff : checkCabinNumber p = none ↔
    ∀ i j r x, (i, r) ∈ p.cabins → (j, x) ∈ p.cabins → j < i → x.number ≠ r.number := by
  simp only [checkCabinNumber, offender_eq_none_iff, List.any_eq_false, Bool.and_eq_true, decide_eq_true_iff, beq_iff_eq, not_and,
    Prod.forall, ne_eq]
  exact ⟨fun h i j r x hr => h i r hr j x, fun h i r hr j x => h i j r x hr⟩

theorem checkIdentity_eq_none_iff : checkIdentity p = none ↔
    ∀ i j r x, (i, r) ∈ p.placements → (j, x) ∈ p.placements → j < i → r.expected.isSome → x.expected ≠ r.expected := by
  simp only [checkIdentity, offender_eq_none_iff, Bool.and_eq_false_imp, List.any_eq_false, Bool.and_eq_true, decide_eq_true_iff,
    beq_iff_eq, not_and, Prod.forall, ne_eq]
  exact ⟨fun h i j r x hr hx hlt hs => h i r hr hs j x hx hlt, fun h i r hr hs j x hx hlt => h i j r x hr hx hlt hs⟩

theorem checkSignVenues_eq_none_iff : checkSignVenues p = none ↔
    (p.placements.flatMap fun x => signList x.2).dedup.length ≤ 12 := by
  rw [checkSignVenues, Option.map_eq_none_iff, signOverflow_eq_none_iff (seen := []) (Nat.zero_le 12), addSeen_nil_length]

end

/-! ## The first check that fails -/

/-- The check and the record reported are the first of those that fail. -/
def FirstCheck (P : Reason → RecordKind → Nat → Prop) : Option (Reason × Offender) → Prop
  | none => ∀ q l j, ¬ P q l j
  | some (r, k, i) => P r k i ∧ ∀ q l j, P q l j → checkedBefore r k i q l j

theorem checkedBefore_antisymm {r q : Reason} {k l : RecordKind} {i j : Nat} (h : checkedBefore r k i q l j)
    (hr : checkedBefore q l j r k i) : r = q ∧ k = l ∧ i = j := by
  rcases h with h | ⟨rfl, h⟩
  · rcases hr with hr | ⟨rfl, -⟩
    · exact absurd hr (Nat.lt_asymm h)
    · exact absurd h (lt_irrefl _)
  · rcases hr with hr | ⟨-, hr⟩
    · exact absurd hr (lt_irrefl _)
    · refine ⟨rfl, ?_⟩
      rcases h with h | ⟨rfl, h⟩
      · rcases hr with hr | ⟨rfl, -⟩
        · exact absurd hr (Nat.lt_asymm h)
        · exact absurd h (lt_irrefl _)
      · rcases hr with hr | ⟨-, hr⟩
        · exact absurd hr (lt_irrefl _)
        · exact ⟨rfl, Nat.le_antisymm h hr⟩

/-- What is reported is told by what fails. -/
theorem FirstCheck.eq_some_iff {P : Reason → RecordKind → Nat → Prop} {o : Option (Reason × Offender)} (h : FirstCheck P o)
    {r : Reason} {k : RecordKind} {i : Nat} :
    o = some (r, k, i) ↔ P r k i ∧ ∀ q l j, P q l j → checkedBefore r k i q l j := by
  constructor
  · rintro rfl
    exact h
  · rintro ⟨hp, hmin⟩
    match o, h with
    | none, h => exact absurd hp (h r k i)
    | some (q, l, j), h =>
      obtain ⟨rfl, rfl, rfl⟩ := checkedBefore_antisymm (h.2 r k i hp) (hmin q l j h.1)
      rfl

/-- A list of checks, each with the first record that fails it, in the order of their reasons. -/
theorem firstCheck_of_list {P : Reason → RecordKind → Nat → Prop} {xs : List (Reason × Option Offender)}
    (hf : ∀ x ∈ xs, FirstFail (P x.1) x.2) (hs : xs.Pairwise fun x y => x.1.code.toNat < y.1.code.toNat) :
    FirstCheck (fun q l j => q ∈ xs.map Prod.fst ∧ P q l j)
      (firstSome (fun x : Reason × Option Offender => x.2.map fun o => (x.1, o)) xs) := by
  induction xs with
  | nil => exact fun q l j h => nomatch h.1
  | cons x xs ih =>
    obtain ⟨r, o⟩ := x
    obtain ⟨hlt, hs⟩ := List.pairwise_cons.mp hs
    have hhead : FirstFail (P r) o := hf _ List.mem_cons_self
    have htail := ih (fun y hy => hf y (List.mem_cons_of_mem _ hy)) hs
    cases o with
    | some o =>
      refine ⟨⟨List.mem_cons_self, hhead.1⟩, ?_⟩
      rintro q l j ⟨hq, hp⟩
      rcases List.mem_cons.mp hq with rfl | hq
      · exact .inr ⟨rfl, hhead.2 l j hp⟩
      · obtain ⟨y, hy, rfl⟩ := List.mem_map.mp hq
        exact .inl (hlt y hy)
    | none =>
      have hiff : ∀ q l j, (q ∈ xs.map Prod.fst ∧ P q l j) ↔ (q ∈ ((r, none) :: xs).map Prod.fst ∧ P q l j) := by
        refine fun q l j => and_congr_left fun hp => ⟨List.mem_cons_of_mem _, fun hq => ?_⟩
        rcases List.mem_cons.mp hq with rfl | hq
        · exact absurd hp (hhead l j)
        · exact hq
      simp only [← hiff]
      exact htail

theorem failsCheck_listed {p : Plan} {q : Reason} {l : RecordKind} {j : Nat} (h : failsCheck p q l j) :
    q ∈ [Reason.reference, .zoneStation, .selfLoop, .venueNode, .doorNode, .cabinNumber, .duplicateIdentity, .signVenues] := by
  unfold failsCheck at h
  split at h
  case h_16 => exact h.elim
  all_goals simp only [List.mem_cons, true_or, or_true]

/-- Validation reports the first check that fails, with the first record it fails for. -/
theorem validatePlan_first {p : Plan} (hw : planWf p) : FirstCheck (failsCheck p) (validatePlan p) := by
  have h := firstCheck_of_list (P := failsCheck p)
    (xs := [(.reference, checkReference p), (.zoneStation, checkZoneStation p), (.selfLoop, checkSelfLoop p),
      (.venueNode, checkVenueNode p), (.doorNode, checkDoorNode p), (.cabinNumber, checkCabinNumber p),
      (.duplicateIdentity, checkIdentity p), (.signVenues, checkSignVenues p)])
    (by
      simp only [List.forall_mem_cons, List.not_mem_nil, false_imp_iff, implies_true, and_true]
      exact ⟨checkReference_first hw, checkZoneStation_first hw, checkSelfLoop_first hw, checkVenueNode_first hw,
        checkDoorNode_first hw, checkCabinNumber_first hw, checkIdentity_first hw, checkSignVenues_first hw⟩)
    (by
      refine List.Pairwise.of_map (f := Prod.fst) (S := fun r q : Reason => r.code.toNat < q.code.toNat) (fun _ _ h => h) ?_
      rw [show List.map Prod.fst _ = [Reason.reference, .zoneStation, .selfLoop, .venueNode, .doorNode, .cabinNumber,
        .duplicateIdentity,
        .signVenues] from rfl]
      decide)
  have hiff : ∀ q l j, (q ∈ [Reason.reference, .zoneStation, .selfLoop, .venueNode, .doorNode, .cabinNumber, .duplicateIdentity,
      .signVenues] ∧ failsCheck p q l j) ↔ failsCheck p q l j :=
    fun q l j => ⟨fun h => h.2, fun h => ⟨failsCheck_listed h, h⟩⟩
  simp only [List.map_cons, List.map_nil, hiff] at h
  exact h

/-! ## Acceptance -/

theorem bindInFlight_refusal (s : State) : Reply.refuse (if s.bindInFlight then .busy else .state) =
    .refuse (match s.store.inFlight with
      | some (.bind _ _ _) => .busy
      | _ => .state) := by
  unfold State.bindInFlight
  cases s.store.inFlight with
  | none => rfl
  | some w => cases w <;> rfl

theorem storeBusy_iff (s : State) : s.storeBusy = true ↔ s.store.inFlight.isSome ∨ s.store.waiting.isSome := by
  rw [State.storeBusy, Bool.or_eq_true]

/-- Settles O11: the edit and the store decide, and then validation, which reports the first check that fails. -/
theorem commitsAreValidated : Obligations.CommitsAreValidated := by
  unfold Obligations.CommitsAreValidated
  refine ⟨fun tag body s hr => ?_, fun p => ?_, fun p hw r k i => (validatePlan_first hw).eq_some_iff⟩
  · refine congrArg Host.Outcome.next ((takeRequest_taken hr rfl).trans ?_)
    change settle .safety tag 0x13#8 (planCommit tag (requestTaken .safety s)) = _
    unfold planCommit
    change settle _ _ _ (match s.plan.edit with | .closed => _ | .committing => _ | .editing => _) = _
    cases s.plan.edit with
    | closed => exact congrArg ((requestTaken .safety s).answer .safety tag 0x13#8) (bindInFlight_refusal s)
    | committing => rfl
    | editing =>
      dsimp only
      by_cases hb : s.storeBusy = true
      · have hbt : (requestTaken .safety s).storeBusy = true := hb
        rw [if_pos ((storeBusy_iff s).mp hb), if_pos hbt]
        rfl
      · have hbt : ¬ (requestTaken .safety s).storeBusy = true := hb
        rw [if_neg ((storeBusy_iff s).not.mp hb), if_neg hbt]
        change settle _ _ _ (match validatePlan s.plan.shadow with | some (r, o) => _ | none => _) = _
        cases validatePlan s.plan.shadow with
        | some x => rfl
        | none => rfl
  · rw [validatePlan_eq_none_iff, checkReference_eq_none_iff, checkVenueNode_eq_none_iff, checkDoorNode_eq_none_iff,
      checkCabinNumber_eq_none_iff, checkIdentity_eq_none_iff, checkSignVenues_eq_none_iff, checkZoneStation, offender_eq_none_iff,
      checkSelfLoop, offender_eq_none_iff]
    simp only [Bool.not_eq_eq_eq_not, Bool.not_false, beq_eq_false_iff_ne, roleDefined]
    exact Iff.rfl

end Sys2Proof.Machine
end

section
/-! PROOFS. The scanner's choice of card and poll exchanges (R163 to R166). -/

namespace Sys2Proof.Machine

/-! ## The order of a refresh queue -/

theorem pair_sublist_split {a e : Nat} {q : List Nat} (h : [a, e].Sublist q) : ∃ l m r, q = l ++ a :: m ++ e :: r := by
  obtain ⟨q₁, q₂, rfl, ha, he⟩ := List.cons_sublist_iff.mp h
  obtain ⟨l, m₁, rfl⟩ := List.append_of_mem ha
  obtain ⟨m₂, r, rfl⟩ := List.append_of_mem (List.singleton_sublist.mp he)
  exact ⟨l, m₁ ++ m₂, r, by simp⟩

section
variable (s : State) (g : Seg)

/-- The records of one class, in joining order. -/
def State.ofClass (c : ContentClass) : List Nat := (s.seg g).queue.filter fun a => s.backClass g a == some c

theorem queueOrder_eq : s.queueOrder g = s.ofClass g .safety ++
    (s.ofClass g .notice ++ (s.ofClass g .duty ++ s.ofClass g .parked)) := by
  simp [State.queueOrder, State.ofClass]

theorem mem_ofClass {c : ContentClass} {a : Nat} : a ∈ s.ofClass g c ↔ a ∈ (s.seg g).queue ∧ s.backClass g a = some c := by
  simp [State.ofClass]

theorem count_ofClass (c : ContentClass) (a : Nat) :
    (s.ofClass g c).count a = if s.backClass g a = some c then (s.seg g).queue.count a else 0 := by
  split
  · rename_i h
    exact List.count_filter (by simp [h])
  · rename_i h
    exact List.count_eq_zero.mpr fun hm => h ((mem_ofClass s g).mp hm).2

theorem queueOrder_perm (h : ∀ a ∈ (s.seg g).queue, (s.display (recKey g a)).buffers.backCard.isSome) :
    (s.queueOrder g).Perm (s.seg g).queue := by
  refine List.perm_iff_count.mpr fun a => ?_
  rw [queueOrder_eq]
  simp only [List.count_append, count_ofClass]
  by_cases ha : a ∈ (s.seg g).queue
  · obtain ⟨c, hc⟩ := Option.isSome_iff_exists.mp (h a ha)
    have hclass : s.backClass g a = some c.cls := by rw [State.backClass, hc]; rfl
    rw [hclass]
    cases c.cls <;> simp
  · simp [List.count_eq_zero.mpr ha]

theorem queueOrder_filter (c : ContentClass) :
    ((s.queueOrder g).filter fun a => s.backClass g a == some c) = s.ofClass g c := by
  have hof : ∀ d : ContentClass, ((s.ofClass g d).filter fun a => s.backClass g a == some c) =
      if d = c then s.ofClass g c else [] := fun d => by
    split
    · rename_i h
      subst h
      exact List.filter_eq_self.mpr fun a ha => by simp [((mem_ofClass s g).mp ha).2]
    · rename_i h
      exact List.filter_eq_nil_iff.mpr fun a ha => by simp [((mem_ofClass s g).mp ha).2, h]
  rw [queueOrder_eq]
  simp only [List.filter_append, hof]
  cases c <;> simp

theorem queueOrder_ranked : (s.queueOrder g).Pairwise fun a e =>
    ∀ c d, s.backClass g a = some c → s.backClass g e = some d → classRank c ≤ classRank d := by
  have hsplit : ∀ {c : ContentClass} {l : List Nat}, (∀ e ∈ l, ∀ d, s.backClass g e = some d → classRank c ≤ classRank d) →
      (l.Pairwise fun a e => ∀ c d, s.backClass g a = some c → s.backClass g e = some d → classRank c ≤ classRank d) →
      ((s.ofClass g c ++ l).Pairwise fun a e => ∀ c d, s.backClass g a = some c → s.backClass g e = some d →
        classRank c ≤ classRank d) := by
    intro c l hl hp
    refine List.pairwise_append.mpr ⟨List.pairwise_of_forall_mem_list fun a ha e he x y hx hy => ?_, hp,
      fun a ha e he x y hx hy => ?_⟩
    · cases hx.symm.trans ((mem_ofClass s g).mp ha).2
      cases hy.symm.trans ((mem_ofClass s g).mp he).2
      exact le_rfl
    · cases hx.symm.trans ((mem_ofClass s g).mp ha).2
      exact hl e he y hy
  have hclass : ∀ {c d : ContentClass} {e : Nat}, e ∈ s.ofClass g c → s.backClass g e = some d → d = c := fun he hd =>
    Option.some.inj (hd.symm.trans ((mem_ofClass s g).mp he).2)
  rw [queueOrder_eq, ← List.append_nil (s.ofClass g .parked)]
  refine hsplit ?_ (hsplit ?_ (hsplit ?_ (hsplit (fun e he => nomatch he) .nil)))
  all_goals
    intro e he d hd
    simp only [List.mem_append, List.not_mem_nil, or_false] at he
  · exact Nat.zero_le _
  · rcases he with he | he <;> cases hclass he hd <;> decide
  · cases hclass he hd
    decide

end

/-! ## The choice -/

theorem sendable_iff (d : Display) : d.sendable = true ↔ canSend d := by
  unfold Display.sendable canSend
  cases d.buffers.backCard with
  | none => simp
  | some c =>
    have hcredit : d.hasCredit = true ↔ ∃ n, d.credits = some n ∧ 1 ≤ n := by simp [Display.hasCredit, Option.any_eq_true]
    simp [hcredit, StoredCard.exempt, or_assoc]

/-- In a rising list a search finds the least element that qualifies. -/
theorem find?_of_sorted {p : Nat → Bool} {l : List Nat} (hs : l.Pairwise (· < ·)) {a : Nat} (ha : a ∈ l) (hp : p a = true)
    (hmin : ∀ e ∈ l, p e = true → a ≤ e) : l.find? p = some a := by
  induction l with
  | nil => cases ha
  | cons b l ih =>
    obtain ⟨hb, hs⟩ := List.pairwise_cons.mp hs
    rcases List.mem_cons.mp ha with rfl | ha
    · exact List.find?_cons_of_pos hp
    · have hpb : ¬ p b = true := fun h => absurd (hb a ha) (Nat.not_lt.mpr (hmin b List.mem_cons_self h))
      rw [List.find?_cons_of_neg hpb]
      exact ih hs ha fun e he => hmin e (List.mem_cons_of_mem _ he)

theorem head?_of_sorted {l : List Nat} (hs : l.Pairwise (· < ·)) {a : Nat} (ha : a ∈ l) (hmin : ∀ e ∈ l, a ≤ e) :
    l.head? = some a := by
  cases l with
  | nil => cases ha
  | cons b l =>
    rcases List.mem_cons.mp ha with rfl | ha
    · rfl
    · exact absurd ((List.pairwise_cons.mp hs).1 a ha) (Nat.not_lt.mpr (hmin b List.mem_cons_self))

section
variable {s : State} {g : Seg}

/-- The addresses a poll may go to. -/
def State.served (s : State) (g : Seg) (a : Nat) : Prop := isAddress a ∧ (s.display (recKey g a)).state.inService

theorem mem_inServiceAddresses {a : Nat} : a ∈ s.inServiceAddresses g ↔ s.served g a := by
  simp only [State.inServiceAddresses, State.served, Config.addressCount, List.mem_filter, List.mem_map, List.mem_range, isAddress]
  refine and_congr_left fun _ => ⟨?_, fun h => ⟨a - 1, by omega, by omega⟩⟩
  rintro ⟨n, hn, rfl⟩
  omega

theorem inServiceAddresses_sorted : (s.inServiceAddresses g).Pairwise (· < ·) :=
  List.Pairwise.filter _ (List.Pairwise.map _ (fun _ _ h => Nat.succ_lt_succ h) List.pairwise_lt_range)

theorem chooseCard_eq_some {pre post : List Nat} {a : Nat} (hq : s.queueOrder g = pre ++ a :: post)
    (hpre : ∀ e ∈ pre, ¬ canSend (s.display (recKey g e))) (ha : canSend (s.display (recKey g a))) : s.chooseCard g = some a := by
  rw [State.chooseCard, hq, List.find?_append,
    List.find?_eq_none.mpr fun e he h => hpre e he ((sendable_iff _).mp h), Option.none_or]
  exact List.find?_cons_of_pos ((sendable_iff _).mpr ha)

theorem chooseCard_eq_none (h : ∀ a ∈ s.queueOrder g, ¬ canSend (s.display (recKey g a))) : s.chooseCard g = none :=
  List.find?_eq_none.mpr fun a ha hs => h a ha ((sendable_iff _).mp hs)

theorem choosePoll_eq_none (h : ¬ (s.bus.inbound.length + s.reservations < 48 ∧ ∃ a, s.served g a)) : s.choosePoll g = none := by
  unfold State.choosePoll
  split
  · rename_i hroom
    have hnil : s.inServiceAddresses g = [] :=
      List.eq_nil_iff_forall_not_mem.mpr fun a ha => h ⟨hroom, a, mem_inServiceAddresses.mp ha⟩
    rw [hnil]
    rfl
  · rfl

theorem choosePoll_eq_some {a : Nat} (hroom : s.bus.inbound.length + s.reservations < 48) (ha : s.served g a)
    (h : ((s.seg g).rotation < a ∧ ∀ e, s.served g e → (s.seg g).rotation < e → a ≤ e) ∨
      ∀ e, s.served g e → e ≤ (s.seg g).rotation ∧ a ≤ e) : s.choosePoll g = some a := by
  unfold State.choosePoll
  rw [if_pos (show _ < Config.inboundLimit from hroom)]
  dsimp only
  have hmem := mem_inServiceAddresses.mpr ha
  rcases h with ⟨hlt, hmin⟩ | hall
  · rw [find?_of_sorted inServiceAddresses_sorted hmem (decide_eq_true hlt)
      fun e he hp => hmin e (mem_inServiceAddresses.mp he) (of_decide_eq_true hp)]
  · rw [List.find?_eq_none.mpr fun e he hp =>
      absurd (of_decide_eq_true hp) (Nat.not_lt.mpr (hall e (mem_inServiceAddresses.mp he)).1)]
    exact head?_of_sorted inServiceAddresses_sorted hmem fun e he => (hall e (mem_inServiceAddresses.mp he)).2

theorem scannerChoice_of_free (hx : (s.seg g).exchange = none) (ha : (s.seg g).activity = .idle) : s.segmentFree g = true := by
  simp [State.segmentFree, hx, ha]

theorem scannerChoice_card {a : Nat} (hf : s.segmentFree g = true) (hc : s.chooseCard g = some a)
    (h : (s.seg g).turn = .card ∨ s.choosePoll g = none) : s.scannerChoice g = some (.card a) := by
  rw [State.scannerChoice, if_pos hf, hc]
  rcases h with h | h
  · rw [h]
    rfl
  · rw [h]
    cases (s.seg g).turn <;> rfl

theorem scannerChoice_of_poll {a : Nat} (hf : s.segmentFree g = true) (hp : s.choosePoll g = some a)
    (h : (s.seg g).turn = .poll ∨ s.chooseCard g = none) : s.scannerChoice g = some (.poll a) := by
  rw [State.scannerChoice, if_pos hf, hp]
  rcases h with h | h
  · rw [h]
    rfl
  · rw [h]
    cases (s.seg g).turn <;> rfl

theorem scannerChoice_busy (h : (s.seg g).exchange ≠ none ∨ (s.seg g).activity ≠ .idle) : s.scannerChoice g = none := by
  refine if_neg fun hf => ?_
  simp only [State.segmentFree, Bool.and_eq_true, Option.isNone_iff_eq_none, beq_iff_eq] at hf
  exact h.elim (fun h => h hf.1) fun h => h hf.2

end

/-- Settles O51: the queue stands by class and joining, and the scanner takes the turn's exchange when there is one, the
other's when there is none. -/
theorem scannerStartsTheChosenExchange : Obligations.ScannerStartsTheChosenExchange := by
  unfold Obligations.ScannerStartsTheChosenExchange
  intro g s
  refine ⟨queueOrder_perm s g, ?_, fun hx ha => ?_, fun h => ?_⟩
  · rintro pre a post b post' c e hq rfl hc c' hc'
    have hsub : [a, e].Sublist (s.queueOrder g) := by
      rw [hq]
      exact ((List.Sublist.cons_cons a ((List.singleton_sublist).mpr (by simp))).trans (List.sublist_append_right _ _))
    refine ⟨?_, ?_⟩
    · exact List.rel_of_pairwise_cons ((queueOrder_ranked s g).sublist hsub) List.mem_cons_self c c' hc hc'
    · rintro rfl -
      have hf := hsub.filter fun x => s.backClass g x == some c
      rw [queueOrder_filter, List.filter_eq_self.mpr (by simp [hc, hc'])] at hf
      exact pair_sublist_split (hf.trans List.filter_sublist)
  · have hfree : s.begin.segmentFree g = true := scannerChoice_of_free hx ha
    refine ⟨fun pre a post c hq hpre hsend hc hturn => ?_, fun a hroom hserved hturn hnext => ?_⟩
    · have hchoice := scannerChoice_card hfree (chooseCard_eq_some hq hpre hsend) (hturn.imp_right choosePoll_eq_none)
      change Host.Outcome.next (cardExchange g s.begin) = _
      rw [cardExchange, hchoice]
      dsimp only
      rw [State.sendCard, show (s.begin.display (recKey g a)).buffers.backCard = some c from hc]
      rfl
    · have hchoice := scannerChoice_of_poll hfree (choosePoll_eq_some hroom hserved hnext) (hturn.imp_right chooseCard_eq_none)
      change Host.Outcome.next (pollExchange g s.begin) = _
      rw [pollExchange, hchoice]
      rfl
  · have hchoice : s.begin.scannerChoice g = none := scannerChoice_busy h
    constructor
    · change Host.Outcome.next (cardExchange g s.begin) = _
      rw [cardExchange, hchoice]
      rfl
    · change Host.Outcome.next (pollExchange g s.begin) = _
      rw [pollExchange, hchoice]
      rfl

end Sys2Proof.Machine
end

section
/-! PROOFS. The end of a transit: the composition of a marked record, and the end of the exchange (R141, R163, R167). -/

namespace Sys2Proof.Machine

/-! ## Joining orders -/

/-- A record's joining order after it joins: it keeps a place it has. -/
def joined (q : List Nat) (a : Nat) : List Nat := if a ∈ q then q else q ++ [a]

section
variable (s : State) (k : Nat)

theorem joinQueue_queue : ((s.joinQueue k).seg (keySeg k)).queue = joined (s.seg (keySeg k)).queue (keyAddr k) := by
  rw [State.joinQueue, State.seg_modSeg, joined]
  by_cases h : keyAddr k ∈ (s.seg (keySeg k)).queue
  · rw [if_pos (List.contains_iff_mem.mpr h), if_pos h]
  · rw [if_neg fun hc => h (List.contains_iff_mem.mp hc), if_neg h]

theorem leaveQueue_queue : ((s.leaveQueue k).seg (keySeg k)).queue = (s.seg (keySeg k)).queue.filter (· ≠ keyAddr k) := by
  rw [State.leaveQueue, State.seg_modSeg]
  exact List.filter_congr fun x _ => by rw [bne, decide_not]; rfl

theorem filter_joined (q : List Nat) (a : Nat) : (joined q a).filter (· ≠ a) = q.filter (· ≠ a) := by
  unfold joined
  split
  · rfl
  · simp

theorem moveLast_queue : ((s.moveLast k).seg (keySeg k)).queue =
    (s.seg (keySeg k)).queue.filter (· ≠ keyAddr k) ++ [keyAddr k] := by
  rw [State.moveLast, joinQueue_queue, leaveQueue_queue, joined, if_neg (by simp)]

theorem moveLast_seg_other {h : Seg} (hh : h ≠ keySeg k) : (s.moveLast k).seg h = s.seg h :=
  (State.seg_modSeg_ne _ _ _ _ hh).trans (State.seg_modSeg_ne _ _ _ _ hh)

open Classical in
/-- The queue of a record's segment after its composition. -/
theorem composeRecord_joins (c : Cause) : ((s.composeRecord k c).1.seg (keySeg k)).queue =
    if s.refills k ∧ (s.display k).state.inService then joined (s.seg (keySeg k)).queue (keyAddr k) else
      (s.seg (keySeg k)).queue := by
  rw [← composeRecord_refills s k c]
  rcases composeRecord_cases s k c with h | ⟨d, h⟩ | h <;> rw [h]
  · simp
  · rw [if_neg (by simp)]
    rfl
  · dsimp only
    by_cases hs : (s.display k).state.inService = true
    · rw [if_pos hs, if_pos ⟨rfl, hs⟩]
      exact joinQueue_queue ..
    · rw [if_neg hs, if_neg fun hc => hs hc.2]
      rfl

end

/-! ## A marked record (R141) -/

/-- The state in which a marked record is composed. -/
def State.unmarked (s : State) (k : Nat) : State := s.setDisplay k { s.display k with recompose := .clear }

/-- What the end of a transit leaves of `s` in `t`: the mark is clear, and a record that had one is composed. The segment is as
`left` tells. -/
structure TransitEnd (left : Segment → Segment → Prop) (k : Nat) (s t : State) : Prop where
  rest : SameBut [.dir, .segs] s t
  only : onlyRecord (keySeg k) k s t
  seg : left (s.seg (keySeg k)) (t.seg (keySeg k))
  record : t.display k = { s.display k with recompose := .clear, buffers := (t.display k).buffers, looked := (t.display k).looked }
  front : (t.display k).buffers.frontCard = (s.display k).buffers.frontCard
  clear : (s.display k).recompose = .clear → t.display k = s.display k ∧ (t.seg (keySeg k)).queue = (s.seg (keySeg k)).queue
  free : (s.display k).state = .free → t.display k = { s.display k with recompose := .clear }
  idle : (s.display k).state.inService = false → (t.seg (keySeg k)).queue = (s.seg (keySeg k)).queue
  composed : (s.display k).recompose ≠ .clear → (s.display k).state ≠ .free → isComposed t k
  requeued : (s.display k).state.inService → ∀ p e, (s.display k).recompose = .set p e → (t.seg (keySeg k)).queue =
    if (t.display k).buffers.backCard = (s.display k).buffers.backCard then (s.seg (keySeg k)).queue
    else if e then (s.seg (keySeg k)).queue.filter (· ≠ keyAddr k) ++ [keyAddr k]
    else joined (s.seg (keySeg k)).queue (keyAddr k)

section
variable {s : State} {k : Nat}

theorem unmarked_display : (s.unmarked k).display k = { s.display k with recompose := .clear } := State.display_setDisplay_same ..

theorem recompose_clear (h : (s.display k).recompose = .clear) : s.recompose k = s := by
  rw [State.recompose, h]

open Classical in
theorem recompose_set {p e : Bool} (h : (s.display k).recompose = .set p e) : s.recompose k =
    if e = true ∧ (s.unmarked k).refills k ∧ (s.display k).state.inService then
      ((s.unmarked k).composeRecord k (if p then .press else .other)).1.moveLast k
    else ((s.unmarked k).composeRecord k (if p then .press else .other)).1 := by
  rw [State.recompose, h]
  dsimp only
  change (if (e && ((s.unmarked k).composeRecord k _).2 &&
    (((s.unmarked k).composeRecord k _).1.display k).state.inService) = true then _ else _) = _
  have hstate : (((s.unmarked k).composeRecord k (if p then .press else .other)).1.display k).state = (s.display k).state := by
    rw [(composeRecord_composed ..).state_eq, unmarked_display]
  refine if_congr ?_ rfl rfl
  rw [hstate, Bool.and_eq_true, Bool.and_eq_true, composeRecord_refills, and_assoc]

theorem TransitEnd.refl (h : (s.display k).recompose = .clear) : TransitEnd queueOnly k s s where
  rest := SameBut.refl _ _
  only := ⟨fun _ _ => rfl, fun _ _ => rfl⟩
  seg := rfl
  record := by rw [← h]
  front := rfl
  clear _ := ⟨rfl, rfl⟩
  free _ := by rw [← h]
  idle _ := rfl
  composed hne := absurd h hne
  requeued _ p e he := nomatch h.symm.trans he

/-- The end of a transit, the exchange being over. -/
theorem recompose_ends (hx : (s.seg (keySeg k)).exchange = none) : TransitEnd queueOnly k s (s.recompose k) := by
  classical
  cases hd : (s.display k).recompose with
  | clear =>
    rw [recompose_clear hd]
    exact .refl hd
  | set p e =>
    generalize hc : (if p then Cause.press else .other) = c
    have hu : ∀ j, j ≠ k → (s.unmarked k).display j = s.display j := fun j hj => State.display_setDisplay_other _ _ _ _ hj
    have ht : (s.unmarked k).inTransit k = false := by
      rw [State.inTransit, show (s.unmarked k).seg (keySeg k) = s.seg (keySeg k) from rfl, hx]
      rfl
    have hr : Composed (s.unmarked k) (s.recompose k) := by
      rw [recompose_set hd]
      split
      · exact (composeRecord_composed ..).trans (moveLast_composed ..)
      · exact composeRecord_composed ..
    have hdisplay : ∀ j, (s.recompose k).display j = ((s.unmarked k).composeRecord k c).1.display j := fun j => by
      rw [recompose_set hd, hc]
      split <;> rfl
    have hrec : (s.recompose k).display k = composedRecord (s.unmarked k) k c := (hdisplay k).trans (composeRecord_display_same ..)
    have hback : (s.unmarked k).refills k ↔ ((s.recompose k).display k).buffers.backCard ≠ (s.display k).buffers.backCard := by
      rw [hrec, ← composedRecord_backCard_ne (c := c), unmarked_display]
    have hqueue : ((s.recompose k).seg (keySeg k)).queue =
        if (s.unmarked k).refills k ∧ (s.display k).state.inService then
          if e = true then (s.seg (keySeg k)).queue.filter (· ≠ keyAddr k) ++ [keyAddr k]
          else joined (s.seg (keySeg k)).queue (keyAddr k)
        else (s.seg (keySeg k)).queue := by
      have hjoin := composeRecord_joins (s.unmarked k) k c
      rw [unmarked_display] at hjoin
      change _ = if _ then joined (s.seg (keySeg k)).queue _ else (s.seg (keySeg k)).queue at hjoin
      rw [recompose_set hd, hc]
      by_cases hfill : (s.unmarked k).refills k ∧ (s.display k).state.inService
      · rw [if_pos hfill] at hjoin ⊢
        by_cases he : e = true
        · rw [if_pos he, if_pos ⟨he, hfill⟩, moveLast_queue, hjoin, filter_joined]
        · rw [if_neg he, if_neg fun h => he h.1]
          exact hjoin
      · rw [if_neg hfill] at hjoin ⊢
        rw [if_neg fun h => hfill h.2]
        exact hjoin
    have hcards := hr.cards k
    rw [unmarked_display] at hcards
    have hmark : ((s.recompose k).display k).recompose = .clear := by
      rw [hrec, composedRecord_recompose ht, unmarked_display]
    refine ⟨?_, ⟨fun j hj => ?_, fun h hh => ?_⟩, ?_, ?_, ?_, fun h => ?_, fun h => ?_, fun h => ?_, fun _ hf => ?_,
      fun h p' e' he => ?_⟩
    · exact recompose_same ..
    · exact (hdisplay j).trans ((composeRecord_display_other _ _ _ hj).trans (hu j hj))
    · rw [recompose_set hd]
      split
      · exact (moveLast_seg_other _ _ hh).trans (composeRecord_seg_other hh)
      · exact composeRecord_seg_other hh
    · exact hr.queues _
    · have h := hcards.1
      rw [hmark] at h
      exact h
    · rw [hrec, composedRecord_frontCard, unmarked_display]
    · cases hd.symm.trans h
    · exact hcards.2 h
    · rw [hqueue, if_neg fun hs => by rw [h] at hs; exact Bool.false_ne_true hs.2]
    · exact isComposed_of_composedRecord hr (by rw [unmarked_display]; exact hf) hrec
    · cases hd.symm.trans he
      rw [hqueue]
      by_cases hfill : (s.unmarked k).refills k
      · rw [if_pos ⟨hfill, h⟩, if_neg (hback.mp hfill)]
      · rw [if_neg fun hs => hfill hs.1, if_pos (not_not.mp fun hne => hfill (hback.mpr hne))]

end

/-! ## The end of an exchange (R163, R148) -/

/-- A sweep that waited begins. -/
def sweepIfWaiting (x : Segment) : Segment :=
  match x.activity with
  | .waiting c => sweepBegun c x
  | _ => x

section
variable {s : State} {g : Seg}

theorem startWaiting_eq (hx : (s.seg g).exchange = none) : s.startWaiting g = s.setSeg g (sweepIfWaiting (s.seg g)) := by
  unfold State.startWaiting sweepIfWaiting
  rw [hx]
  cases (s.seg g).activity with
  | waiting c => rfl
  | idle => exact (State.setSeg_seg ..).symm
  | sweeping c p => exact (State.setSeg_seg ..).symm

theorem sweepIfWaiting_queue (x : Segment) : (sweepIfWaiting x).queue = x.queue := by
  unfold sweepIfWaiting
  cases x.activity <;> rfl

theorem sweepIfWaiting_exchange (x : Segment) : (sweepIfWaiting x).exchange = x.exchange := by
  unfold sweepIfWaiting
  cases x.activity <;> rfl

theorem exchangeOver_of {turn : Turn} {x : Segment} (q : List Nat) :
    exchangeOver turn x (sweepIfWaiting { x with exchange := none, turn := turn, queue := q }) := by
  unfold exchangeOver
  rw [sweepIfWaiting_queue]
  unfold sweepIfWaiting
  cases hx : x.activity <;> simp only [hx]

theorem exchangeOver.congr {turn : Turn} {x y : Segment} (q : List Nat) (h : exchangeOver turn { x with queue := q } y) :
    exchangeOver turn x y := h

theorem endExchange_seg (n : Turn) : (s.endExchange g n).seg g = { s.seg g with exchange := none, turn := n } :=
    State.seg_modSeg ..

/-- The end of a poll exchange: the segment alone changes. -/
theorem endPoll_eq : s.endPoll g = s.setSeg g (sweepIfWaiting { s.seg g with exchange := none, turn := .card }) := by
  rw [State.endPoll, startWaiting_eq (by rw [endExchange_seg]), endExchange_seg]
  exact State.setSeg_setSeg ..

/-- The end of a card exchange. -/
theorem endCard_ends {a : Nat} (ha : isAddress a) : TransitEnd (exchangeOver .poll) (recKey g a) s (s.endCard g a) := by
  have hg : keySeg (recKey g a) = g := keySeg_recKey ha
  have hx : ((s.endExchange g .poll).seg (keySeg (recKey g a))).exchange = none := by rw [hg, endExchange_seg]
  have h := recompose_ends hx
  generalize hw : (s.endExchange g .poll).recompose (recKey g a) = w at h
  have hdisplay : ∀ k, (s.endExchange g .poll).display k = s.display k := fun _ => rfl
  have hwseg : w.seg g = { s.seg g with exchange := none, turn := .poll, queue := (w.seg g).queue } := by
    have hseg := h.seg
    rw [hg, endExchange_seg] at hseg
    exact hseg
  have ht : s.endCard g a = w.setSeg g (sweepIfWaiting (w.seg g)) := by
    rw [State.endCard, hw]
    exact startWaiting_eq (by rw [hwseg])
  have htseg : (s.endCard g a).seg (keySeg (recKey g a)) = sweepIfWaiting (w.seg g) := by rw [hg, ht, State.seg_setSeg]
  have htd : ∀ k, (s.endCard g a).display k = w.display k := fun k => by rw [ht]; rfl
  have hq : ((s.endExchange g .poll).seg (keySeg (recKey g a))).queue = (s.seg (keySeg (recKey g a))).queue := by
    rw [hg, endExchange_seg]
  have htq : ((s.endCard g a).seg (keySeg (recKey g a))).queue = (w.seg (keySeg (recKey g a))).queue := by
    rw [htseg, sweepIfWaiting_queue, hg]
  obtain ⟨-, honly, -, hrecord, hfront, hclear, hfree, hidle, hcomposed, hrequeued⟩ := h
  rw [hq] at hclear hidle hrequeued
  rw [hdisplay] at hrecord hfront hclear hfree hidle hcomposed hrequeued
  refine ⟨?_, ⟨fun j hj => ?_, fun i hi => ?_⟩, ?_, ?_, ?_, ?_, ?_, ?_, ?_, ?_⟩
  · exact endCard_same ..
  · rw [htd]
    exact honly.1 j hj
  · rw [hg] at hi
    rw [ht, State.seg_setSeg_ne _ _ hi]
    exact (honly.2 i (by rwa [hg])).trans (State.seg_modSeg_ne _ _ _ _ hi)
  · rw [htseg, hg, hwseg]
    exact exchangeOver_of _
  · rw [htd]
    exact hrecord
  · rw [htd]
    exact hfront
  · rw [htd, htq]
    exact hclear
  · rw [htd]
    exact hfree
  · rw [htq]
    exact hidle
  · refine fun hne hf => (isComposed_congr (s := w) (fun d => ?_) ?_ (htd _)).mpr (hcomposed hne hf)
    · rw [ht]
      rfl
    · rw [State.inTransit, State.inTransit, htseg, sweepIfWaiting_exchange, hg]
  · rw [htd, htq]
    exact hrequeued

end

end Sys2Proof.Machine
end

section
/-! PROOFS. The outcomes of card and poll exchanges and the refresh limit (R169 to R174, R176). -/

namespace Sys2Proof.Machine

/-! ## Records an outcome writes -/

theorem Buffers.frontCard_promote (b : Buffers) : b.promote.frontCard = b.backCard := by
  obtain ⟨x, y, f⟩ := b
  cases f <;> rfl

/-- No record but `k` differs, and of the segments its own alone, in its queue. -/
structure RecordOnly (k : Nat) (s u : State) : Prop where
  only : onlyRecord (keySeg k) k s u
  seg : queueOnly (s.seg (keySeg k)) (u.seg (keySeg k))

section
variable (s : State) (k : Nat)

theorem RecordOnly.begin : RecordOnly k s s.begin := ⟨⟨fun _ _ => rfl, fun _ _ => rfl⟩, rfl⟩

theorem RecordOnly.setDisplay (d : Display) : RecordOnly k s (s.begin.setDisplay k d) :=
  ⟨⟨fun _ hj => State.display_setDisplay_other _ _ _ _ hj, fun _ _ => rfl⟩, rfl⟩

theorem RecordOnly.leave (d : Display) : RecordOnly k s ((s.begin.leaveQueue k).setDisplay k d) :=
  ⟨⟨fun _ hj => State.display_setDisplay_other _ _ _ _ hj, fun h hh =>
    (State.seg_modSeg_ne s.begin _ _ _ hh : (s.begin.leaveQueue k).seg h = s.begin.seg h)⟩,
    (leaveQueue_composed ..).queues _⟩

end

section
variable {g : Seg} {a : Nat} {s u : State}

/-- What a command that ends the card exchange leaves. -/
def cardOutcome (g : Seg) (a : Nat) (s : State) (c : Instr) (after : State → Prop) : Prop :=
  ∃ t, exec c s = .next t ∧ onlyRecord g (recKey g a) s t ∧ exchangeOver .poll (s.seg g) (t.seg g) ∧
    (t.display (recKey g a)).recompose = .clear ∧ after t

theorem onlyRecord.trans {k : Nat} {t : State} (h : onlyRecord g k s u) (h' : onlyRecord g k u t) : onlyRecord g k s t :=
  ⟨fun j hj => (h'.1 j hj).trans (h.1 j hj), fun i hi => (h'.2 i hi).trans (h.2 i hi)⟩

/-- The end of the exchange after a record was written. -/
theorem cardOutcome_of {c : Instr} {after : State → Prop} (ha : isAddress a) (he : exec c s = .next (u.endCard g a))
    (hu : RecordOnly (recKey g a) s u) (h : TransitEnd (exchangeOver .poll) (recKey g a) u (u.endCard g a) →
      after (u.endCard g a)) :
    cardOutcome g a s c after := by
  have hend := endCard_ends (s := u) (g := g) ha
  have hg : keySeg (recKey g a) = g := keySeg_recKey ha
  have honly := hu.only.trans hend.only
  have hover := hend.seg
  rw [hu.seg, hg] at hover
  rw [hg] at honly
  exact ⟨_, he, honly, hover.congr _, by rw [hend.record], h hend⟩

end

/-! ## ACK (R169) -/

section
variable {s u t : State} {k : Nat} {c : StoredCard}

/-- Record, credits and cards after an ACK of the card `c`. -/
def cardAccepted (d : Display) (c : StoredCard) (e : Display) : Prop :=
  e.state = d.state ∧ e.buffers.frontCard = some c ∧ (d.recompose = .clear → e.buffers.backCard = none) ∧
  e.toggle = (!d.toggle) ∧ e.attempts = 0 ∧ e.busy = (d.busy || d.isEpaper) ∧
  e.credits = if d.isEpaper ∧ c.cls ≠ .safety ∧ c.cause ≠ .press then d.credits.map (· - 1) else d.credits

theorem creditsAfter_eq {d : Display} (h : d.buffers.backCard = some c) : d.creditsAfter =
    if d.isEpaper ∧ c.cls ≠ .safety ∧ c.cause ≠ .press then d.credits.map (· - 1) else d.credits := by
  rw [Display.creditsAfter, h]
  refine if_congr ?_ rfl rfl
  simp [StoredCard.exempt]

variable (hend : TransitEnd (exchangeOver .poll) k u t) (hu : u.display k = (s.display k).acknowledged)
include hend hu

theorem TransitEnd.accepted (hc : (s.display k).buffers.backCard = some c) : cardAccepted (s.display k) c (t.display k) := by
  have hrec := hend.record
  have hfront := hend.front
  have hclear := hend.clear
  rw [hu] at hrec hfront hclear
  refine ⟨by rw [hrec]; rfl, hfront.trans ((Buffers.frontCard_promote _).trans hc), fun h => ?_, by rw [hrec]; rfl,
    by rw [hrec]; rfl,
    by rw [hrec]; rfl, ?_⟩
  · rw [(hclear h).1]
    exact Buffers.backCard_promote _
  · rw [hrec]
    exact creditsAfter_eq hc

theorem TransitEnd.limit : (t.display k).refreshLimit = (s.display k).acknowledged.refreshLimit := by
  rw [hend.record, hu]

theorem TransitEnd.queue_acknowledged (hs : (s.display k).state.inService)
    (hq : (u.seg (keySeg k)).queue = (s.seg (keySeg k)).queue.filter (· ≠ keyAddr k)) :
    (t.seg (keySeg k)).queue = (s.seg (keySeg k)).queue.filter (· ≠ keyAddr k) ++
      (if (t.display k).buffers.backCard.isSome then [keyAddr k] else []) := by
  have hback : (s.display k).acknowledged.buffers.backCard = none := Buffers.backCard_promote _
  have hclear := hend.clear
  have hrequeued := hend.requeued
  rw [hu, hq] at hclear hrequeued
  cases hm : (s.display k).recompose with
  | clear =>
    obtain ⟨hd, hqueue⟩ := hclear hm
    rw [hd, hqueue, hback]
    exact (List.append_nil _).symm
  | set p e =>
    rw [hrequeued hs p e hm, hback]
    cases hb : (t.display k).buffers.backCard with
    | none => exact (List.append_nil _).symm
    | some x =>
      rw [if_neg nofun]
      cases e with
      | true => simp
      | false => simp [joined]

end

/-- A display that answers ACK shows the card and expects the other toggle (R168). -/
theorem DisplayUnit.acknowledges {u : DisplayUnit} {line x : Bool} {a : Nat} {c : Card} (h : u.reply (.card a x c) = some .ack) :
    (u.hear line (.card a x c)).shown = some c ∧ (u.hear line (.card a x c)).toggle = !x := by
  unfold DisplayUnit.reply at h
  dsimp only at h
  split at h
  · rename_i hs
    have hack : (u.takeCard x c).2 = .ack := Option.some.inj h
    unfold DisplayUnit.hear
    dsimp only
    rw [if_pos hs]
    unfold DisplayUnit.takeCard at hack ⊢
    split at hack
    · cases hack
    · rename_i hdraw
      rw [if_neg hdraw]
      by_cases hx : x = u.toggle
      · rw [if_pos hx, hx]
        exact ⟨rfl, rfl⟩
      · have htoggle : u.toggle = !x := by cases x <;> cases hu : u.toggle <;> simp_all
        rw [if_neg hx]
        by_cases hshown : u.shown = some c
        · rw [if_pos hshown]
          unfold DisplayUnit.keepCard DisplayUnit.enqueue
          split
          · split <;> exact ⟨hshown, htoggle⟩
          · exact ⟨hshown, htoggle⟩
        · rw [if_neg hshown]
          exact ⟨rfl, htoggle⟩
  · cases h

/-! ## NAK and missed answers (R170, R171) -/

section
variable {g : Seg} {a : Nat} {s u t : State}

/-- What an outcome that sends no card away leaves of a record in service and of its place in the queue. -/
def cardKept (g : Seg) (a : Nat) (s t : State) : Prop :=
  let k := recKey g a
  let d := s.display k
  let old := (s.seg g).queue
  (t.display k).state = d.state ∧ (t.display k).toggle = d.toggle ∧ (t.display k).credits = d.credits ∧
  (d.recompose = .clear → (t.display k).buffers = d.buffers ∧ (t.seg g).queue = old) ∧
  (d.recompose ≠ .clear → isComposed t k) ∧
  ∀ pressed entry, d.recompose = .set pressed entry → (t.seg g).queue =
    if (t.display k).buffers.backCard = d.buffers.backCard then old
    else if entry then old.filter (· ≠ a) ++ [a]
    else if a ∈ old then old else old ++ [a]

theorem TransitEnd.kept (ha : isAddress a) (hend : TransitEnd (exchangeOver .poll) (recKey g a) u t)
    (hs : (s.display (recKey g a)).state.inService) {b : Bool} {l : Option Nat} {n : Nat}
    (hu : u.display (recKey g a) = { s.display (recKey g a) with busy := b, refreshLimit := l, attempts := n })
    (hq : (u.seg g).queue = (s.seg g).queue) : cardKept g a s t := by
  have hg : keySeg (recKey g a) = g := keySeg_recKey ha
  have hfree : (s.display (recKey g a)).state ≠ .free := RecState.ne_free_of_inService hs
  obtain ⟨-, -, -, hrec, -, hclear, -, -, hcomposed, hrequeued⟩ := hend
  rw [hg, hq] at hclear hrequeued
  rw [hu] at hrec hclear hcomposed hrequeued
  rw [keyAddr_recKey ha] at hrequeued
  refine ⟨by rw [hrec], by rw [hrec], by rw [hrec], fun h => ?_, fun h => hcomposed h hfree, fun p e h => hrequeued hs p e h⟩
  obtain ⟨hd, hqueue⟩ := hclear h
  exact ⟨by rw [hd], hqueue⟩

/-! ## Entry into HELD (R171, R172) -/

/-- The record HELD and out of the queue, before the sources are raised. -/
def State.holdRecord (s : State) (k : Nat) (c : HeldCause) : State :=
  (s.leaveQueue k).setDisplay k { s.display k with state := .held (s.display k).state.bound c, refreshLimit := none }

theorem enterHeld_eq (k : Nat) (c : HeldCause) : ∃ door : Bool,
    s.enterHeld k c = ((s.holdRecord k c).raise .safety .displayHeld).raiseIf door .hotel .displayHeld ∧
    ((∃ x, s.roleOf (s.display k) = some (.door x)) → door = true) :=
  ⟨_, rfl, fun ⟨x, hx⟩ => by rw [hx]⟩

theorem enterHeld_display (k j : Nat) (c : HeldCause) : (s.enterHeld k c).display j =
    if j = k then { s.display k with state := .held (s.display k).state.bound c, refreshLimit := none } else s.display j := by
  obtain ⟨door, he, -⟩ := enterHeld_eq (s := s) k c
  have hdir : (s.enterHeld k c).dir = (s.holdRecord k c).dir := by
    rw [he, State.raiseIf_dir]
    rfl
  rw [State.display_congr hdir]
  exact State.display_setDisplay ..

theorem enterHeld_segs (k : Nat) (c : HeldCause) : (s.enterHeld k c).segs = (s.leaveQueue k).segs := by
  obtain ⟨door, he, -⟩ := enterHeld_eq (s := s) k c
  rw [he, State.raiseIf_segs]
  rfl

theorem enterHeld_seg (k : Nat) (c : HeldCause) (h : Seg) : (s.enterHeld k c).seg h = (s.leaveQueue k).seg h := by
  rw [State.seg, State.seg, enterHeld_segs]

theorem enterHeld_recordOnly (k : Nat) (c : HeldCause) : RecordOnly k s (s.enterHeld k c) := by
  refine ⟨⟨fun j hj => by rw [enterHeld_display, if_neg hj], fun h hh => ?_⟩, ?_⟩
  · rw [enterHeld_seg]
    exact State.seg_modSeg_ne _ _ _ _ hh
  · rw [enterHeld_seg]
    exact (leaveQueue_composed ..).queues _

theorem enterHeld_entered (ha : isAddress a) (c : HeldCause) {n : Nat} {v : State}
    (hv : v.display (recKey g a) = { s.display (recKey g a) with attempts := n }) (hseg : (v.seg g).queue = (s.seg g).queue)
    (hplan : v.plan = s.plan) : enteredHeld g a c s (v.enterHeld (recKey g a) c) := by
  have hg : keySeg (recKey g a) = g := keySeg_recKey ha
  have hrec := enterHeld_display (s := v) (recKey g a) (recKey g a) c
  rw [if_pos rfl, hv] at hrec
  obtain ⟨door, he, hdoor⟩ := enterHeld_eq (s := v) (recKey g a) c
  have hrole : v.roleOf (v.display (recKey g a)) = s.roleOf (s.display (recKey g a)) := by
    rw [hv, State.roleOf, State.roleOf, State.standing, State.standing, State.activePlan, State.activePlan, hplan]
  refine ⟨by rw [hrec], by rw [hrec], by rw [hrec], by rw [hrec], by rw [hrec], by rw [hrec], by rw [hrec], by rw [hrec],
    fun _ => by rw [hrec], ?_, ?_, fun hx => ?_⟩
  · have hq := leaveQueue_queue v (recKey g a)
    rw [hg, keyAddr_recKey ha, hseg] at hq
    rw [enterHeld_seg]
    exact hq
  · rw [he]
    have h : Source.displayHeld ∈ (((v.holdRecord (recKey g a) c).raise .safety .displayHeld).port .safety).pendingSet :=
      raise_pending (by decide)
    cases door with
    | false => exact h
    | true => exact raise_pendingStays _ _ _ .safety _ (by decide) h
  · rw [he, hdoor (hrole ▸ hx)]
    exact raise_pending (by decide)

theorem TransitEnd.entered (ha : isAddress a) (hend : TransitEnd (exchangeOver .poll) (recKey g a) u t) {c : HeldCause}
    (hu : enteredHeld g a c s u) (hm : (u.display (recKey g a)).recompose = (s.display (recKey g a)).recompose) :
    enteredHeld g a c s t := by
  have hg : keySeg (recKey g a) = g := keySeg_recKey ha
  obtain ⟨hstate, hlimit, hbusy, htoggle, hcredits, hident, hcap, hfront, hbuf, hqueue, hsafety, hhotel⟩ := hu
  have hports : t.ports = u.ports := hend.rest.keeps .ports (by decide)
  have hport : ∀ l, t.port l = u.port l := fun l => by rw [State.port, State.port, hports]
  have hidle := hend.idle (by rw [hstate]; rfl)
  rw [hg] at hidle
  have hrec := hend.record
  refine ⟨?_, ?_, ?_, ?_, ?_, ?_, ?_, hend.front.trans hfront, fun h => ?_, hidle.trans hqueue, by rwa [hport], by rwa [hport]⟩
  · rw [hrec]; exact hstate
  · rw [hrec]; exact hlimit
  · rw [hrec]; exact hbusy
  · rw [hrec]; exact htoggle
  · rw [hrec]; exact hcredits
  · rw [hrec]; exact hident
  · rw [hrec]; exact hcap
  · rw [(hend.clear (hm.trans h)).1]
    exact hbuf h

end

end Sys2Proof.Machine
end

section
/-! PROOFS. Every outcome of an exchange, by the state of its record (R169 to R176). -/

namespace Sys2Proof.Machine

section
variable {g : Seg} {a : Nat} {s : State}

/-! ## The commands that end an exchange -/

section
variable (hx : (s.seg g).exchange = some (.card a))
include hx

theorem exec_ack (hf : (s.display (recKey g a)).state ≠ .free) : exec (.ack g a) s = .next
    (((s.begin.leaveQueue (recKey g a)).setDisplay (recKey g a) (s.display (recKey g a)).acknowledged).endCard g a) := by
  change Host.Outcome.next (ack g a s.begin) = _
  rw [ack, show (s.begin.seg g).exchange = _ from hx]
  dsimp only
  rw [if_pos rfl, State.applyAck, if_neg (show (s.begin.display (recKey g a)).state ≠ .free from hf)]
  rfl

theorem exec_ack_free (hf : (s.display (recKey g a)).state = .free) : exec (.ack g a) s = .next (s.begin.endCard g a) := by
  change Host.Outcome.next (ack g a s.begin) = _
  rw [ack, show (s.begin.seg g).exchange = _ from hx]
  dsimp only
  rw [if_pos rfl, State.applyAck, if_pos (show (s.begin.display (recKey g a)).state = .free from hf)]

theorem exec_nak : exec (.nak g a) s = .next
    ((s.begin.setDisplay (recKey g a) (s.display (recKey g a)).refused).endCard g a) := by
  change Host.Outcome.next (nak g a s.begin) = _
  rw [nak, show (s.begin.seg g).exchange = _ from hx]
  dsimp only
  rw [if_pos rfl]
  rfl

theorem exec_timeout_card : exec (.panelReplyTimeout g) s = .next ((s.begin.missed (recKey g a)).endCard g a) := by
  change Host.Outcome.next (replyTimeout g s.begin) = _
  rw [replyTimeout, show (s.begin.seg g).exchange = _ from hx]

end

theorem missed_idle (hs : ¬ (s.display (recKey g a)).state.inService = true) : s.begin.missed (recKey g a) = s.begin := if_neg hs

theorem missed_counts (hs : (s.display (recKey g a)).state.inService) (hn : (s.display (recKey g a)).attempts + 1 < 3) :
    s.begin.missed (recKey g a) = s.begin.setDisplay (recKey g a)
      { s.display (recKey g a) with attempts := (s.display (recKey g a)).attempts + 1 } :=
  (if_pos hs).trans (if_pos hn)

theorem missed_holds (hs : (s.display (recKey g a)).state.inService) (hn : 3 ≤ (s.display (recKey g a)).attempts + 1) :
    s.begin.missed (recKey g a) = (s.begin.setDisplay (recKey g a)
      { s.display (recKey g a) with attempts := (s.display (recKey g a)).attempts + 1 }).enterHeld (recKey g a) .noReply :=
  (if_pos hs).trans (if_neg (Nat.not_lt.mpr hn))

theorem refused_idle {d : Display} (hs : ¬ d.state.inService = true) : d.refused = d := if_neg hs

/-! ## The outcomes of a card exchange -/

/-- Each outcome leaves a record that had its mark set composed. -/
theorem TransitEnd.composes {u t : State} (hend : TransitEnd (exchangeOver .poll) (recKey g a) u t)
    (hm : (u.display (recKey g a)).recompose = (s.display (recKey g a)).recompose) (hf : (u.display (recKey g a)).state ≠ .free) :
    (s.display (recKey g a)).recompose ≠ .clear → isComposed t (recKey g a) := fun h => hend.composed (hm ▸ h) hf

theorem RecordOnly.trans {k : Nat} {t u : State} (h : RecordOnly k s t) (h' : RecordOnly k t u) : RecordOnly k s u :=
  ⟨h.only.trans h'.only, h.seg.trans h'.seg⟩

/-- The end of a transit after a step that left the record and its segment. -/
theorem TransitEnd.congr {left : Segment → Segment → Prop} {k : Nat} {t u : State} (h : TransitEnd left k u t)
    (hu : RecordOnly k s u)
    (hsame : SameBut [.dir, .segs] s u) (hd : u.display k = s.display k) (hseg : u.seg (keySeg k) = s.seg (keySeg k)) :
    TransitEnd left k s t := by
  obtain ⟨hrest, honly, hleft, hrec, hfront, hclear, hfree, hidle, hcomposed, hrequeued⟩ := h
  rw [hd] at hrec hfront hclear hfree hidle hcomposed hrequeued
  rw [hseg] at hleft hclear hidle hrequeued
  exact ⟨hsame.trans hrest, hu.only.trans honly, hleft, hrec, hfront, hclear, hfree, hidle, hcomposed, hrequeued⟩

section
variable (ha : isAddress a) (hx : (s.seg g).exchange = some (.card a))
include ha hx

theorem ack_accepts {c : StoredCard} (hf : (s.display (recKey g a)).state ≠ .free)
    (hc : (s.display (recKey g a)).buffers.backCard = some c) : cardOutcome g a s (.ack g a) fun t =>
      cardAccepted (s.display (recKey g a)) c (t.display (recKey g a)) ∧
      ((s.display (recKey g a)).recompose ≠ .clear → isComposed t (recKey g a)) ∧
      (t.display (recKey g a)).refreshLimit = (s.display (recKey g a)).acknowledged.refreshLimit ∧
      ((s.display (recKey g a)).state.inService → (t.seg g).queue =
        (s.seg g).queue.filter (· ≠ a) ++ (if (t.display (recKey g a)).buffers.backCard.isSome then [a] else [])) ∧
      ((s.display (recKey g a)).state.inService = false → (t.seg g).queue = (s.seg g).queue.filter (· ≠ a)) := by
  have hg : keySeg (recKey g a) = g := keySeg_recKey ha
  have hu : ((s.begin.leaveQueue (recKey g a)).setDisplay (recKey g a) (s.display (recKey g a)).acknowledged).display
    (recKey g a) =
      (s.display (recKey g a)).acknowledged := State.display_setDisplay_same ..
  have hq := leaveQueue_queue s.begin (recKey g a)
  refine cardOutcome_of ha (exec_ack hx hf) (.leave ..) fun hend =>
    ⟨hend.accepted hu hc, ?_, hend.limit hu, fun hs => ?_, fun hs => ?_⟩
  · exact hend.composes (by rw [hu]; rfl) (by rw [hu]; exact hf)
  · have h := hend.queue_acknowledged hu hs hq
    rwa [hg, keyAddr_recKey ha] at h
  · have h := hend.idle (by rw [hu]; exact hs)
    rw [hg] at h
    rw [hg, keyAddr_recKey ha] at hq
    exact h.trans hq

theorem nak_keeps (hs : (s.display (recKey g a)).state.inService) : cardOutcome g a s (.nak g a) fun t =>
    cardKept g a s t ∧ (t.display (recKey g a)).busy = true ∧ (t.display (recKey g a)).attempts = 0 ∧
      (t.display (recKey g a)).refreshLimit = some ((s.display (recKey g a)).refreshLimit.getD 15) := by
  have hu : (s.begin.setDisplay (recKey g a) (s.display (recKey g a)).refused).display (recKey g a) =
      { s.display (recKey g a) with
        busy := true, refreshLimit := some ((s.display (recKey g a)).refreshLimit.getD 15), attempts := 0 } :=
    (State.display_setDisplay_same ..).trans (if_pos hs)
  refine cardOutcome_of ha (exec_nak hx) (.setDisplay ..) fun hend => ⟨hend.kept ha hs hu rfl, ?_⟩
  rw [hend.record, hu]
  exact ⟨rfl, rfl, rfl⟩

theorem timeout_counts (hs : (s.display (recKey g a)).state.inService) (hn : (s.display (recKey g a)).attempts + 1 < 3) :
    cardOutcome g a s (.panelReplyTimeout g) fun t => cardKept g a s t ∧
      (t.display (recKey g a)).attempts = (s.display (recKey g a)).attempts + 1 ∧
      (t.display (recKey g a)).busy = (s.display (recKey g a)).busy ∧
      (t.display (recKey g a)).refreshLimit = (s.display (recKey g a)).refreshLimit := by
  have hexec := exec_timeout_card hx
  rw [missed_counts hs hn] at hexec
  refine cardOutcome_of ha hexec (.setDisplay ..) fun hend => ?_
  have hu := State.display_setDisplay_same s.begin (recKey g a)
    { s.display (recKey g a) with attempts := (s.display (recKey g a)).attempts + 1 }
  refine ⟨hend.kept ha hs hu rfl, ?_⟩
  rw [hend.record, hu]
  exact ⟨rfl, rfl, rfl⟩

theorem timeout_holds (hs : (s.display (recKey g a)).state.inService) (hn : 3 ≤ (s.display (recKey g a)).attempts + 1) :
    cardOutcome g a s (.panelReplyTimeout g) fun t => enteredHeld g a .noReply s t ∧
      ((s.display (recKey g a)).recompose ≠ .clear → isComposed t (recKey g a)) := by
  have hexec := exec_timeout_card hx
  rw [missed_holds hs hn] at hexec
  have hv := State.display_setDisplay_same s.begin (recKey g a)
    { s.display (recKey g a) with attempts := (s.display (recKey g a)).attempts + 1 }
  have hu := enterHeld_display (s := s.begin.setDisplay (recKey g a)
    { s.display (recKey g a) with attempts := (s.display (recKey g a)).attempts + 1 }) (recKey g a) (recKey g a) .noReply
  rw [if_pos rfl, hv] at hu
  refine cardOutcome_of ha hexec ((RecordOnly.setDisplay ..).trans (enterHeld_recordOnly ..)) fun hend => ⟨?_, ?_⟩
  · exact hend.entered ha (enterHeld_entered ha .noReply hv rfl rfl) (by rw [hu])
  · exact hend.composes (by rw [hu]) (by rw [hu]; nofun)

/-- A missed or refused card ends the transit of a HELD or FREE record alone. -/
theorem idle_ends (hs : ¬ (s.display (recKey g a)).state.inService = true) {c : Instr}
    (hc : c ∈ [Instr.nak g a, .panelReplyTimeout g]) :
    cardOutcome g a s c fun t => TransitEnd (exchangeOver .poll) (recKey g a) s t := by
  rcases List.mem_cons.mp hc with rfl | hc
  · refine cardOutcome_of ha (exec_nak hx) (.setDisplay ..) fun hend => hend.congr (.setDisplay ..) ?_ ?_ rfl
    · exact ((begin_same s).mono (by decide)).trans ((setDisplay_same ..).mono (by decide))
    · exact (State.display_setDisplay_same ..).trans (refused_idle hs)
  · rw [List.mem_singleton.mp hc]
    have hexec := exec_timeout_card hx
    rw [missed_idle hs] at hexec
    exact cardOutcome_of ha hexec (.begin ..) fun hend => hend.congr (.begin ..) ((begin_same s).mono (by decide)) rfl rfl

end

end

end Sys2Proof.Machine
end

section
/-! PROOFS. The outcomes of a poll exchange, the refresh limit, and O52. -/

namespace Sys2Proof.Machine

/-! ## The outcomes of a poll exchange (R176) -/

/-- `u` is `s` with the attempt count of record `k` at `n` and the entries `es` at the end of the inbound queue. -/
structure Counted (k n : Nat) (es : List InboundEntry) (s u : State) : Prop where
  record : u.display k = { s.display k with attempts := n }
  others : ∀ j, j ≠ k → u.display j = s.display j
  segs : u.segs = s.segs
  bus : u.bus = { s.bus with inbound := s.bus.inbound ++ es }
  rest : SameBut [.dir, .bus] s u

section
variable {g : Seg} {a : Nat} {s u : State} {k n : Nat} {es : List InboundEntry}

theorem Counted.begin : Counted k (s.display k).attempts [] s s.begin :=
  ⟨rfl, fun _ _ => rfl, rfl, by rw [List.append_nil]; rfl, (begin_same s).mono (by decide)⟩

theorem Counted.set (k n : Nat) : Counted k n [] s (s.begin.setDisplay k { s.display k with attempts := n }) :=
  ⟨State.display_setDisplay_same .., fun _ hj => State.display_setDisplay_other _ _ _ _ hj, rfl, by rw [List.append_nil]; rfl,
    ((begin_same s).mono (by decide)).trans ((setDisplay_same ..).mono (by decide))⟩

theorem Counted.join (h : Counted k n [] s u) (e : InboundEntry) :
    Counted k n [e] s { u with bus := { u.bus with inbound := u.bus.inbound ++ [e] } } := by
  obtain ⟨hrec, hothers, hsegs, hbus, hrest⟩ := h
  refine ⟨hrec, hothers, hsegs, ?_, hrest.trans ?_⟩
  · rw [hbus, List.append_nil]
  · refine ⟨fun p hp => ?_⟩
    cases p <;> first | rfl | exact absurd (by decide) hp

/-- The attempt count after a valid answer (R171). -/
def validCount (d : Display) : Nat := if d.state = .free then d.attempts else 0

theorem answered_counted (k : Nat) : Counted k (validCount (s.display k)) [] s (s.begin.answered k) := by
  unfold validCount
  by_cases hf : (s.display k).state = .free
  · rw [if_pos hf, State.answered, if_pos (show (s.begin.display k).state = .free from hf)]
    exact .begin
  · rw [if_neg hf, State.answered, if_neg (show (s.begin.display k).state ≠ .free from hf)]
    exact .set k 0

theorem pollRefused_counted (k : Nat) :
    Counted k (if (s.display k).state.inService then 0 else (s.display k).attempts) [] s (s.begin.pollRefused k) := by
  by_cases hs : (s.display k).state.inService = true
  · rw [if_pos hs, State.pollRefused, if_pos (show (s.begin.display k).state.inService = true from hs), State.answered,
      if_neg (show (s.begin.display k).state ≠ .free from RecState.ne_free_of_inService hs)]
    exact .set k 0
  · rw [if_neg hs, State.pollRefused, if_neg (show ¬ (s.begin.display k).state.inService = true from hs)]
    exact .begin

/-- What a command that ends the poll exchange leaves. -/
def pollOutcome (g : Seg) (a : Nat) (s : State) (c : Instr) (n : Nat) (es : List InboundEntry) : Prop :=
  ∃ t, exec c s = .next t ∧ onlyRecord g (recKey g a) s t ∧ exchangeOver .card (s.seg g) (t.seg g) ∧
    (t.seg g).queue = (s.seg g).queue ∧ t.display (recKey g a) = { s.display (recKey g a) with attempts := n } ∧
    t.bus = { s.bus with inbound := s.bus.inbound ++ es } ∧ SameBut [.dir, .segs, .bus] s t

theorem endPoll_seg : (u.endPoll g).seg g = sweepIfWaiting { u.seg g with exchange := none, turn := .card } := by
  rw [endPoll_eq, State.seg_setSeg]

theorem endPoll_seg_other {h : Seg} (hh : h ≠ g) : (u.endPoll g).seg h = u.seg h := by
  rw [endPoll_eq, State.seg_setSeg_ne _ _ hh]

theorem endPoll_display (k : Nat) : (u.endPoll g).display k = u.display k := by
  rw [endPoll_eq]
  rfl

theorem pollOutcome_of {c : Instr} (he : exec c s = .next (u.endPoll g)) (hu : Counted (recKey g a) n es s u) :
    pollOutcome g a s c n es := by
  obtain ⟨hrec, hothers, hsegs, hbus, hrest⟩ := hu
  have hseg : ∀ h, u.seg h = s.seg h := fun h => by rw [State.seg, State.seg, hsegs]
  refine ⟨_, he, ⟨fun j hj => ?_, fun h hh => ?_⟩, ?_, ?_, ?_, ?_, (hrest.mono (by decide)).trans
    ((endPoll_same ..).mono (by decide))⟩
  · rw [endPoll_display, hothers j hj]
  · rw [endPoll_seg_other hh, hseg]
  · rw [endPoll_seg, hseg]
    exact exchangeOver_of _
  · rw [endPoll_seg, sweepIfWaiting_queue, hseg]
  · rw [endPoll_display, hrec]
  · rw [show (u.endPoll g).bus = u.bus from (endPoll_same ..).keeps .bus (by decide), hbus]

theorem enteredHeld.congr {c : HeldCause} {t : State} (h : enteredHeld g a c s u)
    (hd : t.display (recKey g a) = u.display (recKey g a))
    (hq : (t.seg g).queue = (u.seg g).queue) (hports : t.ports = u.ports) : enteredHeld g a c s t := by
  have hport : ∀ l, t.port l = u.port l := fun l => by rw [State.port, State.port, hports]
  unfold enteredHeld at h ⊢
  rw [hd, hq, hport, hport]
  exact h

section
variable (hx : (s.seg g).exchange = some (.poll a))
include hx

theorem pollNone_ends : pollOutcome g a s (.pollNone g a) (validCount (s.display (recKey g a))) [] := by
  refine pollOutcome_of (u := s.begin.answered (recKey g a)) ?_ (answered_counted _)
  change Host.Outcome.next (pollNone g a s.begin) = _
  rw [pollNone, show (s.begin.seg g).exchange = _ from hx]
  dsimp only
  rw [if_pos rfl]

theorem pollNak_ends : pollOutcome g a s (.pollNak g a)
    (if (s.display (recKey g a)).state.inService then 0 else (s.display (recKey g a)).attempts) [] := by
  refine pollOutcome_of (u := s.begin.pollRefused (recKey g a)) ?_ (pollRefused_counted _)
  change Host.Outcome.next (pollNak g a s.begin) = _
  rw [pollNak, show (s.begin.seg g).exchange = _ from hx]
  dsimp only
  rw [if_pos rfl]

theorem report_ends {kind code : Byte} {r : ReportKind} (hr : reportOf kind code = some r) (o : Bool) :
    pollOutcome g a s (.report g a kind code (if o then 1#8 else 0#8)) (validCount (s.display (recKey g a))) [⟨g, a, r, o⟩] := by
  have ho : overrunOf (if o then 1#8 else 0#8) = some o := by cases o <;> rfl
  refine pollOutcome_of ?_ ((answered_counted _).join ⟨g, a, r, o⟩)
  change Host.Outcome.next (report g a kind code _ s.begin) = _
  rw [report, show (s.begin.seg g).exchange = _ from hx]
  dsimp only
  rw [if_pos rfl, hr, ho]
  rfl

theorem exec_timeout_poll : exec (.panelReplyTimeout g) s = .next ((s.begin.missed (recKey g a)).endPoll g) := by
  change Host.Outcome.next (replyTimeout g s.begin) = _
  rw [replyTimeout, show (s.begin.seg g).exchange = _ from hx]

theorem poll_timeout_idle (hs : ¬ (s.display (recKey g a)).state.inService = true) :
    pollOutcome g a s (.panelReplyTimeout g) (s.display (recKey g a)).attempts [] := by
  have h := exec_timeout_poll hx
  rw [missed_idle hs] at h
  exact pollOutcome_of h .begin

theorem poll_timeout_counts (hs : (s.display (recKey g a)).state.inService) (hn : (s.display (recKey g a)).attempts + 1 < 3) :
    pollOutcome g a s (.panelReplyTimeout g) ((s.display (recKey g a)).attempts + 1) [] := by
  have h := exec_timeout_poll hx
  rw [missed_counts hs hn] at h
  exact pollOutcome_of h (.set ..)

theorem poll_timeout_holds (ha : isAddress a) (hs : (s.display (recKey g a)).state.inService)
    (hn : 3 ≤ (s.display (recKey g a)).attempts + 1) :
    ∃ t, exec (.panelReplyTimeout g) s = .next t ∧ onlyRecord g (recKey g a) s t ∧
      exchangeOver .card (s.seg g) (t.seg g) ∧ enteredHeld g a .noReply s t ∧ t.bus = s.bus := by
  have h := exec_timeout_poll hx
  rw [missed_holds hs hn] at h
  have hg : keySeg (recKey g a) = g := keySeg_recKey ha
  have hv := State.display_setDisplay_same s.begin (recKey g a)
    { s.display (recKey g a) with attempts := (s.display (recKey g a)).attempts + 1 }
  generalize hu : (s.begin.setDisplay (recKey g a) { s.display (recKey g a) with
    attempts := (s.display (recKey g a)).attempts + 1 }).enterHeld (recKey g a) .noReply = u at h
  have hheld : enteredHeld g a .noReply s u := hu ▸ enterHeld_entered ha .noReply hv rfl rfl
  have honly : RecordOnly (recKey g a) s u := hu ▸ (RecordOnly.setDisplay ..).trans (enterHeld_recordOnly ..)
  have hbus : u.bus = s.bus := by
    rw [← hu]
    exact (enterHeld_same ..).keeps .bus (by decide)
  obtain ⟨⟨hothers, hsegs⟩, hseg⟩ := honly
  rw [hg] at hsegs hseg
  refine ⟨_, h, ⟨fun j hj => ?_, fun i hi => ?_⟩, ?_, ?_, ?_⟩
  · rw [endPoll_display, hothers j hj]
  · rw [endPoll_seg_other hi, hsegs i hi]
  · rw [endPoll_seg, hseg]
    exact (exchangeOver_of _).congr _
  · exact hheld.congr (endPoll_display _) (by rw [endPoll_seg, sweepIfWaiting_queue]) ((endPoll_same ..).keeps .ports (by decide))
  · exact Eq.trans ((endPoll_same ..).keeps .bus (by decide) : (u.endPoll g).bus = u.bus) hbus

end

/-! ## The refresh limit (R172) -/

theorem limitExpiry_acts (ha : isAddress a) (hs : (s.display (recKey g a)).state.inService)
    (hl : (s.display (recKey g a)).refreshLimit = some n) :
    ∃ t, exec (.refreshLimitExpiry g a) s = .next t ∧ onlyRecord g (recKey g a) s t ∧
      (if (s.display (recKey g a)).busy then enteredHeld g a .refreshTimeout s t
       else t.display (recKey g a) = { s.display (recKey g a) with refreshLimit := none } ∧ t.segs = s.segs) := by
  have hg : keySeg (recKey g a) = g := keySeg_recKey ha
  have hlimit : limitExpiry g a s.begin = if (s.display (recKey g a)).busy = true then
      s.begin.enterHeld (recKey g a) .refreshTimeout
    else s.begin.setDisplay (recKey g a) { s.display (recKey g a) with refreshLimit := none } := by
    unfold limitExpiry
    dsimp only
    rw [show (s.begin.display (recKey g a)).refreshLimit = some n from hl]
    dsimp only
    rw [show (s.begin.display (recKey g a)).state.inService = true from hs, Bool.and_true]
    rfl
  refine ⟨_, rfl, ?_⟩
  rw [hlimit]
  by_cases hb : (s.display (recKey g a)).busy = true
  · rw [if_pos hb, if_pos hb]
    have honly := (enterHeld_recordOnly (s := s.begin) (recKey g a) .refreshTimeout).only
    rw [hg] at honly
    exact ⟨honly, enterHeld_entered (n := (s.display (recKey g a)).attempts) ha .refreshTimeout rfl rfl rfl⟩
  · rw [if_neg hb, if_neg hb]
    have honly := (RecordOnly.setDisplay s (recKey g a) { s.display (recKey g a) with refreshLimit := none }).only
    rw [hg] at honly
    exact ⟨honly, State.display_setDisplay_same .., rfl⟩

end

/-! ## O52 -/

theorem reportOf_fault {c : Byte} (hc : c.toNat ≠ 0) : reportOf 2#8 c = some (.fault c.toNat) := by
  unfold reportOf
  cases h : c.toNat with
  | zero => exact absurd h hc
  | succ n => rfl

/-- Nothing but the end of the transit is applied to a FREE record (R173). -/
theorem free_ends {g : Seg} {a : Nat} {s : State} (ha : isAddress a) (hx : (s.seg g).exchange = some (.card a))
    (hf : (s.display (recKey g a)).state = .free) {c : Instr} (hc : c ∈ [Instr.ack g a, .nak g a, .panelReplyTimeout g]) :
    cardOutcome g a s c fun t => TransitEnd (exchangeOver .poll) (recKey g a) s t := by
  rcases List.mem_cons.mp hc with rfl | hc
  · exact cardOutcome_of ha (exec_ack_free hx hf) (.begin ..) fun hend =>
      hend.congr (.begin ..) ((begin_same s).mono (by decide)) rfl rfl
  · exact idle_ends ha hx (by rw [hf]; exact Bool.false_ne_true) hc

/-- Settles O52: each outcome writes its record and ends the exchange, and the end of a card's transit composes a marked record. -/
theorem exchangeOutcomesAreApplied : Obligations.ExchangeOutcomesAreApplied := by
  unfold Obligations.ExchangeOutcomesAreApplied
  refine ⟨fun g a s ha => ⟨fun hs => ⟨fun hx => ⟨fun c hc => ?_, nak_keeps ha hx hs, timeout_counts ha hx hs,
    timeout_holds ha hx hs⟩,
    fun n hl => limitExpiry_acts ha hs hl⟩, fun hx hs => ⟨fun c hc => ?_, fun c hc => ?_⟩, fun hx hs c hc => ?_⟩,
    fun g a s ha hx => ⟨pollNone_ends hx, pollNak_ends hx, fun o =>
      ⟨report_ends hx rfl o, report_ends hx rfl o, report_ends hx rfl o,
      report_ends hx rfl o, fun c hc => report_ends hx ?_ o⟩, poll_timeout_idle hx, poll_timeout_counts hx,
        poll_timeout_holds hx ha⟩⟩
  · obtain ⟨t, he, honly, hover, hmark, hacc, hcomp, hlim, hqueue, -⟩ := ack_accepts ha hx (RecState.ne_free_of_inService hs) hc
    refine ⟨t, he, honly, hover, hmark, hacc, hcomp, ?_, hqueue hs, fun u line hr => ?_⟩
    · rw [hlim]
      unfold Display.acknowledged
      rw [hs]
      simp [Config.refreshSeconds]
    · obtain ⟨hshown, htoggle⟩ := DisplayUnit.acknowledges (line := line) hr
      obtain ⟨-, -, -, hrecord, -⟩ := hacc
      exact ⟨hshown, htoggle.trans hrecord.symm⟩
  · have hservice := RecState.not_inService_of_isHeld hs
    obtain ⟨t, he, honly, hover, hmark, hacc, hcomp, hlim, -, hqueue⟩ := ack_accepts ha hx (RecState.ne_free_of_isHeld hs) hc
    refine ⟨t, he, honly, hover, hmark, hacc, hcomp, ?_, hqueue (Bool.eq_false_of_not_eq_true hservice)⟩
    rw [hlim]
    unfold Display.acknowledged
    rw [Bool.eq_false_of_not_eq_true hservice, Bool.and_false]
    rfl
  · have hservice := RecState.not_inService_of_isHeld hs
    obtain ⟨t, he, honly, hover, hmark, hend⟩ := idle_ends ha hx hservice hc
    have hqueue := hend.idle (Bool.eq_false_of_not_eq_true hservice)
    rw [keySeg_recKey ha] at hqueue
    exact ⟨t, he, honly, hover, hmark, fun hne => hend.composed hne (RecState.ne_free_of_isHeld hs), hqueue, hend.record,
      fun h => (hend.clear h).1⟩
  · obtain ⟨t, he, honly, hover, hmark, hend⟩ := free_ends ha hx hs hc
    have hqueue := hend.idle (by rw [hs]; rfl)
    rw [keySeg_recKey ha] at hqueue
    exact ⟨t, he, honly, hover, hmark, hend.free hs, hqueue⟩
  · have hne : c.toNat ≠ 0 := fun h => hc (BitVec.eq_of_toNat_eq h)
    exact reportOf_fault hne

end Sys2Proof.Machine
end

section
/-! PROOFS. The dispatcher, the guest request queue and the credit refill (R111, R175, R177 to R181). -/

namespace Sys2Proof.Machine

section
variable (s : State) (e : InboundEntry) (rest : List InboundEntry)

/-! ## The entry taken (R178) -/

/-- The state after the oldest entry was taken. -/
def State.tookEntry : State := { s with sent := [], bus := { s.bus with inbound := rest } }

/-- Its overrun mark was then acted on: a record in service is busy no more. -/
def State.tookOverrun : State :=
  if e.overrun = true ∧ (s.display (recKey e.seg e.addr)).state.inService = true then
    (s.tookEntry rest).setDisplay (recKey e.seg e.addr)
      { s.display (recKey e.seg e.addr) with busy := false, refreshLimit := none }
  else s.tookEntry rest

variable {s e rest}

theorem exec_dispatch (h : s.bus.inbound = e :: rest) :
    exec .dispatch s = .next ((s.tookOverrun e rest).dispatchKind (recKey e.seg e.addr) e) := by
  change Host.Outcome.next (dispatch s.begin) = _
  rw [dispatch, show s.begin.bus.inbound = _ from h]
  dsimp only
  have hu : (if (e.overrun && ((s.tookEntry rest).display (recKey e.seg e.addr)).state.inService) = true then
      (s.tookEntry rest).clearBusy (recKey e.seg e.addr) else s.tookEntry rest) = s.tookOverrun e rest :=
    if_congr Bool.and_eq_true_iff rfl rfl
  exact congrArg (fun u => Host.Outcome.next (State.dispatchKind u (recKey e.seg e.addr) e)) hu

theorem tookOverrun_state : ((s.tookOverrun e rest).display (recKey e.seg e.addr)).state =
    (s.display (recKey e.seg e.addr)).state := by
  unfold State.tookOverrun
  split
  · rw [State.display_setDisplay_same]
  · rfl

/-- A record out of service stays as it is at an overrun. -/
theorem tookOverrun_idle (h : ¬ (s.display (recKey e.seg e.addr)).state.inService = true) :
    s.tookOverrun e rest = s.tookEntry rest :=
  if_neg fun hc => h hc.2

theorem tookOverrun_same : SameBut [.dir, .bus] s (s.tookOverrun e rest) := by
  have h : SameBut [.dir, .bus] s (s.tookEntry rest) := ⟨fun p hp => by cases p <;> first | rfl | exact absurd (by decide) hp⟩
  exact SameBut.ite (h.trans ((setDisplay_same ..).mono (by decide))) h

theorem roleOf_placed {d : Display} {p : Nat} (hs : d.state = .placed p) :
    s.roleOf d = (Table.get s.activePlan.placements p).map (·.role) := by
  rw [State.roleOf, State.standing, show d.state.bound = some p by rw [hs]; rfl]
  dsimp only
  rw [Option.map_map]
  rfl

/-- A key press of a record that stands on no door does nothing. -/
theorem pressCabin_none {d : Display}
    (h : ∀ p c pl, d.state = .placed p → Table.get s.activePlan.placements p = some pl → pl.role ≠ .door c) :
      s.pressCabin d = none := by
  unfold State.pressCabin
  cases hs : d.state with
  | placed p =>
    rw [roleOf_placed hs]
    cases hg : Table.get s.activePlan.placements p with
    | none => rfl
    | some pl =>
      rw [Option.map_some]
      cases hr : pl.role with
      | door c => exact absurd hr (h p c pl hs hg)
      | _ => rfl
  | _ => rfl

theorem pressCabin_some {d : Display} {p c : Nat} {pl : Placement} (hs : d.state = .placed p)
    (hg : Table.get s.activePlan.placements p = some pl) (hr : pl.role = .door c) : s.pressCabin d = some c := by
  rw [State.pressCabin, roleOf_placed hs, hg, Option.map_some, hr, hs]
  rfl

theorem occupied_iff (r : CabinState) : r.occupied = true ↔ r.aboard ≠ .count 0 := by
  unfold CabinState.occupied
  cases r.aboard with
  | unknown => simp
  | count n => simp [Nat.one_le_iff_ne_zero]

theorem takesPresses_iff (m : MusterState) : m.takesPresses = true ↔ m = .quiet ∨ m = .alert := by
  cases m <;> simp [MusterState.takesPresses]

/-! ## A key press on a door (R111, R179) -/

/-- A guest request of cabin `number` offered to the queue (R180). -/
def State.offered (v : State) (number : Nat) (kind : GuestKind) (overrun : Bool) : State :=
  if v.bus.guests.length < 16 then
    { v with bus := { v.bus with
        guests := v.bus.guests ++ [(⟨number, kind, v.now, v.bus.lossNote || overrun⟩ : GuestEntry)]
        lossNote := false } }.raise .hotel .guestRequest
  else { v with bus := { v.bus with overflow := true, lossNote := true } }

theorem offerGuest_eq (v : State) (number : Nat) (kind : GuestKind) (overrun : Bool) :
    v.offerGuest number kind overrun = v.offered number kind overrun := rfl

/-- The effects of key `x` of record `k`, which stands on a door of cabin `c`. -/
def pressTaken (k c number : Nat) (overrun : Bool) (x : PressCode) (u t v : State) : Prop :=
  let r := u.cabin c
  match x with
  | .vacated =>
    if u.muster.state = .muster ∧ r.aboard ≠ .count 0 ∧ r.vacated = .no then
      cabinStored c { r with vacated := .guest } (some k) u t
    else t = u
  | .dnd =>
    if u.muster.state = .quiet ∨ u.muster.state = .alert then
      cabinStored c { r with dnd := !r.dnd } (some k) u v ∧ t = v.offered number (if r.dnd then .dndOff else .dndOn) overrun
    else t = u
  | .service =>
    if u.muster.state = .quiet ∨ u.muster.state = .alert then
      cabinStored c { r with service := true } (some k) u v ∧ t = v.offered number .service overrun
    else t = u

theorem handPress_taken {u : State} {k c : Nat} {cab : Cabin} (hc : Table.get u.activePlan.cabins c = some cab) (x : PressCode)
    (overrun : Bool) : ∃ v, pressTaken k c cab.number overrun x u (u.handPress k c x overrun) v := by
  have hnumber : ((Table.get u.activePlan.cabins c).map (·.number)).getD 0 = cab.number := by rw [hc]; rfl
  unfold State.handPress pressTaken
  cases x with
  | vacated =>
    refine ⟨u, ?_⟩
    dsimp only
    unfold State.vacate
    dsimp only
    have hiff := and_congr_right (a := u.muster.state = .muster) fun _ =>
      and_congr_left (c := (u.cabin c).vacated = .no) fun _ => occupied_iff (u.cabin c)
    by_cases h : u.muster.state = .muster ∧ (u.cabin c).aboard ≠ .count 0 ∧ (u.cabin c).vacated = .no
    · rw [if_pos h, if_pos (hiff.mpr h)]
      exact changeCabin_stored ..
    · rw [if_neg h, if_neg fun h' => h (hiff.mp h')]
  | dnd =>
    refine ⟨u.changeCabin c { u.cabin c with dnd := !(u.cabin c).dnd } (some k), ?_⟩
    dsimp only
    rw [hnumber]
    by_cases h : u.muster.state = .quiet ∨ u.muster.state = .alert
    · rw [if_pos h, if_pos ((takesPresses_iff _).mpr h)]
      exact ⟨changeCabin_stored .., rfl⟩
    · rw [if_neg h, if_neg fun h' => h ((takesPresses_iff _).mp h')]
  | service =>
    refine ⟨u.changeCabin c { u.cabin c with service := true } (some k), ?_⟩
    dsimp only
    rw [hnumber]
    by_cases h : u.muster.state = .quiet ∨ u.muster.state = .alert
    · rw [if_pos h, if_pos ((takesPresses_iff _).mpr h)]
      exact ⟨changeCabin_stored .., rfl⟩
    · rw [if_neg h, if_neg fun h' => h ((takesPresses_iff _).mp h')]

/-! ## The entry by its kind (R178) -/

section
variable (h : s.bus.inbound = e :: rest)
include h

theorem dispatch_done (hk : e.kind = .refreshDone) (hs : (s.display (recKey e.seg e.addr)).state.inService) :
    exec .dispatch s = .next ((s.tookOverrun e rest).setDisplay (recKey e.seg e.addr)
      { (s.tookOverrun e rest).display (recKey e.seg e.addr) with busy := false, refreshLimit := none }) := by
  rw [exec_dispatch h, State.dispatchKind, hk]
  dsimp only
  rw [if_pos (by rw [tookOverrun_state]; exact hs)]
  rfl

theorem dispatch_done_held (hk : e.kind = .refreshDone) (hs : (s.display (recKey e.seg e.addr)).state.isHeld) :
    exec .dispatch s = .next ((s.tookOverrun e rest).setDisplay (recKey e.seg e.addr)
      { s.display (recKey e.seg e.addr) with busy := false }) := by
  rw [exec_dispatch h, State.dispatchKind, hk]
  dsimp only
  rw [if_neg (by rw [tookOverrun_state]; exact RecState.not_inService_of_isHeld hs), if_pos (by rw [tookOverrun_state]; exact hs),
    tookOverrun_idle (RecState.not_inService_of_isHeld hs)]
  rfl

theorem dispatch_fault {n : Nat} (hk : e.kind = .fault n) (hs : (s.display (recKey e.seg e.addr)).state.inService) :
    exec .dispatch s = .next ((s.tookOverrun e rest).enterHeld (recKey e.seg e.addr) .displayFault) := by
  rw [exec_dispatch h, State.dispatchKind, hk]
  dsimp only
  rw [if_pos (by rw [tookOverrun_state]; exact hs)]

theorem dispatch_fault_idle {n : Nat} (hk : e.kind = .fault n) (hs : ¬ (s.display (recKey e.seg e.addr)).state.inService = true) :
    exec .dispatch s = .next (s.tookOverrun e rest) := by
  rw [exec_dispatch h, State.dispatchKind, hk]
  dsimp only
  rw [if_neg (by rw [tookOverrun_state]; exact hs)]

theorem dispatch_press {x : PressCode} (hk : e.kind = .press x) : exec .dispatch s = .next
    (match (s.tookOverrun e rest).pressCabin ((s.tookOverrun e rest).display (recKey e.seg e.addr)) with
      | some c => (s.tookOverrun e rest).handPress (recKey e.seg e.addr) c x e.overrun
      | none => s.tookOverrun e rest) := by
  rw [exec_dispatch h, State.dispatchKind, hk] <;> rfl

end

theorem tookOverrun_plan : (s.tookOverrun e rest).activePlan = s.activePlan :=
  activePlan_congr (t := s.tookOverrun e rest) (s := s) (congrArg (·.active) (tookOverrun_same.keeps .plan (by decide)))

theorem tookOverrun_muster : (s.tookOverrun e rest).muster = s.muster := tookOverrun_same.keeps .muster (by decide)

theorem dispatch_press_none (h : s.bus.inbound = e :: rest) {x : PressCode} (hk : e.kind = .press x)
    (hn : ∀ p c pl, (s.display (recKey e.seg e.addr)).state = .placed p → Table.get s.activePlan.placements p = some pl →
      pl.role ≠ .door c) : exec .dispatch s = .next (s.tookOverrun e rest) := by
  rw [dispatch_press h hk, pressCabin_none (by rw [tookOverrun_state, tookOverrun_plan]; exact hn)]

end

/-- A FREE record takes no entry. -/
theorem dispatch_free {s : State} {e : InboundEntry} {rest : List InboundEntry} (h : s.bus.inbound = e :: rest)
    (hf : (s.display (recKey e.seg e.addr)).state = .free) : exec .dispatch s = .next (s.tookEntry rest) := by
  have hs : ¬ (s.display (recKey e.seg e.addr)).state.inService = true := by rw [hf]; exact Bool.false_ne_true
  rw [← tookOverrun_idle (e := e) hs]
  cases hk : e.kind with
  | refreshDone =>
    rw [exec_dispatch h, State.dispatchKind, hk]
    dsimp only
    rw [if_neg (by rw [tookOverrun_state]; exact hs), if_neg (by rw [tookOverrun_state, hf]; exact Bool.false_ne_true)]
  | fault n => exact dispatch_fault_idle h hk hs
  | press x => exact dispatch_press_none h hk fun p c pl hp => nomatch hf.symm.trans hp

/-- Settles O53: the oldest entry is taken, its overrun mark acted on, and then its kind against its record. -/
theorem dispatcherActsOnTheOldestEntry : Obligations.DispatcherActsOnTheOldestEntry := by
  unfold Obligations.DispatcherActsOnTheOldestEntry
  refine ⟨fun e rest s h ha => ⟨dispatch_done h, fun hk hs => ?_, fun n hk hs => ?_, fun n hk hs => ?_, fun hn x hk => ?_,
    fun hf => ?_,
    fun p c pl cab x hp hg hr hc hk => ?_⟩, fun tag body s => ⟨fun hr n hn => ?_, ?_⟩⟩
  · exact dispatch_done_held h hk hs
  · refine ⟨_, dispatch_fault h hk hs, enterHeld_entered ha .displayFault (s := s.tookOverrun e rest) rfl rfl rfl, ?_, ?_⟩
    · have honly := (enterHeld_recordOnly (s := s.tookOverrun e rest) (recKey e.seg e.addr) .displayFault).only
      rwa [keySeg_recKey ha] at honly
    · exact (enterHeld_same ..).keeps .bus (by decide)
  · exact dispatch_fault_idle h hk (RecState.not_inService_of_isHeld hs)
  · exact dispatch_press_none h hk hn
  · exact dispatch_free h hf
  · have hmuster : (s.tookOverrun e rest).muster = s.muster := tookOverrun_muster
    have hplan : (s.tookOverrun e rest).activePlan = s.activePlan := tookOverrun_plan
    have hcabin : (s.tookOverrun e rest).cabin c = s.cabin c := by rw [State.cabin, State.cabin, hmuster]
    obtain ⟨v, hv⟩ := handPress_taken (u := s.tookOverrun e rest) (k := recKey e.seg e.addr) (by rw [hplan]; exact hc) x e.overrun
    have hexec : exec .dispatch s = .next ((s.tookOverrun e rest).handPress (recKey e.seg e.addr) c x e.overrun) := by
      rw [dispatch_press h hk, pressCabin_some (by rw [tookOverrun_state]; exact hp) (by rw [hplan]; exact hg) hr]
    unfold pressTaken at hv
    rw [hmuster, hcabin] at hv
    refine ⟨_, v, hexec, ?_⟩
    cases x <;> exact hv
  · have hread : readGuests n (requestTaken .hotel s) = if n = 0 then .answer (requestTaken .hotel s) (.bad .range)
        else .answer { requestTaken .hotel s with bus := { s.bus with guests := s.bus.guests.drop (min n 8), overflow := false } }
          (.results (.guestRequests (s.bus.guests.take (min n 8)) s.bus.overflow (s.bus.guests.length - min n 8))) := by
      rw [← List.length_drop]
      rfl
    by_cases h0 : n = 0
    · rw [if_pos h0] at hread
      dsimp only
      rw [if_pos h0]
      exact congrArg Host.Outcome.next (taken_parsed hr rfl hn hread)
    · rw [if_neg h0] at hread
      dsimp only
      rw [if_neg h0]
      exact congrArg Host.Outcome.next (taken_parsed hr rfl hn hread)
  · exact ⟨_, rfl, rfl, ⟨fun p hp => by cases p <;> first | rfl | exact absurd (by decide) hp⟩,
      fun k => display_mapVals (s := s) (f := fun _ d => d.refilled) rfl k rfl⟩

end Sys2Proof.Machine
end

section
/-! PROOFS. The card record tells its card (R204). -/

namespace Sys2Proof.Machine

/-! ## Encodings that a reader can take off the front -/

/-- The first value can be read back from an encoding with anything behind it. -/
def Reads {α : Type} (P : α → Prop) (f : α → List Byte) : Prop :=
  ∀ x y, P x → P y → ∀ r r', f x ++ r = f y ++ r' → x = y ∧ r = r'

theorem byte_inj {m n : Nat} (hm : m < 256) (hn : n < 256) (h : byte m = byte n) : m = n := by
  have h' := congrArg BitVec.toNat h
  simp only [byte, BitVec.toNat_ofNat] at h'
  omega

theorem byte_div_inj {m n k : Nat} (hm : m < 256 * k) (hn : n < 256 * k) (h : byte (m / k) = byte (n / k)) : m / k = n / k :=
  byte_inj (Nat.div_lt_of_lt_mul (by rwa [Nat.mul_comm])) (Nat.div_lt_of_lt_mul (by rwa [Nat.mul_comm])) h

theorem be2_reads : Reads (· < 65536) be2 := by
  intro m n hm hn r r' h
  simp only [be2, List.cons_append, List.nil_append, List.cons.injEq] at h
  obtain ⟨hhigh, hlow, hr⟩ := h
  have h1 := congrArg BitVec.toNat hhigh
  have h2 := congrArg BitVec.toNat hlow
  simp only [byte, BitVec.toNat_ofNat] at h1 h2
  exact ⟨by omega, hr⟩

theorem be3_reads : Reads (· < 16777216) be3 := by
  intro m n hm hn r r' h
  simp only [be3, List.cons_append, List.nil_append, List.cons.injEq] at h
  obtain ⟨hhigh, hmid, hlow, hr⟩ := h
  have h1 := congrArg BitVec.toNat hhigh
  have h2 := congrArg BitVec.toNat hmid
  have h3 := congrArg BitVec.toNat hlow
  simp only [byte, BitVec.toNat_ofNat] at h1 h2 h3
  exact ⟨by omega, hr⟩

section
variable {α : Type} {P : α → Prop} {f : α → List Byte}

theorem Reads.items (h : Reads P f) {xs ys : List α} (hx : ∀ x ∈ xs, P x) (hy : ∀ y ∈ ys, P y) (hl : xs.length = ys.length)
    {r r' : List Byte} (he : xs.flatMap f ++ r = ys.flatMap f ++ r') : xs = ys ∧ r = r' := by
  induction xs generalizing ys with
  | nil =>
    cases ys with
    | nil => exact ⟨rfl, he⟩
    | cons y ys => cases hl
  | cons x xs ih =>
    cases ys with
    | nil => cases hl
    | cons y ys =>
      rw [List.flatMap_cons, List.flatMap_cons, List.append_assoc, List.append_assoc] at he
      obtain ⟨rfl, htail⟩ := h x y (hx x List.mem_cons_self) (hy y List.mem_cons_self) _ _ he
      obtain ⟨rfl, hr⟩ := ih (fun z hz => hx z (List.mem_cons_of_mem _ hz)) (fun z hz => hy z (List.mem_cons_of_mem _ hz))
        (Nat.succ.inj hl) htail
      exact ⟨rfl, hr⟩

theorem encodeList_reads (h : Reads P f) : Reads (fun xs : List α => xs.length < 256 ∧ ∀ x ∈ xs, P x) (encodeList f) := by
  rintro xs ys ⟨hxl, hx⟩ ⟨hyl, hy⟩ r r' he
  simp only [encodeList, List.cons_append, List.cons.injEq] at he
  exact h.items hx hy (byte_inj hxl hyl he.1) he.2

end

theorem encodeText_reads : Reads (fun t : Text => t.length < 256) encodeText := by
  have hunit : Reads (fun _ : Unit16 => True) (fun u => be2 u.toNat) := fun x y _ _ r r' h => by
    obtain ⟨hxy, hr⟩ := be2_reads _ _ (BitVec.isLt x) (BitVec.isLt y) r r' h
    exact ⟨BitVec.eq_of_toNat_eq hxy, hr⟩
  exact fun s t hs ht => encodeList_reads hunit s t ⟨hs, fun _ _ => trivial⟩ ⟨ht, fun _ _ => trivial⟩

theorem encodeText_length (t : Text) : (encodeText t).length = 1 + 2 * t.length := by
  have h : ∀ t : Text, (t.flatMap fun u => be2 u.toNat).length = 2 * t.length := fun t => by
    induction t with
    | nil => rfl
    | cons u t ih =>
      rw [List.flatMap_cons, List.length_append, ih, List.length_cons]
      change 2 + _ = _
      omega
  rw [encodeText, List.length_cons, h, Nat.add_comm]

/-! ## Codes -/

theorem Category.code_inj {a b : Category} (h : a.code = b.code) : a = b := by
  cases a <;> cases b <;> first | rfl | exact absurd h (by decide)

theorem CardKind.code_inj {a b : CardKind} (h : a.code = b.code) : a = b := by
  cases a <;> cases b <;> first | rfl | exact absurd h (by decide)

theorem InstructionCode.code_inj {a b : InstructionCode} (h : a.code = b.code) : a = b := by
  cases a <;> cases b <;> first | rfl | exact absurd h (by decide)

theorem MessageCode.code_inj {a b : MessageCode} (h : a.code = b.code) : a = b := by
  have hbase : ∀ c : InstructionCode, 5 ≤ (MessageCode.instruction c).code.toNat := fun c => by cases c <;> decide
  cases a with
  | instruction c =>
    cases b with
    | instruction d => exact congrArg _ (InstructionCode.code_inj (by simpa [MessageCode.code] using h))
    | _ => exact absurd (h ▸ hbase c) (by decide)
  | _ =>
    cases b with
    | instruction d => exact absurd (h.symm ▸ hbase d) (by decide)
    | _ => first | rfl | exact absurd h (by decide)

theorem phaseByte_inj {a b : Option CardPhase} (h : phaseByte a = phaseByte b) : a = b := by
  rcases a with - | a <;> rcases b with - | b
  · rfl
  · cases b <;> exact absurd h (by decide)
  · cases a <;> exact absurd h (by decide)
  · cases a <;> cases b <;> first | rfl | exact absurd h (by decide)

theorem flagByte_inj {a b : Bool} (h : flagByte a = flagByte b) : a = b := by
  cases a <;> cases b <;> first | rfl | exact absurd h (by decide)

theorem opt1_inj {a b : Option Nat} (ha : ∀ n, a = some n → n < 255) (hb : ∀ n, b = some n → n < 255) (h : opt1 a = opt1 b) :
    a = b := by
  have hne : ∀ n < 255, byte n ≠ 0xFF#8 := fun n hn he => absurd (byte_inj (n := 255) (by omega) (by decide) he) (by omega)
  cases a with
  | none =>
    cases b with
    | none => rfl
    | some n => exact absurd h.symm (hne n (hb n rfl))
  | some m =>
    cases b with
    | none => exact absurd h (hne m (ha m rfl))
    | some n => exact congrArg some (byte_inj (Nat.lt_succ_of_lt (ha m rfl)) (Nat.lt_succ_of_lt (hb n rfl)) h)

/-- The six bits of the marks (R204). -/
theorem Marks.code_bits : ∀ a b c d e f : Bool, let x := (Marks.mk a b c d e f).code
    (x.getLsbD 0, x.getLsbD 1, x.getLsbD 2, x.getLsbD 3, x.getLsbD 4, x.getLsbD 5) = (a, b, c, d, e, f) := by
  decide

theorem Marks.code_inj {m n : Marks} (h : m.code = n.code) : m = n := by
  obtain ⟨a, b, c, d, e, f⟩ := m
  obtain ⟨a', b', c', d', e', f'⟩ := n
  have hm := Marks.code_bits a b c d e f
  rw [h] at hm
  have hn := hm.symm.trans (Marks.code_bits a' b' c' d' e' f')
  simp only [Prod.mk.injEq] at hn
  obtain ⟨rfl, rfl, rfl, rfl, rfl, rfl⟩ := hn
  rfl

theorem Badge.fields_inj {a b : Badge} (hc : a.code = b.code) (hn : a.number = b.number) (hl : a.label = b.label) : a = b := by
  cases a with
  | none =>
    cases b with
    | none => rfl
    | _ => exact absurd hc (by simp [Badge.code])
  | station t =>
    cases b with
    | station u => exact congrArg _ hl
    | _ => exact absurd hc (by simp [Badge.code])
  | cabin n =>
    cases b with
    | cabin m => exact congrArg _ hn
    | _ => exact absurd hc (by simp [Badge.code])
  | venue t =>
    cases b with
    | venue u => exact congrArg _ hl
    | _ => exact absurd hc (by simp [Badge.code])

/-! ## Lines (R124, R204) -/

theorem RoutePart.encode_length (r : RoutePart) : r.encode.length = 5 := by cases r <;> rfl

theorem Line.routeBytes_length (x : Line) : x.routeBytes.length = 5 := by
  cases x <;> first | exact RoutePart.encode_length _ | rfl

theorem Line.times_length (x : Line) : x.times.length = 4 := by cases x <;> rfl

theorem RoutePart.encode_inj {a b : RoutePart} (ha : routeFits a) (hb : routeFits b) (h : a.encode = b.encode) : a = b := by
  cases a with
  | route i m t =>
    cases b with
    | route i' m' t' =>
      obtain ⟨hi, hm, ht⟩ := ha
      obtain ⟨hi', hm', ht'⟩ := hb
      simp only [RoutePart.encode, List.cons_append, List.nil_append, List.cons.injEq, true_and] at h
      obtain ⟨h1, h2⟩ := h
      obtain ⟨rfl, h3⟩ := be2_reads m m' (by omega) (by omega) _ _ h2
      cases byte_inj (by omega) (by omega) h1
      cases byte_inj (by omega) (by omega) (List.cons.inj h3).1
      rfl
    | _ => simp [RoutePart.encode] at h
  | _ =>
    cases b with
    | route i' m' t' => simp [RoutePart.encode] at h
    | _ => first | rfl | exact absurd h (by decide)

/-- The fields of the layout tell the line. -/
structure SameFields (x y : Line) : Prop where
  code : x.code = y.code
  route : x.routeBytes = y.routeBytes
  category : x.category = y.category
  moved : x.moved = y.moved
  times : x.times = y.times
  message : x.messageByte = y.messageByte
  text : x.text = y.text
  second : x.second = y.second

theorem Line.textFits {x : Line} (h : lineFits x) : x.text.length ≤ 64 ∧ x.second.length ≤ 64 := by
  cases x <;> simp only [lineFits, Machine.textFits, Line.text, Line.second] at h ⊢ <;> simp [h]

theorem Line.encode_reads : ∀ x y, lineFits x → lineFits y → ∀ r r', x.encode ++ r = y.encode ++ r' → SameFields x y ∧ r = r' := by
  intro x y hx hy r r' h
  simp only [Line.encode, List.cons_append, List.append_assoc, List.cons.injEq] at h
  obtain ⟨hcode, h⟩ := h
  obtain ⟨hroute, h⟩ := List.append_inj h (by rw [Line.routeBytes_length, Line.routeBytes_length])
  simp only [List.cons.injEq] at h
  obtain ⟨hcategory, hmoved, h⟩ := h
  obtain ⟨htimes, h⟩ := List.append_inj h (by rw [Line.times_length, Line.times_length])
  simp only [List.cons.injEq] at h
  obtain ⟨hmessage, h⟩ := h
  obtain ⟨hxt, hxs⟩ := Line.textFits hx
  obtain ⟨hyt, hys⟩ := Line.textFits hy
  obtain ⟨htext, h⟩ := encodeText_reads _ _ (by omega) (by omega) _ _ h
  obtain ⟨hsecond, h⟩ := encodeText_reads _ _ (by omega) (by omega) _ _ h
  exact ⟨⟨hcode, hroute, hcategory, hmoved, htimes, hmessage, htext, hsecond⟩, h⟩

theorem be2_inj {m n : Nat} (hm : m < 65536) (hn : n < 65536) (h : be2 m = be2 n) : m = n :=
  (be2_reads m n hm hn [] [] (by rw [h])).1

theorem SameFields.eq {x y : Line} (hx : lineFits x) (hy : lineFits y) (h : SameFields x y) : x = y := by
  obtain ⟨hcode, hroute, hcategory, hmoved, htimes, hmessage, htext, hsecond⟩ := h
  cases x with
  | route r =>
    cases y with
    | route r' => exact congrArg _ (RoutePart.encode_inj hx hy hroute)
    | _ => exact absurd hcode (by simp [Line.code])
  | sign r t =>
    cases y with
    | sign r' t' =>
      cases RoutePart.encode_inj hx.1 hy.1 hroute
      exact congrArg _ htext
    | _ => exact absurd hcode (by simp [Line.code])
  | onBoard c m st r t u =>
    cases y with
    | onBoard c' m' st' r' t' u' =>
      obtain ⟨hst, hr, -⟩ := hx
      obtain ⟨hst', hr', -⟩ := hy
      cases RoutePart.encode_inj hr hr' hroute
      cases Category.code_inj hcategory
      cases flagByte_inj hmoved
      cases be2_inj (by omega) (by omega) (List.append_cancel_right htimes)
      cases htext
      exact congrArg _ hsecond
    | _ => exact absurd hcode (by simp [Line.code])
  | now c st en t u =>
    cases y with
    | now c' st' en' t' u' =>
      obtain ⟨hst, hen, -⟩ := hx
      obtain ⟨hst', hen', -⟩ := hy
      cases Category.code_inj hcategory
      obtain ⟨hs, he⟩ := List.append_inj htimes rfl
      cases be2_inj (by omega) (by omega) hs
      cases be2_inj (by omega) (by omega) he
      cases htext
      exact congrArg _ hsecond
    | _ => exact absurd hcode (by simp [Line.code])
  | next c m st t u =>
    cases y with
    | next c' m' st' t' u' =>
      obtain ⟨hst, -⟩ := hx
      obtain ⟨hst', -⟩ := hy
      cases Category.code_inj hcategory
      cases flagByte_inj hmoved
      cases be2_inj (by omega) (by omega) (List.append_cancel_right htimes)
      cases htext
      exact congrArg _ hsecond
    | _ => exact absurd hcode (by simp [Line.code])
  | name t u =>
    cases y with
    | name t' u' =>
      cases htext
      exact congrArg _ hsecond
    | _ => exact absurd hcode (by simp [Line.code])
  | notice t u =>
    cases y with
    | notice t' u' =>
      cases htext
      exact congrArg _ hsecond
    | _ => exact absurd hcode (by simp [Line.code])
  | parked t u =>
    cases y with
    | parked t' u' =>
      cases htext
      exact congrArg _ hsecond
    | _ => exact absurd hcode (by simp [Line.code])
  | message c =>
    cases y with
    | message c' => exact congrArg _ (MessageCode.code_inj hmessage)
    | _ => exact absurd hcode (by simp [Line.code])

theorem lines_read : Reads lineFits Line.encode := fun x y hx hy r r' h =>
  (Line.encode_reads x y hx hy r r' h).imp_left (·.eq hx hy)

theorem Line.encode_length (x : Line) : x.encode.length = 15 + 2 * x.text.length + 2 * x.second.length := by
  simp only [Line.encode, List.cons_append, List.append_assoc, List.length_cons, List.length_append, Line.routeBytes_length,
    Line.times_length, encodeText_length]
  omega

/-! ## Cards (R123, R204) -/

theorem badge_bounds {b : Badge} (h : badgeFits b) : b.number < 16777216 ∧ b.label.length ≤ 16 := by
  cases b with
  | none => exact ⟨by decide, by decide⟩
  | station t => exact ⟨Nat.succ_pos _, h⟩
  | venue t => exact ⟨Nat.succ_pos _, h⟩
  | cabin n => exact ⟨Nat.lt_of_le_of_lt h (by decide), Nat.zero_le _⟩

theorem Card.encode_inj {c d : Card} (hc : cardFits c) (hd : cardFits d) (h : c.encode = d.encode) : c = d := by
  obtain ⟨hcp, hcs, hcb, hcl, hcx⟩ := hc
  obtain ⟨hdp, hds, hdb, hdl, hdx⟩ := hd
  obtain ⟨hcn, hct⟩ := badge_bounds hcb
  obtain ⟨hdn, hdt⟩ := badge_bounds hdb
  simp only [Card.encode, List.cons_append, List.nil_append, List.append_assoc, List.cons.injEq] at h
  obtain ⟨hkind, hprimary, hsecondary, hphase, hmarks, hbadge, h⟩ := h
  obtain ⟨hnumber, h⟩ := be3_reads _ _ hcn hdn _ _ h
  obtain ⟨hlabel, h⟩ := encodeText_reads _ _ (by omega) (by omega) _ _ h
  obtain ⟨hlines, -⟩ := encodeList_reads lines_read c.lines d.lines ⟨by omega, hcx⟩ ⟨by omega, hdx⟩ [] [] (by rw [h])
  have hk := CardKind.code_inj hkind
  have hp := byte_inj (by omega) (by omega) hprimary
  have hs := opt1_inj (fun n hn => (hcs n hn).trans (by decide)) (fun n hn => (hds n hn).trans (by decide)) hsecondary
  have hph := phaseByte_inj hphase
  have hm := Marks.code_inj hmarks
  have hb := Badge.fields_inj hbadge hnumber hlabel
  cases c
  cases d
  cases hk; cases hp; cases hs; cases hph; cases hm; cases hb; cases hlines
  rfl

theorem Card.encode_length {c : Card} (h : cardFits c) : c.encode.length ≤ 1127 := by
  obtain ⟨-, -, hb, hl, hx⟩ := h
  obtain ⟨-, ht⟩ := badge_bounds hb
  have hlines : ∀ ls : List Line, (∀ x ∈ ls, lineFits x) → (ls.flatMap Line.encode).length ≤ 271 * ls.length := fun ls => by
    induction ls with
    | nil => exact fun _ => le_rfl
    | cons x ls ih =>
      intro hfit
      obtain ⟨htext, hsecond⟩ := Line.textFits (hfit x List.mem_cons_self)
      have hrest := ih fun y hy => hfit y (List.mem_cons_of_mem _ hy)
      rw [List.flatMap_cons, List.length_append, Line.encode_length, List.length_cons]
      omega
  have hsum := hlines c.lines hx
  simp only [Card.encode, be3, encodeList, List.length_append, List.length_cons, List.length_nil, encodeText_length]
  omega

/-- Settles O59: every field of the layout reads back, so the record tells the card. -/
theorem cardRecordsAreUnique : Obligations.CardRecordsAreUnique := by
  unfold Obligations.CardRecordsAreUnique
  exact fun c d hc hd => ⟨⟨Card.encode_inj hc hd, congrArg Card.encode⟩, Card.encode_length hc⟩

end Sys2Proof.Machine
end

section
/-! PROOFS. The replies of displays read back, and the display's side of the bus (R203, R147, R168, R176). -/

namespace Sys2Proof.Machine

/-! ## Frames (R203) -/

theorem byte_toNat {n : Nat} (h : n < 256) : (byte n).toNat = n := Nat.mod_eq_of_lt h

theorem toNat_append_byte {n : Nat} (x : BitVec n) (m : Nat) : (x ++ byte m).toNat = x.toNat * 256 + m % 256 := by
  rw [BitVec.toNat_append, ← Nat.shiftLeft_add_eq_or_of_lt (byte m).isLt, Nat.shiftLeft_eq]
  rfl

/-- The six bytes of an identity put together again. -/
theorem six_append (i : Identity) : byte (i.toNat / 1099511627776) ++ byte (i.toNat / 4294967296) ++ byte (i.toNat / 16777216) ++
    byte (i.toNat / 65536) ++ byte (i.toNat / 256) ++ byte i.toNat = i := by
  refine BitVec.eq_of_toNat_eq ?_
  have hlt := i.isLt
  have hfirst : (byte (i.toNat / 1099511627776)).toNat = i.toNat / 1099511627776 % 256 := rfl
  simp only [toNat_append_byte, hfirst]
  omega

theorem readFrame_eq {start a kind h l : Byte} {rest payload : List Byte} (hp : rest.take (read2 h l) = payload) :
    readFrame (start :: a :: kind :: h :: l :: rest) =
      if start = 0xC3#8 ∧ read2 h l ≤ 1200 ∧ rest = payload ++ [crc8 (checkedBytes a.toNat kind payload)] ∧
        payload.length = read2 h l
      then some (a, kind, payload) else none := by
  subst hp
  rfl

theorem readFrame_of {addr : Nat} (ha : addr < 256) (kind : Byte) {payload : List Byte} (hl : payload.length ≤ 1200) :
    readFrame (frameBytes addr kind payload) = some (byte addr, kind, payload) := by
  have hlen : read2 (byte (payload.length / 256)) (byte payload.length) = payload.length := by
    simp only [read2, byte, BitVec.toNat_ofNat]
    omega
  have htake : (payload ++ [crc8 (checkedBytes addr kind payload)]).take
      (read2 (byte (payload.length / 256)) (byte payload.length)) = payload := by
    rw [hlen]
    exact List.take_left
  refine (readFrame_eq htake).trans (if_pos ⟨rfl, ?_, ?_, hlen.symm⟩)
  · rwa [hlen]
  · rw [byte_toNat ha]

/-- A frame whose check fails is none. -/
theorem readFrame_wrong {start a kind h l c : Byte} {payload : List Byte} (hc : c ≠ crc8 (checkedBytes a.toNat kind payload)) :
    readFrame (start :: a :: kind :: h :: l :: payload ++ [c]) = none := by
  refine if_neg fun hread => ?_
  obtain ⟨-, -, hrest, -⟩ := hread
  obtain ⟨hp, hlast⟩ := List.append_inj' hrest rfl
  rw [← hp] at hlast
  exact hc (List.cons.inj hlast).1

theorem replyOf_payload (r : PanelReply) : replyOf r.kindByte r.payload = some r := by
  cases r with
  | capability i p c l f => exact congrArg (fun j => some (PanelReply.capability j p c l f)) (six_append i)
  | _ => rfl

theorem readReply_encode (r : PanelReply) {a : Nat} (ha : a < 256) : readReply (r.encode a) = some (byte a, r) := by
  have hl : r.payload.length ≤ 1200 := by cases r <;> exact Nat.le_of_ble_eq_true rfl
  rw [readReply, PanelReply.encode, readFrame_of ha _ hl]
  dsimp only
  rw [replyOf_payload]
  rfl

theorem readReply_wrong {start a kind h l c : Byte} {payload : List Byte} (hc : c ≠ crc8 (checkedBytes a.toNat kind payload)) :
    readReply (start :: a :: kind :: h :: l :: payload ++ [c]) = none := by
  rw [readReply, readFrame_wrong hc]

/-! ## Replies nothing awaits (log 13) -/

section
variable {g : Seg} {a : Nat} {s : State}

theorem unawaited_card (h : (s.seg g).exchange ≠ some (.card a)) : ack g a s = s ∧ nak g a s = s := by
  unfold ack nak
  cases hx : (s.seg g).exchange with
  | none => exact ⟨rfl, rfl⟩
  | some e =>
    cases e with
    | poll b => exact ⟨rfl, rfl⟩
    | card b =>
      have hne : a ≠ b := fun he => h (he ▸ hx)
      exact ⟨if_neg hne, if_neg hne⟩

theorem unawaited_poll (h : (s.seg g).exchange ≠ some (.poll a)) (k c o : Byte) :
    pollNone g a s = s ∧ pollNak g a s = s ∧ report g a k c o s = s := by
  unfold pollNone pollNak report
  cases hx : (s.seg g).exchange with
  | none => exact ⟨rfl, rfl, rfl⟩
  | some e =>
    cases e with
    | card b => exact ⟨rfl, rfl, rfl⟩
    | poll b =>
      have hne : a ≠ b := fun he => h (he ▸ hx)
      exact ⟨if_neg hne, if_neg hne, if_neg hne⟩

theorem unawaited_capability (h : ∀ x i e n, (s.seg g).activity ≠ .sweeping x (.assign i e n)) (i : Identity) (c : Capability) :
    capabilityReply g a i c s = s := by
  unfold capabilityReply
  cases hact : (s.seg g).activity with
  | sweeping x p =>
    cases p with
    | assign j e n => exact absurd hact (h x j e n)
    | _ => rfl
  | _ => rfl

end

/-! ## The display's side (R147, R168, R176) -/

section
variable (u : DisplayUnit)

theorem takesAssign_iff (i : Identity) : u.takesAssign i = true ↔
    i = u.identity ∧ (u.sweep = .participant ∨ u.sweep = .stoodBack ∨ u.sweep = .unaddressed) := by
  rw [DisplayUnit.takesAssign, Bool.and_eq_true, beq_iff_eq]
  refine and_congr_right fun _ => ?_
  cases u.sweep <;> simp [SweepState.assignable]

theorem takeCard_reply (x : Bool) (c : Card) : (u.takeCard x c).2 = .ack ∨ (u.takeCard x c).2 = .nak := by
  unfold DisplayUnit.takeCard
  split
  · exact .inr rfl
  · split
    · exact .inl rfl
    · split <;> exact .inl rfl

end

/-- Settles O60: a reply reads back from its frame, a wrong check or an unawaited reply has no effect, and a display answers what
is for it. -/
theorem panelRepliesReadBack : Obligations.PanelRepliesReadBack := by
  unfold Obligations.PanelRepliesReadBack
  refine ⟨fun r a => readReply_encode r, fun start a kind h l c payload g s hc => ⟨readReply_wrong hc, ?_⟩, fun g a s ha => ?_,
    fun g a k c o s => ⟨fun h => ?_, fun h => ?_, fun h i p cap l f => ?_⟩, fun u f line => ⟨fun i a => ⟨?_, ?_⟩, ?_, ?_, ?_⟩⟩
  · rw [replyCommand, readReply_wrong hc]
  · have haddr : a < 256 := Nat.lt_of_le_of_lt ha.2 (by decide)
    have hb : (byte a).toNat = a := byte_toNat haddr
    have hread : ∀ r : PanelReply, readReply (r.encode a) = some (byte a, r) := fun r => readReply_encode r haddr
    refine ⟨fun i p cap l f => ?_, ?_, ?_, fun k c o => ?_, fun e he => ?_, fun e he => ?_⟩
    · change replyCommand s g _ = _
      unfold replyCommand
      rw [readReply_encode _ (by decide)]
      rfl
    all_goals
      change replyCommand s g _ = _
      unfold replyCommand
      rw [hread]
      dsimp only
    · rw [hb]
    · rw [hb]
    · rw [hb]
    · rw [he, hb]
    · rw [he, hb]
  · obtain ⟨hack, hnak⟩ := unawaited_card (s := s.begin) h
    exact ⟨congrArg Host.Outcome.next hack, congrArg Host.Outcome.next hnak⟩
  · obtain ⟨hnone, hnak, hreport⟩ := unawaited_poll (s := s.begin) h k c o
    exact ⟨congrArg Host.Outcome.next hnone, congrArg Host.Outcome.next hnak, congrArg Host.Outcome.next hreport⟩
  · exact congrArg Host.Outcome.next (unawaited_capability (s := s.begin) h i _)
  · rintro rfl htaken
    have h := (takesAssign_iff u i).mpr htaken
    exact ⟨if_pos h, if_pos h⟩
  · rintro rfl htaken
    have h := (takesAssign_iff u i).not.mpr htaken
    exact ⟨if_neg h, if_neg h⟩
  · rintro a x c rfl
    refine ⟨fun h => ?_, fun h => ⟨if_neg h, if_neg h⟩⟩
    have hr : u.reply (.card a x c) = some (u.takeCard x c).2 := if_pos h
    rw [hr]
    exact (takeCard_reply u x c).imp (congrArg some) (congrArg some)
  · rintro a rfl
    refine ⟨⟨fun h => ?_, fun h => ?_⟩, fun h => if_neg h⟩
    · by_contra hne
      have hr : u.reply (.poll a) = none := if_neg hne
      rw [hr] at h
      cases h
    · have hr : u.reply (.poll a) = some u.takePoll.2 := if_pos h
      rw [hr]
      rfl
  · intro hassign hcard hpoll
    cases f with
    | assign i a => exact absurd rfl (hassign i a)
    | card a x c => exact absurd rfl (hcard a x c)
    | poll a => exact absurd rfl (hpoll a)
    | _ => rfl

end Sys2Proof.Machine
end

section
/-! PROOFS. Fitting lines to a display (R132). -/

namespace Sys2Proof.Machine

/-! ## One line -/

theorem cutLine_eq (n : Nat) (x : Line) : cutLine n x = x.withTexts (x.text.take (n - x.reserve)) (x.second.take n) := by
  cases x <;> rfl

theorem cutLine_second (n : Nat) (x : Line) : (cutLine n x).second = x.second.take n := by
  cases x <;> first | rfl | exact List.take_nil.symm

theorem withTexts_dropSecond (t u : Text) (x : Line) : (x.withTexts t u).dropSecond = x.withTexts t [] := by
  cases x <;> rfl

theorem dropSecond_second (x : Line) : x.dropSecond.second = [] := by cases x <;> rfl

theorem dropSecond_of_empty {x : Line} (h : x.second = []) : x.dropSecond = x := by
  cases x <;> simp_all [Line.second, Line.dropSecond]

/-! ## Removing secondary renderings, the last line first -/

/-- How many lines have a secondary rendering. -/
def secondCount (ls : List Line) : Nat := (ls.filter fun l => !l.second.isEmpty).length

theorem secondCount_append (ls ms : List Line) : secondCount (ls ++ ms) = secondCount ls + secondCount ms := by
  simp [secondCount]

theorem secondCount_dropped (ls : List Line) : secondCount (ls.map Line.dropSecond) = 0 := by
  rw [secondCount, List.length_eq_zero_iff, List.filter_eq_nil_iff]
  intro y hy
  obtain ⟨x, -, rfl⟩ := List.mem_map.mp hy
  simp [dropSecond_second]

theorem secondCount_reverse (ls : List Line) : secondCount ls.reverse = secondCount ls := by simp [secondCount]

theorem lineTotal_eq (ls : List Line) : lineTotal ls = ls.length + secondCount ls := rfl

/-- Renderings go from the front on, as many as asked for and found. -/
theorem dropSeconds_split (n : Nat) (ls : List Line) : ∃ pre post, ls = pre ++ post ∧
    dropSeconds n ls = pre.map Line.dropSecond ++ post ∧ secondCount post = secondCount ls - n := by
  induction ls generalizing n with
  | nil => exact ⟨[], [], rfl, by cases n <;> rfl, (Nat.zero_sub n).symm⟩
  | cons l ls ih =>
    cases n with
    | zero => exact ⟨[], l :: ls, rfl, rfl, rfl⟩
    | succ n =>
      by_cases hl : l.second = []
      · obtain ⟨pre, post, rfl, hdrop, hcount⟩ := ih (n + 1)
        refine ⟨l :: pre, post, rfl, ?_, ?_⟩
        · rw [dropSeconds, if_pos (by rw [hl]; rfl), hdrop, List.map_cons, dropSecond_of_empty hl, List.cons_append]
        · rw [hcount]
          simp [secondCount, hl]
      · obtain ⟨pre, post, rfl, hdrop, hcount⟩ := ih n
        have hne : l.second.isEmpty = false := by simpa using hl
        refine ⟨l :: pre, post, rfl, ?_, ?_⟩
        · rw [dropSeconds, if_neg (by rw [hne]; exact Bool.false_ne_true), hdrop, List.map_cons, List.cons_append]
        · have hcons : secondCount (l :: (pre ++ post)) = secondCount (pre ++ post) + 1 := by simp [secondCount, hne]
          rw [hcount, hcons]
          omega

/-- The fitted lines: the cut ones, those behind some point without their secondary renderings. -/
theorem fitLines_split (cap : Capability) (ls : List Line) : ∃ kept dropped, ls = kept ++ dropped ∧
    fitLines cap ls = kept.map (cutLine cap.capacity) ++ dropped.map (fun x => (cutLine cap.capacity x).dropSecond) ∧
    secondCount (kept.map (cutLine cap.capacity)) =
      secondCount (ls.map (cutLine cap.capacity)) - (lineTotal (ls.map (cutLine cap.capacity)) - cap.lines) := by
  obtain ⟨pre, post, hsplit, hdrop, hcount⟩ :=
    dropSeconds_split (lineTotal (ls.map (cutLine cap.capacity)) - cap.lines) (ls.map (cutLine cap.capacity)).reverse
  have hcut : ls.map (cutLine cap.capacity) = post.reverse ++ pre.reverse := by
    rw [← List.reverse_append, ← hsplit, List.reverse_reverse]
  obtain ⟨kept, dropped, rfl, hkept, hdropped⟩ := List.map_eq_append_iff.mp hcut
  refine ⟨kept, dropped, rfl, ?_, ?_⟩
  · rw [fitLines, hdrop, List.reverse_append, ← List.map_reverse, ← hdropped, ← hkept, List.map_map]
    rfl
  · rw [hkept, secondCount_reverse, hcount, secondCount_reverse]

theorem secondCount_cut (n : Nat) (ls : List Line) :
    secondCount (ls.map (cutLine n)) = (ls.filter fun x => x.second.take n != []).length := by
  rw [secondCount, List.filter_map, List.length_map]
  refine congrArg List.length (List.filter_congr fun x _ => ?_)
  rw [Function.comp_apply, cutLine_second]
  cases x.second.take n <;> rfl

/-- The lines of a card are fitted as R132 says. -/
theorem fitLines_fitted (cap : Capability) (ls : List Line) : linesFitted cap ls (fitLines cap ls) := by
  obtain ⟨kept, dropped, hls, hfit, hcount⟩ := fitLines_split cap ls
  have hline : ∀ (i : Nat) (x y : Line), ls[i]? = some x → (fitLines cap ls)[i]? = some y →
      if i < kept.length then y = cutLine cap.capacity x else y = (cutLine cap.capacity x).dropSecond := by
    intro i x y hx hy
    rw [hfit] at hy
    rw [hls] at hx
    split
    · rename_i hi
      rw [List.getElem?_append_left (by simpa using hi), List.getElem?_map] at hy
      rw [List.getElem?_append_left hi] at hx
      rw [hx] at hy
      exact (Option.some.inj hy).symm
    · rename_i hi
      rw [List.getElem?_append_right (by simpa using hi), List.getElem?_map, List.length_map] at hy
      rw [List.getElem?_append_right (Nat.not_lt.mp hi)] at hx
      rw [hx] at hy
      exact (Option.some.inj hy).symm
  have hlen : (fitLines cap ls).length = ls.length := by rw [hfit, hls]; simp
  refine ⟨hlen, fun i x y hx hy => ?_, fun i j x y z hij hx hy hz hne => ?_, ?_⟩
  · have h := hline i x y hx hy
    split at h
    · rw [h, cutLine_second]
      exact ⟨cutLine_eq .., .inl rfl⟩
    · rw [h, dropSecond_second]
      refine ⟨?_, .inr rfl⟩
      rw [cutLine_eq, withTexts_dropSecond]
  · have h := hline i x y hx hy
    split at h
    · rw [h, cutLine_second] at hne
      exact absurd rfl hne
    · rename_i hi
      have hjl : j < ls.length := hlen ▸ (List.getElem?_eq_some_iff.mp hz).1
      have hz' := hline j ls[j] z (List.getElem?_eq_getElem hjl) hz
      rw [if_neg (by omega)] at hz'
      rw [hz', dropSecond_second]
  · have hsum : secondCount (fitLines cap ls) = secondCount (kept.map (cutLine cap.capacity)) := by
      have hmap : dropped.map (fun x => (cutLine cap.capacity x).dropSecond) = (dropped.map (cutLine cap.capacity)).map
        Line.dropSecond := by
        rw [List.map_map]
        rfl
      rw [hfit, secondCount_append, hmap, secondCount_dropped, Nat.add_zero]
    rw [lineTotal_eq (ls.map _), List.length_map, secondCount_cut cap.capacity ls] at hcount
    rw [lineTotal_eq, hlen, hsum, hcount]
    dsimp only
    omega

theorem linesFitted.total_le {cap : Capability} {ls ms : List Line} (h : linesFitted cap ls ms) :
    lineTotal ms ≤ max cap.lines ms.length := by
  obtain ⟨hlen, -, -, htotal⟩ := h
  rw [htotal, hlen]
  omega

end Sys2Proof.Machine
end

section
/-! PROOFS. The notice a record shows, and the content class (R122, R133, R137). -/

namespace Sys2Proof.Machine

/-! ## The order of notices (R137) -/

/-- The first two keys as numbers; the third is `postedRank`. -/
def originRank (n : Notice) : Nat := if n.origin = .safety then 1 else 0

theorem before_iff (a b : Notice) : a.before b = true ↔ b.urgent.toNat < a.urgent.toNat ∨ (a.urgent.toNat = b.urgent.toNat ∧
    (originRank b < originRank a ∨ (originRank a = originRank b ∧ postedRank b < postedRank a))) := by
  unfold Notice.before originRank
  cases a.urgent <;> cases b.urgent <;> cases a.origin <;> cases b.origin <;> simp

theorem posted_later (a b : Notice) : (∃ x, a.posted = some x ∧ ∀ y, b.posted = some y → y < x) ↔ postedRank b < postedRank a := by
  unfold postedRank
  cases a.posted <;> cases b.posted <;> simp

theorem posted_eq (a b : Notice) : a.posted = b.posted ↔ postedRank a = postedRank b := by
  unfold postedRank
  cases a.posted <;> cases b.posted <;> simp

theorem noticeFirst_iff (i : Nat) (a : Notice) (j : Nat) (b : Notice) : noticeFirst i a j b ↔
    b.urgent.toNat < a.urgent.toNat ∨ (a.urgent.toNat = b.urgent.toNat ∧
      (originRank b < originRank a ∨ (originRank a = originRank b ∧
      (postedRank b < postedRank a ∨ (postedRank a = postedRank b ∧ i < j))))) := by
  unfold noticeFirst originRank
  dsimp only
  rw [posted_later, posted_eq]
  cases a.urgent <;> cases b.urgent <;> cases a.origin <;> cases b.origin <;> simp

theorem noticeFirst_asymm {i j : Nat} {a b : Notice} (h : noticeFirst i a j b) : ¬ noticeFirst j b i a := by
  rw [noticeFirst_iff] at *
  omega

/-- The notice a search over the slots of `l` shows among those `p` accepts. -/
def shownAmong (l : Table Notice) (p : Notice → Bool) : Option Notice → Prop
  | none => ∀ x ∈ l, p x.2 = false
  | some n => ∃ i, (i, n) ∈ l ∧ p n = true ∧ ∀ j m, j ≠ i → (j, m) ∈ l → p m = true → noticeFirst i n j m

/-- One slot of the search. -/
def betterNotice (p : Notice → Bool) (best : Option Notice) (x : Nat × Notice) : Option Notice :=
  if p x.2 then
    match best with
    | none => some x.2
    | some b => if x.2.before b then some x.2 else some b
  else best

theorem shownAmong_step {l : Table Notice} {p : Notice → Bool} {best : Option Notice} {k : Nat} {n : Notice}
    (hs : l.Pairwise fun x y => x.1 < y.1)
    (hk : ∀ x ∈ l, x.1 < k)
    (h : shownAmong l p best) : shownAmong (l ++ [(k, n)]) p (betterNotice p best (k, n)) := by
  have hmem : ∀ {j : Nat} {m : Notice}, (j, m) ∈ l ++ [(k, n)] → (j, m) ∈ l ∨ (j = k ∧ m = n) := fun hx => by
    simpa using hx
  unfold betterNotice
  dsimp only
  by_cases hp : p n = true
  · rw [if_pos hp]
    cases best with
    | none =>
      refine ⟨k, by simp, hp, fun j m hj hx hm => ?_⟩
      rcases hmem hx with hx | ⟨rfl, -⟩
      · exact absurd hm (by rw [h _ hx]; exact Bool.false_ne_true)
      · exact absurd rfl hj
    | some b =>
      obtain ⟨i, hi, hb, hfirst⟩ := h
      have hik : i < k := hk _ hi
      dsimp only
      split
      · rename_i hbefore
        rw [before_iff] at hbefore
        refine ⟨k, by simp, hp, fun j m hj hx hm => ?_⟩
        rcases hmem hx with hx | ⟨rfl, -⟩
        · by_cases hji : j = i
          · cases List.inj_on_of_nodup_map (f := Prod.fst) (List.pairwise_map.mpr (hs.imp Nat.ne_of_lt)) hx hi hji
            rw [noticeFirst_iff]
            omega
          · have h := hfirst j m hji hx hm
            rw [noticeFirst_iff] at h ⊢
            omega
        · exact absurd rfl hj
      · rename_i hbefore
        rw [before_iff] at hbefore
        refine ⟨i, List.mem_append_left _ hi, hb, fun j m hj hx hm => ?_⟩
        rcases hmem hx with hx | ⟨rfl, rfl⟩
        · exact hfirst j m hj hx hm
        · rw [noticeFirst_iff]
          omega
  · rw [if_neg hp]
    cases best with
    | none =>
      intro x hx
      rcases hmem (j := x.1) (m := x.2) hx with hx | ⟨-, hn⟩
      · exact h x hx
      · rw [hn]
        exact Bool.eq_false_of_not_eq_true hp
    | some b =>
      obtain ⟨i, hi, hb, hfirst⟩ := h
      refine ⟨i, List.mem_append_left _ hi, hb, fun j m hj hx hm => ?_⟩
      rcases hmem hx with hx | ⟨-, rfl⟩
      · exact hfirst j m hj hx hm
      · exact absurd hm hp

theorem shownAmong_foldl {l : Table Notice} (p : Notice → Bool) (hs : l.Pairwise fun x y => x.1 < y.1) :
    shownAmong l p (l.foldl (betterNotice p) none) := by
  induction l using List.reverseRecOn with
  | nil => exact fun x hx => nomatch hx
  | append_singleton l x ih =>
    obtain ⟨hl, -, hlt⟩ := List.pairwise_append.mp hs
    rw [List.foldl_append]
    exact shownAmong_step hl (fun y hy => hlt y hy x List.mem_cons_self) (ih hl)

section
variable (s : State) (d : Display)

theorem shownNotice_eq : s.shownNotice d = s.resolver.notices.foldl (betterNotice fun n => s.targets n.target d) none := rfl

/-- The notice shown is the first by the four keys of those that target the record. -/
theorem shownNotice_iff (hw : Table.wf s.resolver.notices = true) (n : Notice) : s.shownNotice d = some n ↔
    ∃ i, Table.get s.resolver.notices i = some n ∧ s.targets n.target d = true ∧
      ∀ j m, j ≠ i → Table.get s.resolver.notices j = some m → s.targets m.target d = true → noticeFirst i n j m := by
  have hmem : ∀ i m, Table.get s.resolver.notices i = some m ↔ (i, m) ∈ s.resolver.notices := fun i m =>
    ⟨Table.mem_of_get, Table.get_of_mem hw⟩
  have h := shownAmong_foldl (fun n => s.targets n.target d) (Table.pairwise_of_wf hw)
  rw [← shownNotice_eq] at h
  simp only [hmem]
  constructor
  · intro hn
    rw [hn] at h
    exact h
  · rintro ⟨i, hi, ht, hfirst⟩
    cases hs : s.shownNotice d with
    | none =>
      rw [hs] at h
      exact absurd ht (Bool.eq_false_iff.mp (h _ hi))
    | some m =>
      rw [hs] at h
      obtain ⟨j, hj, hm, hfirst'⟩ := h
      by_cases hji : j = i
      · subst hji
        rw [← hmem] at hi hj
        rw [← hi, hj]
      · exact absurd (hfirst' i n (Ne.symm hji) hi ht) (noticeFirst_asymm (hfirst j m hji hj hm))

/-- A notice is shown exactly when one targets the record, whatever the slots are. -/
theorem shownNotice_eq_none : s.shownNotice d = none ↔ ∀ x ∈ s.resolver.notices, s.targets x.2.target d = false := by
  rw [shownNotice_eq]
  generalize s.resolver.notices = l
  induction l using List.reverseRecOn with
  | nil => exact ⟨fun _ x hx => (nomatch hx), fun _ => rfl⟩
  | append_singleton l x ih =>
    rw [List.foldl_append, List.foldl_cons, List.foldl_nil]
    unfold betterNotice
    constructor
    · intro h
      split at h
      · split at h
        · cases h
        · split at h <;> cases h
      · rename_i hx
        intro y hy
        rcases List.mem_append.mp hy with hy | hy
        · exact ih.mp h y hy
        · rw [List.mem_singleton.mp hy]
          exact Bool.eq_false_of_not_eq_true hx
    · intro h
      rw [if_neg (Bool.eq_false_iff.mp (h x (by simp)))]
      exact ih.mpr fun y hy => h y (List.mem_append_left _ hy)

end

end Sys2Proof.Machine
end

section
/-! PROOFS. Classes, standings, targets and drafts (R84, R98, R121 to R133). -/

namespace Sys2Proof.Machine

/-! ## Texts (R84, R132) -/

section
variable (s : State)

theorem lookupText_eq (id lang : Nat) : lookupText s.prog.texts id lang = s.found id lang := by
  unfold lookupText State.found
  cases Table.get s.prog.texts (textKey id lang) <;> rfl

theorem secondText_eq (first other : Option Text) : secondText first other = if other = first then [] else other.getD [] := by
  unfold secondText
  cases other with
  | none => exact (ite_self _).symm
  | some t => exact if_congr eq_comm rfl rfl

theorem textPair_eq (id lang : Nat) (second : Option Nat) : s.textPair id lang second = s.rendered id lang second := by
  unfold State.textPair State.rendered
  dsimp only
  rw [lookupText_eq, ← secondText_eq]
  cases second with
  | none => rfl
  | some l => exact congrArg (fun x => (_, secondText _ x)) (lookupText_eq ..)

/-- The title of an event and its secondary rendering on corridor and venue cards (R84, log 16). -/
def State.titled (e : Event) : Text × Text :=
  match e.titles.get s.prog.primary, e.titles.get 0 with
  | some id, _ => s.rendered id s.prog.primary s.secondLanguage
  | none, some id => s.rendered id 0 s.secondLanguage
  | none, none => ([], [])

/-- The text ids a title is looked up by. -/
def State.titleLooked (e : Event) : List Nat := ((e.titles.get s.prog.primary).or (e.titles.get 0)).toList

theorem titlePair_eq (e : Event) : s.titlePair e s.prog.primary s.secondLanguage = s.titled e := by
  have hpair : ∀ id lang, ((lookupText s.prog.texts id lang).getD [], match s.secondLanguage with
      | none => []
      | some l => secondText (lookupText s.prog.texts id lang) (lookupText s.prog.texts id l)) =
      s.rendered id lang s.secondLanguage := fun id lang => (textPair_eq s id lang s.secondLanguage)
  unfold State.titlePair State.titled lookupTitle titleStart
  cases e.titles.get s.prog.primary with
  | some id =>
    dsimp only
    rw [← hpair]
    cases s.secondLanguage <;> rfl
  | none =>
    cases e.titles.get 0 with
    | some id =>
      dsimp only [Option.map_some]
      rw [← hpair]
      cases s.secondLanguage <;> rfl
    | none => rfl

theorem titleIds_eq (e : Event) : titleIds e s.prog.primary = s.titleLooked e := by
  unfold titleIds titleStart State.titleLooked
  cases e.titles.get s.prog.primary with
  | some id => rfl
  | none => cases e.titles.get 0 <;> rfl

end

/-! ## Standing, targets and stations (R98, R122, R133) -/

section
variable (s : State) (d : Display)

theorem standing_iff (p : Nat) (pl : Placement) : s.standing d = some (p, pl) ↔
    (d.state = .placed p ∨ ∃ c, d.state = .held (some p) c) ∧ Table.get s.activePlan.placements p = some pl := by
  have hbound : d.state.bound = some p ↔ d.state = .placed p ∨ ∃ c, d.state = .held (some p) c := by
    cases d.state <;> simp [RecState.bound]
  rw [← hbound]
  unfold State.standing
  cases d.state.bound with
  | none => simp
  | some q =>
    simp only [Option.map_eq_some_iff, Prod.mk.injEq, Option.some.injEq]
    constructor
    · rintro ⟨x, hx, rfl, rfl⟩
      exact ⟨rfl, hx⟩
    · rintro ⟨rfl, hx⟩
      exact ⟨pl, hx, rfl, rfl⟩

theorem targets_placement (p : Nat) : s.targets (.placement p) d = true ↔ ∃ pl, s.standing d = some (p, pl) := by
  unfold State.targets
  dsimp only
  cases s.standing d with
  | none => simp
  | some x =>
    obtain ⟨q, pl⟩ := x
    simp

theorem targets_cabin (n : Nat) : s.targets (.cabin n) d = true ↔ ∃ p pl c x,
    s.standing d = some (p, pl) ∧ pl.role = .door c ∧ Table.get s.activePlan.cabins c = some x ∧ x.number = n := by
  unfold State.targets
  dsimp only
  cases s.standing d with
  | none => simp
  | some x =>
    obtain ⟨q, pl⟩ := x
    dsimp only
    cases hr : pl.role with
    | door c => simp [Option.any_eq_true, hr]
    | _ => simp [hr]

theorem targets_zone (z : Nat) : s.targets (.zone z) d = true ↔ ∃ p pl x,
    s.standing d = some (p, pl) ∧ Table.get s.activePlan.nodes pl.node = some x ∧ x.zone = z := by
  unfold State.targets
  dsimp only
  cases s.standing d with
  | none => simp
  | some x =>
    obtain ⟨q, pl⟩ := x
    simp [placementZone]

theorem placementStation_eq (pl : Placement) : s.placementStation pl = match pl.role with
    | .door c => (s.cabin c).stationOverride.or ((Table.get s.activePlan.cabins c).map (·.station))
    | _ => (Table.get s.activePlan.nodes pl.node).bind fun x =>
      (Table.get s.muster.zoneOverrides x.zone).or ((Table.get s.activePlan.zones x.zone).map (·.station)) := by
  unfold State.placementStation
  cases pl.role with
  | door c =>
    dsimp only
    unfold cabinStation State.cabin
    cases ((Table.get s.muster.cabins c).getD CabinState.initial).stationOverride <;> rfl
  | _ =>
    dsimp only
    unfold placementZone zoneStation
    cases Table.get s.activePlan.nodes pl.node with
    | none => rfl
    | some x =>
      dsimp only [Option.map_some, Option.bind_some]
      cases Table.get s.muster.zoneOverrides x.zone <;> rfl

/-! ## The class (R122) -/

theorem isSafety_iff (m : MusterState) : m.isSafety = true ↔ m ≠ .quiet := by cases m <;> simp [MusterState.isSafety]

theorem draft_safety (h : s.muster.state ≠ .quiet) : s.draft d = (.safety, ⟨match s.standing d with
    | some (_, pl) => s.safetyCard pl
    | none => s.genericSafetyCard, []⟩) := if_pos ((isSafety_iff _).mpr h)

section
variable {s d} (hq : s.muster.state = .quiet)
include hq

theorem draft_quiet : s.draft d = match s.shownNotice d with
    | some n => (.notice, s.noticeDraft (s.roleOf d) n)
    | none => match (s.standing d).bind fun y => s.dutyDraft y.2 with
      | some c => (.duty, c)
      | none => (.parked, s.parkedDraft (s.standing d)) := by
  unfold State.draft
  dsimp only
  rw [if_neg fun h => (isSafety_iff _).mp h hq] <;> rfl

theorem draft_notice {n : Notice} (hn : s.shownNotice d = some n) : s.draft d = (.notice, s.noticeDraft (s.roleOf d) n) := by
  rw [draft_quiet hq, hn]

theorem draft_duty (hn : s.shownNotice d = none) {p : Nat} {pl : Placement} (hs : s.standing d = some (p, pl)) {c : Draft}
    (hc : s.dutyDraft pl = some c) : s.draft d = (.duty, c) := by
  rw [draft_quiet hq, hn, hs, Option.bind_some, hc]

theorem draft_parked (hn : s.shownNotice d = none) (hd : ∀ p pl, s.standing d = some (p, pl) → s.dutyDraft pl = none) :
    s.draft d = (.parked, s.parkedDraft (s.standing d)) := by
  have hnone : ((s.standing d).bind fun y => s.dutyDraft y.2) = none := by
    cases hs : s.standing d with
    | none => rfl
    | some x => exact hd x.1 x.2 hs
  rw [draft_quiet hq, hn, hnone]

end

/-- The class of a record by state, notice and duty. -/
theorem classOf_cases : (s.muster.state ≠ .quiet ∧ s.classOf d = .safety) ∨ (s.muster.state = .quiet ∧
    (((∃ n, s.shownNotice d = some n) ∧ s.classOf d = .notice) ∨ (s.shownNotice d = none ∧
      (((∃ p pl y, s.standing d = some (p, pl) ∧ s.dutyDraft pl = some y) ∧ s.classOf d = .duty) ∨
       ((¬ ∃ p pl y, s.standing d = some (p, pl) ∧ s.dutyDraft pl = some y) ∧ s.classOf d = .parked))))) := by
  unfold State.classOf
  by_cases hq : s.muster.state = .quiet
  · refine .inr ⟨hq, ?_⟩
    cases hn : s.shownNotice d with
    | some n => exact .inl ⟨⟨n, rfl⟩, by rw [draft_notice hq hn]⟩
    | none =>
      refine .inr ⟨rfl, ?_⟩
      by_cases hd : ∃ p pl y, s.standing d = some (p, pl) ∧ s.dutyDraft pl = some y
      · obtain ⟨p, pl, y, hs, hy⟩ := hd
        exact .inl ⟨⟨p, pl, y, hs, hy⟩, by rw [draft_duty hq hn hs hy]⟩
      · refine .inr ⟨hd, ?_⟩
        rw [draft_parked hq hn fun p pl hs => Option.eq_none_iff_forall_ne_some.mpr fun y hy => hd ⟨p, pl, y, hs, hy⟩]
  · exact .inl ⟨hq, by rw [draft_safety s d hq]⟩

end

end Sys2Proof.Machine
end

section
/-! PROOFS. The card of each kind, and O43 (R123 to R132). -/

namespace Sys2Proof.Machine

section
variable (s : State)

/-! ## Badges, labels and languages -/

theorem venueLabel_eq (plan : Plan) (v : Nat) : venueLabel plan v = ((Table.get plan.venues v).map (·.label)).getD [] := by
  unfold venueLabel
  cases Table.get plan.venues v <;> rfl

theorem venueBadge_eq (plan : Plan) (v : Nat) :
    venueBadge plan v = ((Table.get plan.venues v).map fun x => Badge.venue x.label).getD .none := by
  unfold venueBadge
  cases Table.get plan.venues v <;> rfl

theorem cabinBadge_eq (plan : Plan) (c : Nat) :
    cabinBadge plan c = ((Table.get plan.cabins c).map fun x => Badge.cabin x.number).getD .none := by
  unfold cabinBadge
  cases Table.get plan.cabins c <;> rfl

/-- The badge of a role (R131, R137). -/
def State.badgeOf (r : Option Role) : Badge :=
  match r with
  | some (.door c) => ((Table.get s.activePlan.cabins c).map fun x => Badge.cabin x.number).getD .none
  | some (.venue v) => ((Table.get s.activePlan.venues v).map fun x => Badge.venue x.label).getD .none
  | _ => .none

theorem roleBadge_eq (r : Option Role) : roleBadge s.activePlan r = s.badgeOf r := by
  cases r with
  | none => rfl
  | some r =>
    cases r with
    | door c => exact cabinBadge_eq ..
    | venue v => exact venueBadge_eq ..
    | corridor vs => rfl

/-! ## Drafts in the words of their rules -/

theorem safetyCard_standdown {q : StandPhase} (h : s.muster.state = .standdown q) (pl : Placement) : s.safetyCard pl =
    { kind := .standdown, primary := (s.cardLanguages (some pl.role)).1, secondary := (s.cardLanguages (some pl.role)).2,
      badge := .none, lines := [.message .allClear], marks := s.drillMarks, phase := none } := by
  unfold State.safetyCard
  rw [h]

theorem stationBadge_eq {pl : Placement} {st : Nat} {x : Station} (hp : s.placementStation pl = some st)
    (hx : Table.get s.activePlan.stations st = some x) : s.stationBadge pl = .station x.label := by
  unfold State.stationBadge stationLabel
  rw [hp]
  dsimp only
  rw [hx]

theorem stationLine_eq {pl : Placement} {st : Nat} (hp : s.placementStation pl = some st) :
    s.stationLine pl = .route (routeLookup s pl .station st) := by
  unfold State.stationLine
  rw [hp]

theorem instructionLines_eq {pl : Placement} {st : Nat} (hp : s.placementStation pl = some st) : s.instructionLines pl =
    (Table.get s.resolver.instructions st).toList.map fun i => Line.message (.instruction i) := by
  unfold State.instructionLines
  rw [hp]

theorem safetyCard_alert {pl : Placement} {st : Nat} {x : Station} (h : s.muster.state = .alert)
    (hp : s.placementStation pl = some st)
    (hx : Table.get s.activePlan.stations st = some x) : s.safetyCard pl =
    { kind := .alert, primary := (s.cardLanguages (some pl.role)).1, secondary := (s.cardLanguages (some pl.role)).2,
      badge := .station x.label, lines := [.route (routeLookup s pl .station st), .message .standBy], marks := s.drillMarks,
      phase := none } := by
  unfold State.safetyCard
  rw [h, stationBadge_eq s hp hx, stationLine_eq s hp]

theorem safetyCard_muster {pl : Placement} {st : Nat} {x : Station} (h : s.muster.state = .muster)
    (hp : s.placementStation pl = some st)
    (hx : Table.get s.activePlan.stations st = some x) : s.safetyCard pl =
    { kind := .muster, primary := (s.cardLanguages (some pl.role)).1, secondary := (s.cardLanguages (some pl.role)).2,
      badge := .station x.label
      lines := .route (routeLookup s pl .station st) ::
        (Table.get s.resolver.instructions st).toList.map fun i => Line.message (.instruction i)
      marks := s.musterMarks pl.role, phase := none } := by
  unfold State.safetyCard
  rw [h, stationBadge_eq s hp hx, stationLine_eq s hp, instructionLines_eq s hp]

theorem cabinDraft_eq (c : Nat) : s.cabinDraft c = if (s.cabin c).aboard = .count 0 then none else some
    { card :=
        { kind := .cabin, primary := (s.cabin c).language, secondary := none, badge := s.badgeOf (some (.door c))
          lines := (s.cabin c).name.toList.map fun id => .name (s.rendered id (s.cabin c).language none).1 []
          marks := { Marks.clear with dnd := (s.cabin c).dnd, service := (s.cabin c).service }, phase := none }
      looked := (s.cabin c).name.toList } := by
  unfold State.cabinDraft
  simp only [textPair_eq, cabinBadge_eq]
  refine if_congr ?_ rfl rfl
  rw [Bool.not_eq_true', ← Bool.not_eq_true, occupied_iff, not_not]

/-- The next event on board, as a list. -/
def State.boarding : List Event := (s.prog.onBoard.bind (Table.get s.prog.events)).toList

/-- The line of the next event on board (R124, R129). -/
def State.boardLine (pl : Placement) (e : Event) : Line :=
  .onBoard e.category e.moved (s.localTime e.start) (routeLookup s pl .venue e.venue)
    (((Table.get s.activePlan.venues e.venue).map (·.label)).getD [] ++ [0x0020#16] ++ (s.titled e).1) (s.titled e).2

theorem onBoardDraft_eq (pl : Placement) :
    (s.onBoardDraft pl).toList = s.boarding.map fun e => (s.boardLine pl e, s.titleLooked e) := by
  unfold State.onBoardDraft State.boarding
  cases s.prog.onBoard.bind (Table.get s.prog.events) with
  | none => rfl
  | some e =>
    simp only [titlePair_eq, titleIds_eq, venueLabel_eq]
    rfl

theorem wayfindDraft_eq (pl : Placement) (vs : List Nat) : s.wayfindDraft pl vs = if vs = [] ∧ s.boarding = [] then none else some
    { card :=
        { kind := .wayfind, primary := s.prog.primary, secondary := s.secondLanguage, badge := .none
          lines := vs.map (fun v => .sign (routeLookup s pl .venue v)
            (((Table.get s.activePlan.venues v).map (·.label)).getD [])) ++
            s.boarding.map (s.boardLine pl)
          marks := Marks.clear, phase := none }
      looked := s.boarding.flatMap s.titleLooked } := by
  unfold State.wayfindDraft
  simp only [venueLabel_eq, onBoardDraft_eq, List.map_map, List.flatMap_map]
  refine if_congr ?_ rfl rfl
  simp

/-- The events a venue's card shows. -/
def State.eventsOf (x : Option Nat) : List Event := (x.bind (Table.get s.prog.events)).toList

theorem venueDraft_eq (v : Nat) : s.venueDraft v =
    if s.eventsOf (s.choice v).now = [] ∧ s.eventsOf (s.choice v).next = [] then none else some
    { card :=
        { kind := .venue, primary := s.prog.primary, secondary := s.secondLanguage, badge := s.badgeOf (some (.venue v))
          lines := (s.eventsOf (s.choice v).now).map (fun e =>
              .now e.category (s.localTime e.start) (s.localTime e.stop) (s.titled e).1 (s.titled e).2) ++
            (s.eventsOf (s.choice v).next).map fun e =>
              .next e.category e.moved (s.localTime e.start) (s.titled e).1 (s.titled e).2
          marks := Marks.clear, phase := none }
      looked := (s.eventsOf (s.choice v).now ++ s.eventsOf (s.choice v).next).flatMap s.titleLooked } := by
  unfold State.venueDraft
  simp only [titlePair_eq, titleIds_eq, venueBadge_eq]
  refine if_congr ?_ rfl rfl
  simp [State.eventsOf]

theorem noticeDraft_eq (role : Option Role) (n : Notice) : s.noticeDraft role n =
    { card :=
        { kind := .notice, primary := (s.cardLanguages role).1, secondary := (s.cardLanguages role).2, badge := s.badgeOf role
          lines := [.notice (s.rendered n.text (s.cardLanguages role).1 (s.cardLanguages role).2).1
            (s.rendered n.text (s.cardLanguages role).1 (s.cardLanguages role).2).2]
          marks := { Marks.clear with urgent := n.urgent }, phase := none }
      looked := [n.text] } := by
  unfold State.noticeDraft
  simp only [textPair_eq, roleBadge_eq]

/-- The welcome line of a parked card (R131). -/
def welcomeLines (r : Role) : List Line :=
  match r with
  | .door _ => []
  | _ => [.message .welcome]

theorem parkedDraft_eq (p : Nat) (pl : Placement) : s.parkedDraft (some (p, pl)) =
    { card :=
        { kind := .parked, primary := (s.cardLanguages (some pl.role)).1, secondary := (s.cardLanguages (some pl.role)).2
          badge := s.badgeOf (some pl.role)
          lines := welcomeLines pl.role ++ (Table.get s.resolver.parked p).toList.map fun id =>
            .parked (s.rendered id (s.cardLanguages (some pl.role)).1 (s.cardLanguages (some pl.role)).2).1
              (s.rendered id (s.cardLanguages (some pl.role)).1 (s.cardLanguages (some pl.role)).2).2
          marks := Marks.clear, phase := none }
      looked := (Table.get s.resolver.parked p).toList } := by
  unfold State.parkedDraft
  simp only [textPair_eq, roleBadge_eq] <;> rfl

/-! ## Composed cards -/

/-- A composed card is its draft with the lines fitted. -/
theorem compose_shows {d : Display} {cls : ContentClass} {x : Draft} (h : s.draft d = (cls, x)) :
    cardIs d.cap x.card.kind (x.card.primary, x.card.secondary) x.card.badge x.card.marks x.card.phase x.card.lines
      (s.compose d).2.1 ∧
      (s.compose d).2.2 = x.looked := by
  unfold State.compose
  rw [h]
  exact ⟨⟨rfl, fitLines_fitted ..⟩, rfl⟩

end

end Sys2Proof.Machine
end

section
/-! PROOFS. O43: the content class, the notice shown and the card of each kind. -/

namespace Sys2Proof.Machine

section
variable {s : State} {d : Display}

/-! ## The class -/

theorem classOf_safety_iff : s.classOf d = .safety ↔ s.muster.state ≠ .quiet := by
  rcases classOf_cases s d with ⟨hq, hc⟩ | ⟨hq, ⟨-, hc⟩ | ⟨-, ⟨-, hc⟩ | ⟨-, hc⟩⟩⟩ <;> simp [hq, hc]

theorem classOf_notice_iff : s.classOf d = .notice ↔ s.muster.state = .quiet ∧ ∃ x ∈ s.resolver.notices,
    s.targets x.2.target d = true := by
  have hnone : s.shownNotice d = none ↔ ¬ ∃ x ∈ s.resolver.notices, s.targets x.2.target d = true := by
    rw [shownNotice_eq_none]
    simp
  rcases classOf_cases s d with ⟨hq, hc⟩ | ⟨hq, ⟨⟨n, hn⟩, hc⟩ | ⟨hn, ⟨-, hc⟩ | ⟨-, hc⟩⟩⟩
  · simp [hq, hc]
  · exact iff_of_true hc ⟨hq, not_not.mp fun h => nomatch hn.symm.trans (hnone.mpr h)⟩
  · exact iff_of_false (by rw [hc]; nofun) fun h => hnone.mp hn h.2
  · exact iff_of_false (by rw [hc]; nofun) fun h => hnone.mp hn h.2

theorem classOf_duty_iff : s.classOf d = .duty ↔ s.muster.state = .quiet ∧
    (∀ x ∈ s.resolver.notices, s.targets x.2.target d = false) ∧
    ∃ p pl y, s.standing d = some (p, pl) ∧ s.dutyDraft pl = some y := by
  rw [← shownNotice_eq_none]
  rcases classOf_cases s d with ⟨hq, hc⟩ | ⟨hq, ⟨⟨n, hn⟩, hc⟩ | ⟨hn, ⟨hd, hc⟩ | ⟨hd, hc⟩⟩⟩
  · simp [hq, hc]
  · simp [hn, hc]
  · exact iff_of_true hc ⟨hq, hn, hd⟩
  · exact iff_of_false (by rw [hc]; nofun) fun h => hd h.2.2

/-! ## Cards in QUIET -/

/-- The composed card has these fields, with the lines fitted, and these text ids were looked up. -/
def cardShown (s : State) (d : Display) (kind : CardKind) (ls : Nat × Option Nat) (b : Badge) (m : Marks) (lines : List Line)
    (ids : List Nat) : Prop :=
  cardIs d.cap kind ls b m none lines (s.compose d).2.1 ∧ (s.compose d).2.2 = ids

/-- The parked card of a placement (R131). -/
def parkedShown (s : State) (d : Display) (p : Nat) (r : Role) : Prop :=
  let ls := s.cardLanguages (some r)
  let ids := (Table.get s.resolver.parked p).toList
  cardShown s d .parked ls (s.badgeOf (some r)) Marks.clear
    (welcomeLines r ++ ids.map fun id => .parked (s.rendered id ls.1 ls.2).1 (s.rendered id ls.1 ls.2).2) ids

section
variable (hq : s.muster.state = .quiet) (hn : s.shownNotice d = none) {p : Nat} {pl : Placement} (hs : s.standing d = some (p, pl))
include hq hn hs

theorem parked_shown (hd : s.dutyDraft pl = none) : parkedShown s d p pl.role := by
  have hdraft := draft_parked hq hn fun p' pl' hs' => by
    cases hs.symm.trans hs'
    exact hd
  rw [hs, parkedDraft_eq] at hdraft
  exact compose_shows s hdraft

theorem cabin_shown {c : Nat} (hr : pl.role = .door c) : if (s.cabin c).aboard = .count 0 then parkedShown s d p (.door c) else
    cardShown s d .cabin (s.cardLanguages (some (.door c))) (s.badgeOf (some (.door c)))
      { Marks.clear with dnd := (s.cabin c).dnd, service := (s.cabin c).service }
      ((s.cabin c).name.toList.map fun id => .name (s.rendered id (s.cabin c).language none).1 []) (s.cabin c).name.toList := by
  have hduty : s.dutyDraft pl = s.cabinDraft c := by rw [State.dutyDraft, hr]
  rw [cabinDraft_eq] at hduty
  split
  · rename_i ha
    rw [← hr]
    exact parked_shown hq hn hs (by rw [hduty, if_pos ha])
  · rename_i ha
    exact compose_shows s (draft_duty hq hn hs (by rw [hduty, if_neg ha]))

theorem wayfind_shown {vs : List Nat} (hr : pl.role = .corridor vs) :
    if vs = [] ∧ s.boarding = [] then parkedShown s d p (.corridor vs) else
    cardShown s d .wayfind (s.cardLanguages (some (.corridor vs))) .none Marks.clear
      (vs.map (fun v => .sign (routeLookup s pl .venue v) (((Table.get s.activePlan.venues v).map (·.label)).getD [])) ++
        s.boarding.map (s.boardLine pl))
      (s.boarding.flatMap s.titleLooked) := by
  have hduty : s.dutyDraft pl = s.wayfindDraft pl vs := by rw [State.dutyDraft, hr]
  rw [wayfindDraft_eq] at hduty
  split
  · rename_i ha
    rw [← hr]
    exact parked_shown hq hn hs (by rw [hduty, if_pos ha])
  · rename_i ha
    exact compose_shows s (draft_duty hq hn hs (by rw [hduty, if_neg ha]))

theorem venue_shown {v : Nat} (hr : pl.role = .venue v) :
    if s.eventsOf (s.choice v).now = [] ∧ s.eventsOf (s.choice v).next = [] then parkedShown s d p (.venue v) else
    cardShown s d .venue (s.cardLanguages (some (.venue v))) (s.badgeOf (some (.venue v))) Marks.clear
      ((s.eventsOf (s.choice v).now).map (fun e =>
          .now e.category (s.localTime e.start) (s.localTime e.stop) (s.titled e).1 (s.titled e).2) ++
        (s.eventsOf (s.choice v).next).map fun e =>
          .next e.category e.moved (s.localTime e.start) (s.titled e).1 (s.titled e).2)
      ((s.eventsOf (s.choice v).now ++ s.eventsOf (s.choice v).next).flatMap s.titleLooked) := by
  have hduty : s.dutyDraft pl = s.venueDraft v := by rw [State.dutyDraft, hr]
  rw [venueDraft_eq] at hduty
  split
  · rename_i ha
    rw [← hr]
    exact parked_shown hq hn hs (by rw [hduty, if_pos ha])
  · rename_i ha
    exact compose_shows s (draft_duty hq hn hs (by rw [hduty, if_neg ha]))

end

/-! ## Safety cards -/

theorem safety_shown (h : s.muster.state ≠ .quiet) {p : Nat} {pl : Placement} (hs : s.standing d = some (p, pl)) {c : Card}
    (hc : s.safetyCard pl = c) (hphase : c.phase = none) :
    cardShown s d c.kind (c.primary, c.secondary) c.badge c.marks c.lines [] := by
  have hdraft := draft_safety s d h
  rw [hs] at hdraft
  dsimp only at hdraft
  rw [hc] at hdraft
  have hshow := compose_shows s hdraft
  rw [hphase] at hshow
  exact hshow

end

/-- Settles O43: the class follows state, notice and duty, and the card is the draft of its kind with its lines fitted. -/
theorem classFollowsStateNoticeAndDuty : Obligations.ClassFollowsStateNoticeAndDuty := by
  unfold Obligations.ClassFollowsStateNoticeAndDuty
  refine ⟨fun s d hf => ⟨classOf_safety_iff, classOf_notice_iff, classOf_duty_iff, standing_iff s d, bne_iff_ne.mpr hf,
    targets_placement s d, targets_cabin s d, targets_zone s d, fun hw => shownNotice_iff s d hw, (fitLines_fitted ..).total_le⟩,
    placementStation_eq, fun s d hf => ⟨fun hm hs => ?_, fun p pl hs =>
      ⟨fun q hm => ?_, fun st x hp hx => ⟨fun hm => ?_, fun hm => ?_⟩⟩,
      fun hq => ⟨fun n hn => ?_, fun hn => ⟨fun hs => ?_, fun p pl hs => ?_⟩⟩⟩⟩
  · have hdraft := draft_safety s d hm
    rw [hs] at hdraft
    obtain ⟨hcard, hlooked⟩ := compose_shows s hdraft
    exact ⟨hlooked, hcard⟩
  · exact safety_shown (by rw [hm]; nofun) hs (safetyCard_standdown s hm pl) rfl
  · exact safety_shown (by rw [hm]; nofun) hs (safetyCard_alert s hm hp hx) rfl
  · exact safety_shown (by rw [hm]; nofun) hs (safetyCard_muster s hm hp hx) rfl
  · have hdraft := draft_notice hq hn
    rw [noticeDraft_eq] at hdraft
    exact compose_shows s hdraft
  · have hdraft := draft_parked (d := d) hq hn fun p pl h => nomatch hs.symm.trans h
    rw [hs] at hdraft
    exact compose_shows s hdraft
  · dsimp only
    cases hr : pl.role with
    | door c => exact cabin_shown hq hn hs hr
    | corridor vs => exact wayfind_shown hq hn hs hr
    | venue v => exact venue_shown hq hn hs hr

end Sys2Proof.Machine
end

section
/-! PROOFS. Sources raised, and records that lose their placement (R17, R22, R196). -/

namespace Sys2Proof.Machine

/-! ## Sources raised at a completion -/

/-- The ports differ in the sources pending alone, none is gone, and ORPHAN_SEEN is as it was. -/
structure RaisedOnly (s t : State) : Prop where
  port : ∀ l, t.port l = { s.port l with pendingSet := (t.port l).pendingSet }
  stays : pendingStays s t
  orphan : .orphanSeen ∈ (t.port .safety).pendingSet ↔ .orphanSeen ∈ (s.port .safety).pendingSet

theorem RaisedOnly.trans {s t u : State} (h : RaisedOnly s t) (h' : RaisedOnly t u) : RaisedOnly s u :=
  ⟨fun l => by rw [h'.port l, h.port l], h.stays.trans h'.stays, h'.orphan.trans h.orphan⟩

theorem RaisedOnly.of_ports {s t : State} (h : t.ports = s.ports) : RaisedOnly s t := by
  have hport : ∀ l, t.port l = s.port l := fun l => by rw [State.port, State.port, h]
  exact ⟨fun l => by rw [hport], .of_ports h, by rw [hport]⟩

theorem raise_port_rest (s : State) (l m : LinkId) (x : Source) :
    (s.raise l x).port m = { s.port m with pendingSet := ((s.raise l x).port m).pendingSet } := by
  by_cases hm : m = l
  · subst hm
    rw [State.raise, State.port_modPort]
  · rw [State.raise, State.port_modPort_ne _ _ _ _ hm]

theorem raise_raisedOnly (s : State) {l : LinkId} {x : Source} (hx : x ≠ .orphanSeen) : RaisedOnly s (s.raise l x) := by
  refine ⟨fun m => raise_port_rest s l m x, raise_pendingStays _ _ _, ?_⟩
  cases l with
  | safety =>
    rw [mem_raise]
    exact ⟨fun h => h.2.resolve_left (Ne.symm hx), fun h => ⟨by decide, .inr h⟩⟩
  | hotel => rw [State.raise, State.port_modPort_ne _ _ _ _ (by decide)]

theorem raiseIf_raisedOnly (s : State) (c : Bool) {l : LinkId} {x : Source} (hx : x ≠ .orphanSeen) :
    RaisedOnly s (s.raiseIf c l x) := by
  cases c with
  | true => exact raise_raisedOnly s hx
  | false => exact .of_ports rfl

theorem retally_raisedOnly (s : State) : RaisedOnly s s.retally := by
  unfold State.retally
  dsimp only
  split
  · exact .of_ports rfl
  · refine .trans (.of_ports ?_) (raiseIf_raisedOnly _ _ (x := .stationClear) (by decide))
    rfl

theorem rebuildStranded_raisedOnly (s : State) : RaisedOnly s s.rebuildStranded := by
  cases hg : s.route.published with
  | none =>
    rw [State.rebuildStranded, hg]
    exact .of_ports rfl
  | some g =>
    rw [rebuildStranded_eq s hg]
    split
    · dsimp only
      split
      · refine .trans (.of_ports ?_) (raise_raisedOnly _ (x := .stranded) (by decide))
        rfl
      · exact .of_ports rfl
    · exact .of_ports rfl

theorem strandedAtStart_raisedOnly (s : State) : RaisedOnly s s.strandedAtStart := by
  unfold State.strandedAtStart
  split
  · exact rebuildStranded_raisedOnly s
  · exact .of_ports rfl

/-- ORPHAN_SEEN is pending exactly when it was or is raised. -/
theorem orphan_raiseIf (s : State) (c : Bool) : .orphanSeen ∈ ((s.raiseIf c .safety .orphanSeen).port .safety).pendingSet ↔
    .orphanSeen ∈ (s.port .safety).pendingSet ∨ c = true := by
  cases c with
  | true =>
    rw [State.raiseIf_true, mem_raise]
    exact iff_of_true ⟨by decide, .inl rfl⟩ (.inr rfl)
  | false => simp

theorem raiseIf_port_rest (s : State) (c : Bool) (l m : LinkId) (x : Source) :
    (s.raiseIf c l x).port m = { s.port m with pendingSet := ((s.raiseIf c l x).port m).pendingSet } := by
  cases c with
  | true => exact raise_port_rest s l m x
  | false => rfl

/-! ## Records rewritten together -/

section
variable {s : State} {f : Nat → Display → Display}

theorem zip_mapVals (t : Table Display) : t.zip (Table.mapVals f t) = t.map fun x => (x, (x.1, f x.1 x.2)) := by
  induction t with
  | nil => rfl
  | cons x t ih => rw [Table.mapVals, List.zip_cons_cons, ih, List.map_cons]

/-- A change of all records together finds what a record of the directory shows. -/
theorem any_rewritten (hw : Table.wf s.dir = true) (q : RecState → RecState → Bool)
    (hq : q (Display.freed none).state (f 0 (Display.freed none)).state = false) (hf : ∀ k d, (f k d).state = (f 0 d).state) :
    ((s.dir.zip (Table.mapVals f s.dir)).any fun x => q x.1.2.state x.2.2.state) = true ↔
      ∃ k, q (s.display k).state (f k (s.display k)).state = true := by
  rw [zip_mapVals, List.any_map, List.any_eq_true]
  constructor
  · rintro ⟨⟨k, d⟩, hd, hx⟩
    refine ⟨k, ?_⟩
    rw [show s.display k = d by rw [State.display, Table.get_of_mem hw hd]; rfl]
    exact hx
  · rintro ⟨k, hx⟩
    cases hd : Table.get s.dir k with
    | none =>
      have hdisplay : s.display k = Display.freed none := by rw [State.display, hd]; rfl
      rw [hdisplay, hf, hq] at hx
      cases hx
    | some d =>
      rw [show s.display k = d by rw [State.display, hd]; rfl] at hx
      exact ⟨(k, d), Table.mem_of_get hd, hx⟩

theorem losesPlacement_iff (x y : RecState) : losesPlacement x y = true ↔ x.bound.isSome ∧ y.bound = none := by
  rw [losesPlacement, Bool.and_eq_true, Option.isNone_iff_eq_none]

end

end Sys2Proof.Machine
end

section
/-! PROOFS. The completion of a commit (R14 to R17). -/

namespace Sys2Proof.Machine

/-! ## The stages of the completion -/

section
variable (n : Nat) (s : State)

/-- The new plan is installed, its fields carried over and the records matched again. -/
def commitInstalled : State := (commitMatch (commitCarry s.activePlan (commitConditions (commitStore n s)))).finishWrite

/-- The tally and the programme selection follow the new plan. -/
def commitFollowed : State := commitSelection (commitInstalled n s).retally

/-- The destination list is built from the new plan, and no generation stands. -/
def commitListed : State :=
  { commitFollowed n s with route := { (commitFollowed n s).route
    with dests := (commitFollowed n s).destList, published := none } }

/-- The first computation is started, and the completion reported. -/
def commitReported : State :=
  (((commitListed n s).startComputation.completeOp .planCommit none (.commit n)).raise .safety .reload).raise .hotel .reload

/-- The state after the completion of the commit write `n`. -/
def commitDone : State := (commitReported n s).composeAll.strandedAtStart

theorem commitCompletion_eq {n : Nat} {s : State} (h : s.store.inFlight = some (.commit n)) :
    commitCompletion s = commitDone n s := by
  unfold commitCompletion
  rw [h] <;> rfl

/-- Does a record lose its placement in the new plan? -/
def commitLoses : Bool :=
  (s.dir.zip (Table.mapVals (fun _ (d : Display) => d.rematch s.plan.shadow) s.dir)).any fun x =>
    losesPlacement x.1.2.state x.2.2.state

theorem commitInstalled_rest : commitInstalled n s =
    { s with
      store := { s.store with
        plan := some ⟨s.plan.shadow, n⟩, fixed := [], inFlight := s.store.waiting.map Write.latch, waiting := none }
      plan := { active := some ⟨s.plan.shadow, n⟩, shadow := .empty, edit := .closed }
      cond := { edges := [], slots := [], writing := s.cond.writing, progress := 0, fields := none, remainders := [] }
      muster := { s.muster with
        cabins := carryCabins s.activePlan s.muster.cabins s.plan.shadow
        zoneOverrides := carryZones s.muster.zoneOverrides s.plan.shadow }
      resolver := { s.resolver with parked := Table.keep (fun p _ => Table.has s.plan.shadow.placements p) s.resolver.parked }
      dir := Table.mapVals (fun _ (d : Display) => d.rematch s.plan.shadow) s.dir
      ports := (s.raiseIf (commitLoses s) .safety .orphanSeen).ports } := by
  have hlost : commitInstalled n s = (({ commitCarry s.activePlan (commitConditions (commitStore n s)) with
      dir := Table.mapVals (fun _ (d : Display) => d.rematch s.plan.shadow) s.dir }).raiseIf
        (commitLoses s) .safety .orphanSeen).finishWrite := rfl
  rw [hlost]
  cases commitLoses s <;> rfl

end

/-! ## What each stage leaves -/

section
variable {n : Nat} {s : State}

theorem commitListed_same : SameBut [.muster, .ports, .prog, .route] (commitInstalled n s) (commitListed n s) := by
  refine ((retally_same _).mono (by decide)).trans ?_
  exact ⟨fun p hp => by cases p <;> first | rfl | exact absurd (by decide) hp⟩

theorem commitReported_ports : SameBut [.ports] (commitListed n s).startComputation (commitReported n s) :=
  ((completeOp_same _ .planCommit none (.commit n)).trans (raise_same ..)).trans (raise_same ..)

theorem commitReported_same : SameBut [.route, .ports] (commitListed n s) (commitReported n s) :=
  ((startComputation_same _).mono (by decide)).trans (commitReported_ports.mono (by decide))

theorem commitDone_same : SameBut [.dir, .segs, .muster, .ports] (commitReported n s) (commitDone n s) :=
  ((composeAll_composed _).same.mono (by decide)).trans ((strandedAtStart_same _).mono (by decide))

theorem commitListed_parts : commitListed n s = { commitInstalled n s with
    route := (commitListed n s).route
    prog := { s.prog with venues := (commitListed n s).prog.venues, onBoard := (commitListed n s).prog.onBoard }
    muster := { (commitInstalled n s).muster with
      tally := (commitInstalled n s).retally.muster.tally, tallySerial := (commitInstalled n s).retally.muster.tallySerial }
    ports := (commitInstalled n s).retally.ports } := by
  have hretally := retally_rest (commitInstalled n s)
  have hprog : (commitInstalled n s).prog = s.prog := by rw [commitInstalled_rest]
  unfold commitListed commitFollowed commitSelection
  generalize (commitInstalled n s).retally = u at hretally ⊢
  rw [hretally, ← hprog]

theorem commitListed_plan :
    (commitListed n s).plan = { active := some ⟨s.plan.shadow, n⟩, shadow := .empty, edit := .closed } := by
  rw [commitListed_parts, commitInstalled_rest]

theorem commitListed_route : (commitListed n s).route = { s.route
    with dests := (commitFollowed n s).destList, published := none } := by
  have hroute : (commitFollowed n s).route = s.route := by
    have h : (commitInstalled n s).retally.route = (commitInstalled n s).route := (retally_same _).keeps .route (by decide)
    rw [show (commitFollowed n s).route = (commitInstalled n s).retally.route from rfl, h, commitInstalled_rest]
  rw [← hroute]
  rfl

/-! ## The completed state, part by part -/

theorem commitDone_muster : ∃ m k, (commitDone n s).muster =
    { (commitListed n s).muster with stranded := m, strandedGen := k } := by
  obtain ⟨m, k, h⟩ := strandedAtStart_rest (commitReported n s).composeAll
  have hmuster : (commitReported n s).composeAll.muster = (commitListed n s).muster :=
    (composeAll_composed _).muster_eq.trans (commitReported_same.keeps .muster (by decide))
  exact ⟨m, k, (congrArg State.muster h).trans (by rw [hmuster])⟩

theorem commitDone_route : (commitDone n s).route = (commitListed n s).startComputation.route := by
  rw [commitDone_same.keeps .route (by decide), commitReported_ports.keeps .route (by decide)]

theorem commitDone_plan : (commitDone n s).plan = { active := some ⟨s.plan.shadow, n⟩, shadow := .empty, edit := .closed } := by
  rw [commitDone_same.keeps .plan (by decide), commitReported_same.keeps .plan (by decide), commitListed_plan]

theorem commitDone_prog : (commitDone n s).prog = (commitListed n s).prog := by
  rw [commitDone_same.keeps .prog (by decide), commitReported_same.keeps .prog (by decide)]

theorem commitDone_destList : (commitDone n s).destList = (commitFollowed n s).destList := by
  have hplan : (commitDone n s).plan = (commitFollowed n s).plan := commitDone_plan.trans commitListed_plan.symm
  have hprofile : (commitDone n s).route.profile = (commitFollowed n s).route.profile := by
    rw [commitDone_route, startComputation_profile]
    rfl
  have hprog : (commitDone n s).prog = (commitFollowed n s).prog := commitDone_prog
  rw [State.destList, State.destList, hplan, hprofile, hprog]

theorem commitDone_started : computationStarted ⟨s.plan.shadow, n⟩
    { s.route with dests := (commitDone n s).destList, published := none } (commitDone n s) := by
  have ha : (commitListed n s).plan.active = some ⟨s.plan.shadow, n⟩ := by rw [commitListed_plan]
  have hcond : (commitDone n s).cond = (commitListed n s).startComputation.cond := by
    rw [commitDone_same.keeps .cond (by decide), commitReported_same.keeps .cond (by decide),
      (startComputation_same _).keeps .cond (by decide)]
  rw [commitDone_destList, ← commitListed_route]
  exact (startComputation_started _ ha).congr commitDone_route hcond

theorem commitDone_strands : strandedFollows True s (commitDone n s) := by
  have ha : (commitListed n s).plan.active = some ⟨s.plan.shadow, n⟩ := by rw [commitListed_plan]
  have hplan : (commitReported n s).composeAll.plan = (commitListed n s).plan :=
    (composeAll_composed _).plan_eq.trans (commitReported_same.keeps .plan (by decide))
  have hmuster : (commitReported n s).composeAll.muster = (commitListed n s).muster :=
    (composeAll_composed _).muster_eq.trans (commitReported_same.keeps .muster (by decide))
  have hroute : (commitReported n s).composeAll.route = (commitListed n s).startComputation.route :=
    ((strandedAtStart_same _).keeps .route (by decide)).symm.trans commitDone_route
  have hempty : (commitReported n s).composeAll.emptyRun = (commitListed n s).emptyRun := by
    rw [State.emptyRun, State.emptyRun, hplan, hroute, startComputation_dests]
  have hdone : commitDone n s = if (commitListed n s).emptyRun then (commitReported n s).composeAll.rebuildStranded
      else (commitReported n s).composeAll := by
    rw [← hempty]
    rfl
  obtain ⟨hshort, hlong⟩ := hdone ▸ startComputation_strands ha hmuster hroute
  have hstranded : (commitListed n s).muster.stranded = s.muster.stranded ∧
      (commitListed n s).muster.strandedGen = s.muster.strandedGen := by
    rw [commitListed_parts, commitInstalled_rest]
    exact ⟨rfl, rfl⟩
  exact ⟨hshort, fun h => ⟨(hlong h).1.trans hstranded.1, (hlong h).2.trans hstranded.2⟩⟩

end

end Sys2Proof.Machine
end

section
/-! PROOFS. Ports, directory and tally at the completion of a commit (R14, R17, R89, R113, R189). -/

namespace Sys2Proof.Machine

/-! ## The tally and the selection -/

section
variable {n : Nat} {s : State}

/-- The fields carried over, and those the tally and the stranded list take. -/
theorem commitDone_musterFields :
    (commitDone n s).muster.cabins = carryCabins s.activePlan s.muster.cabins s.plan.shadow ∧
    (commitDone n s).muster.zoneOverrides = carryZones s.muster.zoneOverrides s.plan.shadow ∧
    (commitDone n s).muster = { s.muster with
      cabins := (commitDone n s).muster.cabins, zoneOverrides := (commitDone n s).muster.zoneOverrides
      tally := (commitDone n s).muster.tally, tallySerial := (commitDone n s).muster.tallySerial
      stranded := (commitDone n s).muster.stranded, strandedGen := (commitDone n s).muster.strandedGen } := by
  obtain ⟨m, k, h⟩ := commitDone_muster (n := n) (s := s)
  rw [h, commitListed_parts, commitInstalled_rest]
  exact ⟨rfl, rfl, rfl⟩

/-! ## The ports -/

theorem commitListed_raised : RaisedOnly (commitInstalled n s) (commitListed n s).startComputation := by
  refine (retally_raisedOnly _).trans (.of_ports ?_)
  rw [(startComputation_same _).keeps .ports (by decide)]
  rfl

theorem commitDone_raised :
    RaisedOnly ((commitListed n s).startComputation.completeOp .planCommit none (.commit n)) (commitDone n s) := by
  refine .trans (raise_raisedOnly _ (l := .safety) (x := .reload) (by decide)) ?_
  refine .trans (raise_raisedOnly _ (l := .hotel) (x := .reload) (by decide)) ?_
  exact .trans (.of_ports (composeAll_composed (commitReported n s)).ports_eq) (strandedAtStart_raisedOnly _)

theorem completeOp_orphan (u : State) (k : OpKind) (g : Option Seg) (o : OpOutcome) :
    .orphanSeen ∈ ((u.completeOp k g o).port .safety).pendingSet ↔ .orphanSeen ∈ (u.port .safety).pendingSet := by
  rw [State.completeOp, (raise_raisedOnly _ (x := .operationDone) (by decide)).orphan, State.port_modPort, endOp_rest]

theorem completeOp_pendingStays (u : State) (k : OpKind) (g : Option Seg) (o : OpOutcome) :
    pendingStays u (u.completeOp k g o) := by
  refine .trans (t := u.modPort .safety fun p => p.endOp k g o) (fun l x _ hp => ?_) (raise_pendingStays _ _ _)
  cases l with
  | safety =>
    rw [State.port_modPort, endOp_rest]
    exact hp
  | hotel =>
    rw [State.port_modPort_ne _ _ _ _ (by decide)]
    exact hp

theorem commitDone_reload : .reload ∈ ((commitDone n s).port .safety).pendingSet ∧
    .reload ∈ ((commitDone n s).port .hotel).pendingSet := by
  have hrest : pendingStays (commitReported n s) (commitDone n s) :=
    (pendingStays.of_ports (composeAll_composed (commitReported n s)).ports_eq).trans (strandedAtStart_raisedOnly _).stays
  refine ⟨hrest _ _ (by decide) ?_, hrest _ _ (by decide) (raise_pending (by decide))⟩
  exact raise_pendingStays _ _ _ _ _ (by decide) (raise_pending (by decide))

theorem commitInstalled_port (l : LinkId) :
    (commitInstalled n s).port l = { s.port l with pendingSet := ((commitInstalled n s).port l).pendingSet } := by
  rw [State.port, commitInstalled_rest]
  exact raiseIf_port_rest s (commitLoses s) .safety l .orphanSeen

theorem commitDone_tally : tallyFollows s (commitDone n s) := by
  obtain ⟨m, k, h⟩ := commitDone_muster (n := n) (s := s)
  have hplan : (commitDone n s).plan = (commitInstalled n s).retally.plan := commitDone_plan.trans commitListed_plan.symm
  have hraised : RaisedOnly (commitInstalled n s).retally (commitListed n s).startComputation :=
    .of_ports ((startComputation_same _).keeps .ports (by decide))
  have hstays : pendingStays (commitInstalled n s).retally (commitDone n s) :=
    hraised.stays.trans ((completeOp_pendingStays _ .planCommit none (.commit n)).trans commitDone_raised.stays)
  obtain ⟨hcounts, hserial, hclear⟩ : tallyFollows (commitInstalled n s) (commitDone n s) := by
    refine (retally_follows (commitInstalled n s)).congr ?_ ?_ ?_ ?_ hstays
    · rw [State.activePlan, State.activePlan, hplan]
    all_goals rw [h]; rfl
  have hmuster : (commitInstalled n s).muster = { s.muster with
      cabins := (commitInstalled n s).muster.cabins, zoneOverrides := (commitInstalled n s).muster.zoneOverrides } := by
    rw [commitInstalled_rest]
  rw [hmuster] at hserial hclear
  exact ⟨hcounts, hserial, hclear⟩

theorem commitDone_onBoard {now : Nat} (hnow : s.now = some now) (hw : Table.wf s.prog.events = true) :
    isEarliest (fun e => Table.has s.plan.shadow.venues e.venue = true ∧ comesUp s now e) s.prog.events
      (commitDone n s).prog.onBoard := by
  have hplan : (commitInstalled n s).retally.plan.active = some ⟨s.plan.shadow, n⟩ := congrArg PlanStore.active commitListed_plan
  have hprog : (commitInstalled n s).retally.prog = s.prog := by
    rw [(retally_same _).keeps .prog (by decide), commitInstalled_rest]
  have hchosen : (commitDone n s).prog.onBoard = (commitInstalled n s).retally.chosenOnBoard :=
    congrArg (·.onBoard) commitDone_prog
  rw [hchosen, State.chosenOnBoard, State.now, State.activePlan, hprog, hplan]
  rw [State.now] at hnow
  rw [hnow]
  refine earliest_isEarliest
    (q := fun e => Table.has s.plan.shadow.venues e.venue && upcoming now s.prog.lookahead e) (fun e => ?_) hw
  rw [Bool.and_eq_true, upcoming_iff]

/-! ## The directory -/

theorem commitReported_display (k : Nat) : (commitReported n s).display k = (s.display k).rematch s.plan.shadow := by
  refine display_mapVals (s := s) (f := fun _ d => d.rematch s.plan.shadow) ?_ k rfl
  rw [commitReported_same.keeps .dir (by decide), commitListed_same.keeps .dir (by decide), commitInstalled_rest]

theorem commitReported_segs : (commitReported n s).segs = s.segs := by
  rw [commitReported_same.keeps .segs (by decide), commitListed_same.keeps .segs (by decide), commitInstalled_rest]

theorem commitDone_display (k : Nat) : cardsOnly ((s.display k).rematch s.plan.shadow) ((commitDone n s).display k) := by
  have h := (composeAll_composed (commitReported n s)).cards k
  rw [commitReported_display] at h
  have hdir : (commitDone n s).dir = (commitReported n s).composeAll.dir := (strandedAtStart_same _).keeps .dir (by decide)
  rw [show (commitDone n s).display k = (commitReported n s).composeAll.display k by rw [State.display, State.display, hdir]]
  exact h

theorem commitDone_isComposed {k : Nat} (hk : (s.display k).state ≠ .free) : isComposed (commitDone n s) k := by
  have hcomposed : isComposed (commitReported n s).composeAll k := by
    refine composeAll_all _ k ?_
    rw [(composeAll_composed _).state_eq, commitReported_display]
    exact fun hf => hk (RecState.rebind_eq_free.mp hf)
  obtain ⟨m, p, h⟩ := strandedAtStart_rest (commitReported n s).composeAll
  rw [commitDone, h]
  exact (isComposed_congr (fun _ => rfl) rfl rfl).mpr hcomposed

theorem commitDone_orphans (hw : Table.wf s.dir = true) : orphansSeen s (commitDone n s) := by
  rw [orphansSeen, commitDone_raised.orphan, completeOp_orphan, commitListed_raised.orphan]
  have hports : (commitInstalled n s).port .safety = (s.raiseIf (commitLoses s) .safety .orphanSeen).port .safety := by
    rw [State.port, commitInstalled_rest]
    rfl
  rw [hports, orphan_raiseIf, commitLoses,
    any_rewritten (f := fun _ d => d.rematch s.plan.shadow) hw losesPlacement rfl fun _ _ => rfl]
  refine or_congr_right (exists_congr fun k => ?_)
  rw [losesPlacement_iff, (commitDone_display k).1]

end

end Sys2Proof.Machine
end

section
/-! PROOFS. The completion of a commit as one statement (R14 to R17). -/

namespace Sys2Proof.Machine

section
variable {n : Nat} {s : State}

theorem opEntered.of_port {k : OpKind} {g : Option Seg} {o : OpOutcome} {p p' q : Port} (h : opEntered k g o p' q)
    (hi : p'.inFlight = p.inFlight) (hl : p'.lastDone = p.lastDone) : opEntered k g o p q := by
  unfold opEntered at *
  rwa [← hi, ← hl]

/-- Before the operation completes, the ports differ from those of `s` in the sources pending alone. -/
theorem commitStarted_port (l : LinkId) : (commitListed n s).startComputation.port l =
    { s.port l with pendingSet := ((commitListed n s).startComputation.port l).pendingSet } := by
  rw [commitListed_raised.port l, commitInstalled_port]

theorem commitDone_safetyPort : .operationDone ∈ ((commitDone n s).port .safety).pendingSet ∧
    opEntered .planCommit none (.commit n) (s.port .safety) ((commitDone n s).port .safety) ∧
    (commitDone n s).port .safety = { s.port .safety with
      pendingSet := ((commitDone n s).port .safety).pendingSet, inFlight := ((commitDone n s).port .safety).inFlight
      lastDone := ((commitDone n s).port .safety).lastDone } := by
  obtain ⟨hdone, hentered, hport, -⟩ := completeOp_port (commitListed n s).startComputation .planCommit none (.commit n)
  have hafter := commitDone_raised (n := n) (s := s).port .safety
  refine ⟨commitDone_raised.stays _ _ (by decide) hdone, ?_, ?_⟩
  · refine (hentered.of_port ?_ ?_).congr ?_ ?_
    · rw [commitStarted_port]
    · rw [commitStarted_port]
    · rw [hafter]
    · rw [hafter]
  · rw [hafter, hport, commitStarted_port]

theorem commitDone_hotelPort : (commitDone n s).port .hotel =
    { s.port .hotel with pendingSet := ((commitDone n s).port .hotel).pendingSet } := by
  obtain ⟨-, -, -, hport⟩ := completeOp_port (commitListed n s).startComputation .planCommit none (.commit n)
  rw [commitDone_raised.port .hotel, hport, commitStarted_port]

theorem commitDone_frame :
    SameBut [.store, .plan, .cond, .route, .prog, .muster, .resolver, .dir, .segs, .ports] s (commitDone n s) := by
  refine SameBut.trans (t := commitInstalled n s) ?_ ((commitListed_same.mono (by decide)).trans
    ((commitReported_same.mono (by decide)).trans (commitDone_same.mono (by decide))))
  rw [commitInstalled_rest]
  exact ⟨fun p hp => by cases p <;> first | rfl | exact absurd (by decide) hp⟩

theorem commitDone_of_installed (p : Part) (hp : p ∉ [.route, .prog, .muster, .dir, .segs, .ports]) :
    p.same (commitInstalled n s) (commitDone n s) :=
  (((commitListed_same.mono (by decide)).trans ((commitReported_same.mono (by decide)).trans
    (commitDone_same.mono (by decide)))) : SameBut [.route, .prog, .muster, .dir, .segs, .ports] _ _).keeps p hp

theorem commitDone_progFields : (commitDone n s).prog =
    { s.prog with venues := (commitDone n s).prog.venues, onBoard := (commitDone n s).prog.onBoard } := by
  rw [commitDone_prog]
  exact congrArg State.prog commitListed_parts

end

/-- Settles O12: the completion in stages, each followed to its end. -/
theorem commitCompletionInstallsThePlan : Obligations.CommitCompletionInstallsThePlan := by
  intro n s hn
  have hexec : exec .commitCompletion s = .next (commitCompletion s.begin) := rfl
  rw [commitCompletion_eq (s := s.begin) hn] at hexec
  refine ⟨commitDone n s.begin, hexec, commitDone_plan, ?_, ?_, commitDone_started (s := s.begin), commitDone_strands
    (s := s.begin), ?_⟩
  · rw [commitDone_of_installed .store (by decide), commitInstalled_rest]
    rfl
  · rw [commitDone_of_installed .cond (by decide), commitInstalled_rest]
    rfl
  obtain ⟨hcabins, hzones, hmuster⟩ := commitDone_musterFields (n := n) (s := s.begin)
  refine ⟨hcabins, hzones, hmuster, commitDone_tally (s := s.begin), ?_, commitDone_progFields (s := s.begin),
    fun now hnow hw => commitDone_onBoard (s := s.begin) hnow hw, fun k => commitDone_display (s := s.begin) k, fun g => ?_,
      fun k hk =>
    commitDone_isComposed (s := s.begin) hk, fun hw => commitDone_orphans (s := s.begin) hw, commitDone_reload.1,
      commitDone_reload.2, ?_⟩
  · rw [commitDone_of_installed .resolver (by decide), commitInstalled_rest]
    rfl
  · have h := (composeAll_composed (commitReported n s.begin)).queues g
    have hsegs : (commitDone n s.begin).segs = (commitReported n s.begin).composeAll.segs := (strandedAtStart_same _).keeps
      .segs (by decide)
    rw [State.seg, commitReported_segs] at h
    rw [State.seg, State.seg, hsegs]
    exact h
  · obtain ⟨hdone, hentered, hport⟩ := commitDone_safetyPort (n := n) (s := s.begin)
    exact ⟨hdone, hentered, hport, commitDone_hotelPort (s := s.begin), ((begin_same s).mono (by decide)).trans commitDone_frame⟩

end Sys2Proof.Machine
end

section
/-! PROOFS. BIND: its checks, and the plans and records after its completion (R21, R22). -/

namespace Sys2Proof.Machine

/-! ## The checks -/

theorem bindDisplay_settle (tag : Byte) (p : Nat) (g : Seg) (a : Nat) (t : State) :
    settle .safety tag 0x14#8 (bindDisplay tag p g a t) =
      if t.plan.edit ≠ .closed ∨ t.store.inFlight.isSome ∨ t.store.waiting.isSome then t.answer .safety tag 0x14#8 (.refuse .busy)
      else match Table.get t.activePlan.placements p, (t.display (recKey g a)).identity with
        | some pl, some i =>
          if (t.display (recKey g a)).state = .free then t.answer .safety tag 0x14#8 (.refuse .notFound)
          else if pl.expected = some i then t.answer .safety tag 0x14#8 .ok
          else
            ((t.startWrite (.bind p i (bindLoser t.activePlan p i))).beginOp .safety ⟨.bind, tag, none⟩).answer .safety tag 0x14#8
              .accepted
        | _, _ => t.answer .safety tag 0x14#8 (.refuse .notFound) := by
  unfold bindDisplay
  by_cases hedit : t.plan.edit = .closed
  · rw [if_neg (not_not_intro hedit)]
    by_cases hbusy : t.storeBusy = true
    · rw [if_pos hbusy, if_pos (.inr ((storeBusy_iff t).mp hbusy))]
      rfl
    · rw [if_neg hbusy, if_neg fun h => hbusy ((storeBusy_iff t).mpr (h.resolve_left (not_not_intro hedit)))]
      cases Table.get t.activePlan.placements p with
      | none => rfl
      | some pl =>
        dsimp only
        cases (t.display (recKey g a)).identity with
        | none =>
          dsimp only
          split <;> rfl
        | some i =>
          dsimp only
          split
          · rfl
          · split <;> rfl
  · rw [if_pos hedit, if_pos (.inl hedit)]
    rfl

/-! ## The plans -/

theorem setExpected_rest (p : Plan) (k : Nat) (e : Option Identity) :
    setExpected p k e = { p with placements := (setExpected p k e).placements } := by
  unfold setExpected
  split <;> rfl

theorem applyBind_rest (p : Plan) (k : Nat) (i : Identity) (l : Option Nat) :
    applyBind p k i l = { p with placements := (applyBind p k i l).placements } := by
  unfold applyBind
  cases l with
  | none => exact setExpected_rest ..
  | some m =>
    dsimp only
    rw [setExpected_rest, setExpected_rest p m]

theorem bindLoser_eq_some_iff {P : Plan} (hw : Table.wf P.placements = true) (hd : expectedDistinct P) (p q : Nat) (i : Identity) :
    bindLoser P p i = some q ↔ q ≠ p ∧ ∃ x, Table.get P.placements q = some x ∧ x.expected = some i := by
  constructor
  · intro h
    obtain ⟨j, x, hx, hf⟩ := Table.of_first_eq_some h
    split at hf
    · obtain ⟨hj, hi⟩ := ‹_ ∧ _›
      obtain rfl := Option.some.inj hf
      exact ⟨hj, x, Table.get_of_mem hw hx, hi⟩
    · cases hf
  · rintro ⟨hq, x, hx, hi⟩
    exact bindLoser_eq hw hd hq hx hi

/-- The placements other than the target give the identity up (R22). -/
theorem get_applyBind_other {P : Plan} (hw : Table.wf P.placements = true) (hd : expectedDistinct P) {p q : Nat} (i : Identity)
    (hq : q ≠ p) : Table.get (applyBind P p i (bindLoser P p i)).placements q =
      (Table.get P.placements q).map fun x => if x.expected = some i then { x with expected := none } else x := by
  rw [get_applyBind P p i (bindLoser_ne P p i), if_neg hq]
  cases hx : Table.get P.placements q with
  | none =>
    split <;> rfl
  | some x =>
    have hloser : bindLoser P p i = some q ↔ x.expected = some i := by
      rw [bindLoser_eq_some_iff hw hd]
      exact ⟨fun ⟨_, y, hy, hi⟩ => Option.some.inj (hx.symm.trans hy) ▸ hi, fun hi => ⟨hq, x, hx, hi⟩⟩
    by_cases hi : x.expected = some i
    · rw [if_pos (hloser.mpr hi), Option.map_some, Option.map_some, if_pos hi]
    · rw [if_neg fun h => hi (hloser.mp h), Option.map_some, if_neg hi]

/-! ## The records -/

section
variable {d : Display} {p : Nat} {i : Identity} {l : Option Nat}

theorem bindState_holder (hi : d.identity = some i) : bindState d p i l = d.state.rebind (some p) := by
  by_cases hf : d.state = .free
  · rw [bindState, if_pos hf, hf]
    rfl
  · rw [bindState, if_neg hf, if_pos hi]

theorem bindState_unbound {q : Nat} (hi : d.identity ≠ some i) (hq : d.state.bound = some q) (h : q = p ∨ l = some q) :
    bindState d p i l = d.state.rebind none := by
  have hfree : d.state ≠ .free := fun hf => by
    rw [hf] at hq
    cases hq
  rw [bindState, if_neg hfree, if_neg hi, hq]
  refine if_pos (h.imp (congrArg some) fun hl => ?_)
  rw [hl]
  exact ⟨rfl, rfl⟩

theorem bindState_other (hi : d.identity ≠ some i) (h : ∀ q, d.state.bound = some q → ¬ (q = p ∨ l = some q)) :
    bindState d p i l = d.state := by
  by_cases hf : d.state = .free
  · rw [bindState, if_pos hf, hf]
  · rw [bindState, if_neg hf, if_neg hi]
    refine if_neg fun hbound => ?_
    rcases hbound with hbound | ⟨hsome, hbound⟩
    · exact h p hbound (.inl rfl)
    · obtain ⟨q, rfl⟩ := Option.isSome_iff_exists.mp hsome
      exact h q hbound (.inr rfl)

end

/-- The keys of the records that a change of all records together changes the state of. -/
theorem mem_restated {s : State} {f : Nat → Display → Display} (hw : Table.wf s.dir = true)
    (hf : ∀ k, f k (Display.freed none) = Display.freed none)
    (k : Nat) : (k ∈ (s.dir.zip (Table.mapVals f s.dir)).filterMap fun x => if x.1.2.state = x.2.2.state then none else some
      x.1.1) ↔
      (f k (s.display k)).state ≠ (s.display k).state := by
  rw [zip_mapVals, List.filterMap_map, List.mem_filterMap]
  constructor
  · rintro ⟨⟨j, d⟩, hd, hx⟩
    dsimp only [Function.comp] at hx
    split at hx
    · cases hx
    · obtain rfl := Option.some.inj hx
      rw [show s.display j = d by rw [State.display, Table.get_of_mem hw hd]; rfl]
      exact fun h => ‹¬ _› h.symm
  · intro hne
    cases hd : Table.get s.dir k with
    | none =>
      rw [State.display_of_get hd, hf] at hne
      exact absurd rfl hne
    | some d =>
      rw [show s.display k = d by rw [State.display, hd]; rfl] at hne
      exact ⟨(k, d), Table.mem_of_get hd, if_neg fun h => hne h.symm⟩

/-- The record that the outcome of a bind names (R189). -/
theorem placedOn_eq_none_iff {t : State} (hw : Table.wf t.dir = true) (p : Nat) :
    placedOn t.dir p = none ↔ ∀ k, (t.display k).state ≠ .placed p := by
  rw [placedOn, Table.first_eq_none_iff]
  constructor
  · intro h k hk
    cases hd : Table.get t.dir k with
    | none =>
      rw [State.display_of_get hd] at hk
      cases hk
    | some d =>
      rw [show t.display k = d by rw [State.display, hd]; rfl] at hk
      have hnone := h k d (Table.mem_of_get hd)
      rw [if_pos hk] at hnone
      cases hnone
  · intro h k d hd
    refine if_neg fun hk => h k ?_
    rw [State.display, Table.get_of_mem hw hd]
    exact hk

theorem placedOn_eq_some {t : State} (hw : Table.wf t.dir = true) {p : Nat} {g : Seg} {e : Nat}
    (h : placedOn t.dir p = some (g, e)) :
    ∃ k, (t.display k).state = .placed p ∧ keySeg k = g ∧ keyAddr k = e := by
  obtain ⟨k, d, hd, hf⟩ := Table.of_first_eq_some h
  split at hf
  · cases hf
    refine ⟨k, ?_, rfl, rfl⟩
    rw [State.display, Table.get_of_mem hw hd]
    exact ‹d.state = .placed p›
  · cases hf

end Sys2Proof.Machine
end

section
/-! PROOFS. The completion of a bind (R22, R189). -/

namespace Sys2Proof.Machine

section
variable (p : Nat) (i : Identity) (l : Option Nat) (s : State)

/-- A record after the bind write. -/
def boundDisplay (d : Display) : Display := { d with state := bindState d p i l }

/-- Does a record lose its placement to the bind? -/
def bindLoses : Bool :=
  (s.dir.zip (Table.mapVals (fun _ => boundDisplay p i l) s.dir)).any fun x => losesPlacement x.1.2.state x.2.2.state

/-- The keys of the records whose binding changed. -/
def bindChanged : List Nat :=
  (s.dir.zip (Table.mapVals (fun _ => boundDisplay p i l) s.dir)).filterMap fun x =>
    if x.1.2.state = x.2.2.state then none else some x.1.1

/-- The plans and the records are changed, the write is over, and ORPHAN_SEEN raised. -/
def bindInstalled : State := (boundRecords p i l s).finishWrite.raiseIf (bindLoses p i l s) .safety .orphanSeen

/-- The completion is reported. -/
def bindReported : State := (bindInstalled p i l s).completeOp .bind none (.bind p i (placedOn (boundRecords p i l s).dir p))

/-- The state after the completion of the bind write. -/
def bindDone : State := (bindReported p i l s).composeWhere fun k _ => (bindChanged p i l s).contains k

variable {p i l s}

theorem bindCompletion_eq (h : s.store.inFlight = some (.bind p i l)) : bindCompletion s = bindDone p i l s := by
  unfold bindCompletion
  rw [h] <;> rfl

theorem bindReported_same : SameBut [.ports] (boundRecords p i l s).finishWrite (bindReported p i l s) :=
  SameBut.trans (t := bindInstalled p i l s) (raiseIf_same ..) (completeOp_same ..)

theorem bindDone_same : SameBut [.dir, .segs, .ports] (boundRecords p i l s).finishWrite (bindDone p i l s) :=
  (bindReported_same.mono (by decide)).trans ((composeWhere_composed ..).same.mono (by decide))

theorem bindReported_dir : (bindReported p i l s).dir = Table.mapVals (fun _ => boundDisplay p i l) s.dir :=
  bindReported_same.keeps .dir (by decide)

theorem bindReported_display (k : Nat) : (bindReported p i l s).display k = boundDisplay p i l (s.display k) :=
  display_mapVals (s := s) (f := fun _ => boundDisplay p i l) bindReported_dir k rfl

theorem bindDone_display (k : Nat) : cardsOnly (boundDisplay p i l (s.display k)) ((bindDone p i l s).display k) := by
  have h := (composeWhere_composed (bindReported p i l s) fun k _ => (bindChanged p i l s).contains k).cards k
  rwa [bindReported_display] at h

theorem bindDone_state (k : Nat) : ((bindDone p i l s).display k).state = bindState (s.display k) p i l := by
  rw [(bindDone_display k).1]
  rfl

/-! ## The records -/

theorem mem_bindChanged (hw : Table.wf s.dir = true) (k : Nat) :
    (bindChanged p i l s).contains k = true ↔ bindState (s.display k) p i l ≠ (s.display k).state := by
  rw [List.contains_iff_mem]
  exact mem_restated (f := fun _ => boundDisplay p i l) hw (fun _ => rfl) k

theorem bindDone_handedOff (hw : Table.wf s.dir = true) :
    handedOff (fun k _ => (bindChanged p i l s).contains k) (bindReported p i l s) (bindDone p i l s) :=
  composeWhere_handedOff (by rw [bindReported_dir]; exact Table.wf_mapVals _ hw) _

theorem bindDone_isComposed (hw : Table.wf s.dir = true) {k : Nat} (h : bindState (s.display k) p i l ≠ (s.display k).state) :
    isComposed (bindDone p i l s) k := by
  have hfree : ((bindReported p i l s).display k).state ≠ .free := by
    rw [bindReported_display]
    exact fun hf => h ((bindState_eq_free.mp hf) ▸ hf)
  have hk := (bindDone_handedOff hw).2.2 k hfree
  rwa [if_pos ((mem_bindChanged hw k).mpr h)] at hk

theorem bindDone_untouched (hw : Table.wf s.dir = true) {k : Nat} (h : bindState (s.display k) p i l = (s.display k).state) :
    (bindDone p i l s).display k = s.display k := by
  have hbound : boundDisplay p i l (s.display k) = s.display k := by rw [boundDisplay, h]
  by_cases hf : (s.display k).state = .free
  · have hcards := bindDone_display (p := p) (i := i) (l := l) (s := s) k
    rw [hbound] at hcards
    exact hcards.2 hf
  · have hk := (bindDone_handedOff (p := p) (i := i) (l := l) hw).2.2 k (by rw [bindReported_display, hbound]; exact hf)
    rw [if_neg fun hc => (mem_bindChanged hw k).mp hc h, bindReported_display, hbound] at hk
    exact hk

/-! ## The ports -/

theorem bindInstalled_port (m : LinkId) :
    (bindInstalled p i l s).port m = { s.port m with pendingSet := ((bindInstalled p i l s).port m).pendingSet } :=
  raiseIf_port_rest (boundRecords p i l s).finishWrite (bindLoses p i l s) .safety m .orphanSeen

theorem bindDone_port (m : LinkId) : (bindDone p i l s).port m = (bindReported p i l s).port m := by
  have hports : (bindDone p i l s).ports = (bindReported p i l s).ports := (composeWhere_composed ..).ports_eq
  rw [State.port, State.port, hports]

theorem bindInstalled_hotel : (bindInstalled p i l s).port .hotel = s.port .hotel := by
  unfold bindInstalled
  cases bindLoses p i l s with
  | true =>
    rw [State.raiseIf_true, State.raise, State.port_modPort_ne _ _ _ _ (by decide)]
    rfl
  | false => rfl

theorem bindDone_orphans (hw : Table.wf s.dir = true) : orphansSeen s (bindDone p i l s) := by
  have hlost := orphan_raiseIf (boundRecords p i l s).finishWrite (bindLoses p i l s)
  rw [orphansSeen, bindDone_port, bindReported, completeOp_orphan]
  refine hlost.trans (or_congr Iff.rfl ?_)
  rw [bindLoses, any_rewritten (f := fun _ => boundDisplay p i l) hw losesPlacement rfl fun _ _ => rfl]
  refine exists_congr fun k => ?_
  rw [losesPlacement_iff, bindDone_state]
  rfl

theorem bindDone_safetyPort : .operationDone ∈ ((bindDone p i l s).port .safety).pendingSet ∧
    opEntered .bind none (.bind p i (placedOn (boundRecords p i l s).dir p)) (s.port .safety) ((bindDone p i l s).port .safety) ∧
    (bindDone p i l s).port .safety = { s.port .safety with
      pendingSet := ((bindDone p i l s).port .safety).pendingSet, inFlight := ((bindDone p i l s).port .safety).inFlight
      lastDone := ((bindDone p i l s).port .safety).lastDone } ∧
    (bindDone p i l s).port .hotel = s.port .hotel := by
  obtain ⟨hdone, hentered, hport, hhotel⟩ :=
    completeOp_port (bindInstalled p i l s) .bind none (.bind p i (placedOn (boundRecords p i l s).dir p))
  rw [bindDone_port, bindDone_port]
  refine ⟨hdone, hentered.of_port ?_ ?_, ?_, hhotel.trans bindInstalled_hotel⟩
  · rw [bindInstalled_port]
  · rw [bindInstalled_port]
  · rw [bindInstalled_port] at hport
    exact hport

end

end Sys2Proof.Machine
end

section
/-! PROOFS. A bind gives the placement its identity (R21, R22). -/

namespace Sys2Proof.Machine

section
variable {p : Nat} {i : Identity} {a : ActivePlan} {s : State}

/-- The plan after the bind write. -/
def boundPlan (a : ActivePlan) (p : Nat) (i : Identity) : ActivePlan :=
    { a with plan := applyBind a.plan p i (bindLoser a.plan p i) }

theorem bindDone_plan (l : Option Nat) (ha : s.plan.active = some a) :
    (bindDone p i l s).plan = { s.plan with active := some { a with plan := applyBind a.plan p i l } } := by
  rw [bindDone_same.keeps .plan (by decide)]
  unfold boundRecords bindPlans State.finishWrite
  dsimp only
  rw [ha]
  rfl

theorem bindDone_store (l : Option Nat) (ha : s.store.plan = some a) : (bindDone p i l s).store =
    { s.store with
      plan := some { a with plan := applyBind a.plan p i l }, inFlight := s.store.waiting.map Write.latch, waiting := none } := by
  rw [bindDone_same.keeps .store (by decide)]
  unfold boundRecords bindPlans State.finishWrite
  dsimp only
  rw [ha]
  rfl

theorem bindDone_frame (l : Option Nat) : SameBut [.store, .plan, .dir, .segs, .ports] s (bindDone p i l s) := by
  refine SameBut.trans (t := (boundRecords p i l s).finishWrite) ?_ (bindDone_same.mono (by decide))
  exact ⟨fun q hq => by cases q <;> first | rfl | exact absurd (by decide) hq⟩

theorem bindDone_queues (l : Option Nat) (g : Seg) : queueOnly (s.seg g) ((bindDone p i l s).seg g) := by
  have h := (composeWhere_composed (bindReported p i l s) fun k _ => (bindChanged p i l s).contains k).queues g
  rw [State.seg, bindReported_same.keeps .segs (by decide)] at h
  exact h

/-- The placements that the bind write takes an identity from, or gives one to. -/
theorem bindGives_iff (hw : Table.wf a.plan.placements = true) (hd : expectedDistinct a.plan) (q : Nat) :
    (q = p ∨ bindLoser a.plan p i = some q) ↔ q = p ∨ ∃ x, Table.get a.plan.placements q = some x ∧ x.expected = some i := by
  rw [bindLoser_eq_some_iff hw hd]
  by_cases hq : q = p
  · exact iff_of_true (.inl hq) (.inl hq)
  · exact or_congr_right ⟨fun h => h.2, fun h => ⟨hq, h⟩⟩

theorem boundRecords_state (l : Option Nat) (k : Nat) : ((boundRecords p i l s).display k).state =
    ((bindDone p i l s).display k).state := by
  rw [bindDone_state, display_mapVals (s := s) (f := fun _ => boundDisplay p i l) rfl k rfl]
  rfl

theorem bindDone_names (l : Option Nat) (hw : Table.wf s.dir = true) :
    placedOn (boundRecords p i l s).dir p = none ↔ ∀ k, ((bindDone p i l s).display k).state ≠ .placed p := by
  rw [placedOn_eq_none_iff (Table.wf_mapVals _ hw)]
  simp only [boundRecords_state]

theorem bindDone_named (l : Option Nat) (hw : Table.wf s.dir = true) (hv : addressesValid s) {g : Seg} {e : Nat}
    (h : placedOn (boundRecords p i l s).dir p = some (g, e)) : ((bindDone p i l s).display (recKey g e)).state = .placed p := by
  obtain ⟨k, hk, rfl, rfl⟩ := placedOn_eq_some (Table.wf_mapVals _ hw) h
  rw [boundRecords_state] at hk
  have hfree : (s.display k).state ≠ .free := fun hf => by
    rw [bindDone_state, bindState_eq_free.mpr hf] at hk
    cases hk
  rwa [recKey_of_keyValid (hv.keyValid_of_state hfree)]

end

/-- Settles O13: the checks in their order, then the bind write's plans, records and outcome. -/
theorem bindGivesThePlacementItsIdentity : Obligations.BindGivesThePlacementItsIdentity := by
  constructor
  · intro tag body p g a s hr hbody
    refine congrArg Host.Outcome.next ((takeRequest_taken hr rfl).trans ?_)
    rw [hbody]
    exact bindDisplay_settle tag p g a (requestTaken .safety s)
  intro p i a pl s hwrite ha hstored hw hdir hp hd
  have hloser : ∀ q, _ := bindGives_iff (p := p) (i := i) hw hd
  have hexec : exec .bindCompletion s = .next (bindCompletion s.begin) := rfl
  rw [bindCompletion_eq (s := s.begin) hwrite] at hexec
  obtain ⟨hdone, hentered, hport, hhotel⟩ := bindDone_safetyPort (p := p) (i := i) (l := bindLoser a.plan p i) (s := s.begin)
  refine ⟨bindDone p i (bindLoser a.plan p i) s.begin, boundPlan a p i, _, hexec, bindDone_plan (s := s.begin) _ ha,
    bindDone_store (s := s.begin) _ hstored, rfl, applyBind_rest .., ?_, fun q hq => get_applyBind_other hw hd i hq,
    fun k hi => ?_, fun k q hi hq hg => ?_, fun k hi hno => ?_, fun k hk => ?_, fun g => bindDone_queues (s := s.begin) _ g,
    bindDone_orphans (s := s.begin) hdir, hentered, bindDone_names (s := s.begin) _ hdir,
    fun hv g e h => bindDone_named (s := s.begin) _ hdir hv h, hdone, hhotel, hport,
    ((begin_same s).mono (by decide)).trans (bindDone_frame (s := s.begin) _)⟩
  · rw [show (boundPlan a p i).plan = applyBind a.plan p i (bindLoser a.plan p i) from rfl,
      get_applyBind _ _ _ (bindLoser_ne a.plan p i), if_pos rfl, hp]
    rfl
  · rw [← bindState_holder (p := p) (l := bindLoser a.plan p i) hi]
    exact bindDone_display (s := s.begin) k
  · rw [← bindState_unbound (p := p) (l := bindLoser a.plan p i) hi hq ((hloser q).mpr hg)]
    exact bindDone_display (s := s.begin) k
  · exact bindDone_untouched (s := s.begin) hdir (bindState_other hi fun q hq hg => hno q hq ((hloser q).mp hg))
  · rw [bindDone_state] at hk
    exact bindDone_isComposed (s := s.begin) hdir hk

end Sys2Proof.Machine
end
